-- ==== Sys2Proof/Word.lean ====
section
/-! DEFINITION. The byte, and tables: a fixed number of like things, with the plainest accessors. -/

namespace Sys2Proof

/-- One byte of a frame, a page, a record or a request body. -/
abbrev Byte := BitVec 8

/-- A fixed number of like things, entry `i` for `i : Fin n`. -/
abbrev Table (α : Type) (n : Nat) := Vector α n

namespace Table

variable {α β : Type} {n : Nat}

/-- Entry `i`. -/
def get (t : Table α n) (i : Fin n) : α := t[i.val]'i.isLt

/-- The table whose entry `i` is `f i`. -/
def make (f : Fin n → α) : Table α n := Vector.ofFn f

/-- The table all of whose entries are `x`. -/
def all (x : α) : Table α n := Vector.replicate n x

/-- The table with entry `i` replaced by `x`. -/
def put (t : Table α n) (i : Fin n) (x : α) : Table α n := t.set i.val x i.isLt

/-- The table with entry `i` changed by `f`. -/
def change (t : Table α n) (i : Fin n) (f : α → α) : Table α n := put t i (f (get t i))

/-- The table whose entry `i` is `f i` applied to the old entry. -/
def each (t : Table α n) (f : Fin n → α → β) : Table β n := make fun i => f i (get t i)

@[simp] theorem get_make (f : Fin n → α) (i : Fin n) : get (make f) i = f i := by
  simp [get, make]

@[simp] theorem get_all (x : α) (i : Fin n) : get (all x : Table α n) i = x := by
  simp [get, all]

@[simp] theorem get_put_same (t : Table α n) (i : Fin n) (x : α) : get (put t i x) i = x := by
  simp [get, put]

theorem get_put (t : Table α n) (i j : Fin n) (x : α) :
    get (put t i x) j = if i = j then x else get t j := by
  simp only [get, put, Vector.getElem_set, Fin.ext_iff]

theorem get_put_other (t : Table α n) (i j : Fin n) (x : α) (h : i ≠ j) :
    get (put t i x) j = get t j := by
  simp [get_put, h]

@[simp] theorem get_change_same (t : Table α n) (i : Fin n) (f : α → α) :
    get (change t i f) i = f (get t i) := by
  simp [change]

theorem get_change_other (t : Table α n) (i j : Fin n) (f : α → α) (h : i ≠ j) :
    get (change t i f) j = get t j := by
  simp [change, get_put_other _ _ _ _ h]

@[simp] theorem get_each (t : Table α n) (f : Fin n → α → β) (i : Fin n) :
    get (each t f) i = f i (get t i) := by
  simp [each]

/-- Two tables with the same entries are the same table. -/
theorem ext_get {t u : Table α n} (h : ∀ i, get t i = get u i) : t = u := by
  apply Vector.ext
  intro i hi
  exact h ⟨i, hi⟩

end Table

end Sys2Proof
end

