-- ==== Sys2Proof/Syntax.lean ====
section
/-! DEFINITION. The commands of the part: one constructor per row of spec/opcode_table.json. -/

namespace Sys2Proof

/-- What stops the part (R186). -/
inductive StopCause where
  /-- The reset line is asserted. -/
  | line
  /-- Supply is lost. -/
  | supply
  deriving DecidableEq, Repr

/-- What a stop leaves of the writes under way: the environment decides it (R131, R135). -/
structure WriteCut where
  /-- How many bytes of a record write in progress have been programmed (R135 (1)). -/
  programmed : Nat
  /-- The header of the segment just opened was cut off (R135 (3)). -/
  headerCut : Bool
  /-- The stop falls between the two mark writes of a clear, the second not begun (R131). -/
  betweenMarks : Bool
  deriving DecidableEq, Repr

/-- The commands (steps) of the NH-840, in the order of spec/opcode_table.json. A host request carries the tag and the
body of its frame; a received frame or page carries the bytes received since the hunt for it began; the outcome of a
programming or erase step that the part reads back is an operand. -/
inductive Instr where
  /-- POWER_ON (R183): supply is applied. -/
  | powerOn
  /-- RESET_ASSERT (R186): the reset line is asserted or supply is lost. -/
  | resetAssert (cause : StopCause) (cut : WriteCut)
  /-- RESET_RELEASE (R186). -/
  | resetRelease
  /-- SCAN_END (R137); `failed`: the unclean segments whose re-erase fails its verify (R136). -/
  | scanEnd (failed : List (Fin 256))
  /-- LANE_FRAME_COMPLETE (R2): the 29 bytes of a frame on a lane. -/
  | laneFrameComplete (lane : Fin 4) (bytes : List Byte)
  /-- LANE_FRAME_TIMEOUT (R2). -/
  | laneFrameTimeout (lane : Fin 4)
  /-- RAW_SAMPLE_INSTANT (R3). -/
  | rawSampleInstant
  /-- LANE_ENTER_DOWN (R5). -/
  | laneEnterDown (lane : Fin 4)
  /-- LANE_ENTER_UP (R6). -/
  | laneEnterUp (lane : Fin 4)
  /-- CYCLE_ABANDON (R9) of the tracker of a set. -/
  | cycleAbandon (vset : Fin 2)
  /-- PRESENCE_RUN_END (R10) of the tracker of a set. -/
  | presenceRunEnd (vset : Fin 2)
  /-- TRACKER_ENTER_FREE_RUN (R13). -/
  | trackerEnterFreeRun (vset : Fin 2)
  /-- WINDOW_COMPLETE (R19) of a timebase. -/
  | windowComplete (timebase : Fin 2)
  /-- SNAPSHOT (R32). -/
  | snapshot (tag : Byte) (body : List Byte)
  /-- SWITCH_SAMPLE (R34): the eight levels at a millisecond sample. -/
  | switchSample (levels : BitVec 8)
  /-- DEBOUNCE_COMPLETE (R34) of an input. -/
  | debounceComplete (input : Fin 8)
  /-- FIRST_SWITCH_WORD (R35). -/
  | firstSwitchWord
  /-- PLAN_OPEN (R44). -/
  | planOpen (tag : Byte) (body : List Byte)
  /-- PLAN_ADD (R45). -/
  | planAdd (tag : Byte) (body : List Byte)
  /-- PLAN_CONFIRM (R46). -/
  | planConfirm (tag : Byte) (body : List Byte)
  /-- PLAN_DROP (R47). -/
  | planDrop (tag : Byte) (body : List Byte)
  /-- PLAN_CLEAR (R48). -/
  | planClear (tag : Byte) (body : List Byte)
  /-- PLAN_GET (R49). -/
  | planGet (tag : Byte) (body : List Byte)
  /-- ACCOUNT_READ (R76). -/
  | accountRead (tag : Byte) (body : List Byte)
  /-- LIMIT_LOAD (R82). -/
  | limitLoad (tag : Byte) (body : List Byte)
  /-- LIMIT_GET (R84). -/
  | limitGet (tag : Byte) (body : List Byte)
  /-- PEAK_SWAP (R92). -/
  | peakSwap (tag : Byte) (body : List Byte)
  /-- CLOCK_MADE_CLOSE (R95). -/
  | clockMadeClose
  /-- SYNC_PULSE (R97 to R100). -/
  | syncPulse
  /-- LATE_ALLOWANCE_EXPIRE (R98). -/
  | lateAllowanceExpire
  /-- ALIGN (R101). -/
  | align (tag : Byte) (body : List Byte)
  /-- CLOSE_NOW (R102). -/
  | closeNow (tag : Byte) (body : List Byte)
  /-- WRITER_TAKE_RECORD (R116); `headerOk`: a header programmed in the step verifies. -/
  | writerTakeRecord (headerOk : Bool)
  /-- RECORD_WRITE_COMPLETE (R117); `bad`: the offsets of the slot that read back other than written, with the byte
  read; `headerOk`: a header programmed in the step verifies. -/
  | recordWriteComplete (bad : List (Nat × Byte)) (headerOk : Bool)
  /-- ERASE_COMPLETE (R123); `blank`: the segment verifies blank; `headerOk`: a header programmed in the step verifies. -/
  | eraseComplete (blank headerOk : Bool)
  /-- ERROR_CLEAR (R126). -/
  | errorClear (tag : Byte) (body : List Byte)
  /-- ARCHIVE_COLLECTED (R127). -/
  | archiveCollected (tag : Byte) (body : List Byte)
  /-- PIN_ADD (R128). -/
  | pinAdd (tag : Byte) (body : List Byte)
  /-- PIN_REMOVE (R129). -/
  | pinRemove (tag : Byte) (body : List Byte)
  /-- ARCHIVE_CLEAR (R130). -/
  | archiveClear (tag : Byte) (body : List Byte)
  /-- ARCHIVE_READ (R132). -/
  | archiveRead (tag : Byte) (body : List Byte)
  /-- ARCHIVE_MORE (R133). -/
  | archiveMore (tag : Byte) (body : List Byte)
  /-- TIE_PAGE_ARRIVE (R139): the bytes received since the hunt began, the page's last byte the last. -/
  | tiePageArrive (bytes : List Byte)
  /-- TIE_PAGE_OVERLENGTH (R139): the bytes up to the body length. -/
  | tiePageOverlength (bytes : List Byte)
  /-- TIE_BYTE_GAP_TIMEOUT (R139): the bytes received before the gap. -/
  | tieByteGapTimeout (bytes : List Byte)
  /-- TIE_RESEND_TIMER (R140). -/
  | tieResendTimer
  /-- IDLE_PAGE_SEND (R140). -/
  | idlePageSend
  /-- SILENCE_TIMEOUT (R143). -/
  | silenceTimeout
  /-- ROLE_ATTEMPT_TIMEOUT (R146). -/
  | roleAttemptTimeout
  /-- TIE_STATUS (R157). -/
  | tieStatus (tag : Byte) (body : List Byte)
  /-- HOST_FRAME_COMPLETE (R159): the bytes received since the hunt began, the frame's last check byte the last. -/
  | hostFrameComplete (bytes : List Byte)
  /-- HOST_FRAME_OVERLENGTH (R160): the bytes up to the body length. -/
  | hostFrameOverlength (bytes : List Byte)
  /-- HOST_BYTE_GAP_TIMEOUT (R160): the bytes received before the gap. -/
  | hostByteGapTimeout (bytes : List Byte)
  /-- REPLY_SENT (R162). -/
  | replySent
  /-- UNKNOWN_KIND (R164): a request of a kind not in the table. -/
  | unknownKind (kind tag : Byte) (body : List Byte)
  /-- IDENT (R167). -/
  | ident (tag : Byte) (body : List Byte)
  /-- STATE (R168). -/
  | stateRequest (tag : Byte) (body : List Byte)
  /-- NOTICE_TAKE (R176). -/
  | noticeTake (tag : Byte) (body : List Byte)
  /-- NOTICE_RAISE (R176). -/
  | noticeRaise (tag : Byte) (body : List Byte)
  /-- ATTENTION_PULSE_END (R177). -/
  | attentionPulseEnd
  /-- SET (R179). -/
  | setSetting (tag : Byte) (body : List Byte)
  /-- GET (R180). -/
  | getSetting (tag : Byte) (body : List Byte)
  /-- STORE_WRITE_COMPLETE (R181). -/
  | storeWriteComplete
  /-- POWER_FAIL_ASSERT (R184). -/
  | powerFailAssert
  /-- ENTER_DORMANT (R184). -/
  | enterDormant
  /-- POWER_FAIL_RELEASE (R184). -/
  | powerFailRelease
  /-- RESTART (R185). -/
  | restart (tag : Byte) (body : List Byte)
  /-- RESTART_PATH_END (R185). -/
  | restartPathEnd
  deriving DecidableEq, Repr

end Sys2Proof
end

