-- ==== Sys2Proof/Decode.lean ====
section
/-! DEFINITION. The command that a word of the table's bits spells: none, since spec/opcode_table.json gives no row bits.
The byte formats that the spec does give (frames, pages, records) are read in Sys2Proof/Machine/Operands.lean. -/

namespace Sys2Proof

/-- The command that a word of `nbits` bits spells: no row of the table gives bits, so none does (log 8). -/
def decodeTableWord (_nbits _w : Nat) : Option Instr := none

end Sys2Proof
end

