-- ==== Sys2Proof/Config.lean ====
section
/-! DEFINITION. The fixed capacities and constants of the part, and its free values. -/

namespace Sys2Proof.Config

/-- The energy modulus M: one Wh in µW·sample (00_scope.md, Units). -/
def energyModulus : Nat := 115200000000000

/-- The greatest value of a 32-bit count. -/
def max32 : Nat := 4294967295

/-- The greatest value of a 16-bit counter. -/
def max16 : Nat := 65535

/-- Raw samples per minute: 32 000 per second (00_scope.md, Fixed Capacities). -/
def samplesPerMinute : Nat := 60 * 32000

/-- The places of the close queue (R105). -/
def queuePlaces : Nat := 48

/-- The normal places of the close queue (R105). -/
def normalPlaces : Nat := 32

/-- Bytes of a segment's record area (7.1). -/
def areaBytes : Nat := 32752

/-- The clamp on a net power used for energy, 10^15 µW (R62). -/
def powerClamp : Nat := 1000000000000000

/-- The clamp on a net energy product of a PEER contribution (R63). -/
def peerClamp : Nat := 6024 * 1000000000000000

/-- The full scale of a converter code (R10, R23). -/
def fullScale : Nat := 8388607

/-- FREE VALUE (log 9). The k-th random draw of the part, one of 65 535 values: R146 draws a seed "a random number
from 1 to 65 535" and nothing more is said of it. -/
opaque seedDraw : Nat → Fin 65535

end Sys2Proof.Config
end

