-- ==== Sys2Proof/Machine/State.lean ====
section
/-! DEFINITION. The state of the part as plain data, and the state right after reset. -/

namespace Sys2Proof.Machine

/-! ### Supervisor -/

/-- The operating states (11.3). -/
inductive OpState where
  | starting | running | closing | dormant
  deriving DecidableEq, Repr

/-- The path followed in CLOSING and DORMANT (11.3). -/
inductive Path where
  | powerFail | restart
  deriving DecidableEq, Repr

/-! ### Lane intake (01) -/

/-- One converter lane (R2, R5, R6). -/
structure Lane where
  up : Bool
  /-- The frame place: none, or the bytes of one frame (R2). -/
  place : Option (List Byte)
  /-- The expected frame counter, or none (R2). -/
  expected : Option Byte
  /-- The consecutive-bad count, 0 to 16 (R5). -/
  bad : Nat
  /-- The consecutive-good count, 0 to 64 (R5). -/
  good : Nat
  deriving DecidableEq, Repr

/-- One channel at the lane intake (R3, R4). -/
structure Channel where
  /-- The last good code, which is also the code last delivered (R3). -/
  last : Int
  /-- Whether the code last delivered carried the HELD mark (R3). -/
  held : Bool
  /-- The clip latch (R4). -/
  clip : Bool
  deriving DecidableEq, Repr

/-- A lane at the power-on start (R8). -/
def Lane.initial : Lane := ⟨false, none, none, 16, 0⟩

/-- A channel at the power-on start (R3, R4; before the first sample the code is 0 with the HELD mark, R22). -/
def Channel.initial : Channel := ⟨0, true, false⟩

/-! ### Frequency trackers (01) -/

/-- The tracker states (1.4). -/
inductive TrackerState where
  | acquiring | locked | holdover | freeRun | following
  deriving DecidableEq, Repr

/-- One frequency tracker (1.4, R9, R10). -/
structure Tracker where
  state : TrackerState
  /-- The tracked frequency of LOCKED and HOLDOVER, mHz; in the other states `trackedFreq` gives it (R11 to R15). -/
  freq : Nat
  /-- The holdover window count, 0 to 25. -/
  holdover : Nat
  /-- The reference phase. -/
  ref : Option (Fin 3)
  /-- The acquisition run, oldest first, at most 4. -/
  run : List Nat
  /-- The open cycle: its opening crossing in 1/256 sample after the sample before it; none without an open cycle (R9). -/
  opened : Option Nat
  /-- Raw samples since the sample at which the open cycle's crossing was found (R9). -/
  since : Nat
  /-- Raw samples of the span of presence under way (R10). -/
  count : Nat
  /-- Sum of the squares of the delivered codes over the span, per phase (R10). -/
  sumSq : Table Nat 3
  /-- Whether lane 0 was DOWN at a raw sample of the span (R10). -/
  laneDown : Bool
  /-- Whether a sample of the reference channel within the cycle carried the HELD mark (R9). -/
  heldRef : Bool
  /-- The presence of the three phases as last judged (R10). -/
  present : Table Bool 3
  deriving DecidableEq, Repr

/-- A tracker at the power-on start (R17). -/
def Tracker.initial : Tracker :=
  ⟨.acquiring, 50000, 0, none, [], none, 0, 0, Table.all 0, false, false, Table.all false⟩

/-! ### Plans and switch inputs (03) -/

/-- How the two voltage sets are paced (3.2). -/
inductive Arrangement where
  | separate
  | common (leader : Fin 2)
  deriving DecidableEq, Repr

/-- A measurement point (3.2). -/
inductive Point where
  | tap (k : Fin 8)
  | peer (j : Fin 4)
  deriving DecidableEq, Repr

/-- A member of a plan: account, point, sign (`plus` is +1) (3.2). -/
structure Member where
  account : Fin 16
  point : Point
  plus : Bool
  deriving DecidableEq, Repr

/-- The content of a plan slot (3.2). -/
structure PlanContent where
  mask : BitVec 8
  value : BitVec 8
  arrangement : Arrangement
  members : List Member
  deriving DecidableEq, Repr

/-- A VALID slot of the plan table (3.2). -/
structure PlanSlot where
  content : PlanContent
  stored : Bool
  deriving DecidableEq, Repr

/-- The pending buffer (3.6). -/
structure PlanBuffer where
  slot : Fin 8
  members : List Member
  deriving DecidableEq, Repr

/-- A running debounce timer: milliseconds run, and the debounce time it completes at (R34). -/
structure Debounce where
  ran : Nat
  limit : Nat
  deriving DecidableEq, Repr

/-- One switch input (3.1). -/
structure SwitchInput where
  level : Option Bool
  sampled : Option Bool
  timer : Option Debounce
  deriving DecidableEq, Repr

/-- The topology selector (3.1, 3.3, 3.6). -/
structure Selector where
  inputs : Table SwitchInput 8
  slots : Table (Option PlanSlot) 8
  /-- The active plan number. -/
  active : Option (Fin 8)
  /-- The active content. -/
  content : Option PlanContent
  /-- The switch-pending marker with its pending plan number. -/
  pendingPlan : Option (Fin 8)
  /-- The replacement mark of the active slot (R39). -/
  replacement : Bool
  /-- The unmatched indication (R38). -/
  unmatched : Bool
  buffer : Option PlanBuffer
  deriving DecidableEq, Repr

/-- The selector at the power-on start, with no stored slot (R35, R55); no input has a sampled level before its first sample
(log 54). -/
def Selector.initial : Selector :=
  ⟨Table.all ⟨none, none, none⟩, Table.all none, none, none, none, false, false, none⟩

/-! ### Window analysers (02) -/

/-- A phasor of one channel at one order, mV or mA (R23). -/
structure Phasor where
  re : Int
  im : Int
  deriving DecidableEq, Repr

/-- The window in progress of a timebase (2.1). -/
structure Window where
  number : Nat
  start : Nat
  n : Nat
  freq : Nat
  /-- The leader of a joined window; none in SEPARATE. -/
  joined : Option (Fin 2)
  lockedAtStart : Bool
  /-- Whether the pacing tracker has been LOCKED at every raw sample since the start (R26). -/
  locked : Bool
  ownsSet : Table Bool 2
  ownsTap : Table Bool 8
  /-- The set each tap was bound to at the start (R18). -/
  binding : Table (Fin 2) 8
  scale : Table Nat 30
  delay : Table Int 30
  /-- The codes at position −1 (R22). -/
  prior : Table Int 30
  /-- Per channel, the held-so-far mark (R25). -/
  held : Table Bool 30
  /-- Per lane, the lanes-down-so-far mark (R25). -/
  lanesDown : Table Bool 4
  /-- The delivered codes of positions 0 onward, the latest first. -/
  rows : List (Table Int 30)
  deriving DecidableEq, Repr

/-- The entry of one channel in a phasor table (R27). -/
structure ChannelEntry where
  owned : Bool
  unused : Bool
  held : Bool
  clip : Bool
  rms : Nat
  /-- Entry `i` is order `i + 1`. -/
  phasors : Table Phasor 40
  deriving DecidableEq, Repr

/-- The phasor table of a completed window (R27). -/
structure PhasorTable where
  number : Nat
  start : Nat
  n : Nat
  freq : Nat
  joined : Option (Fin 2)
  track : Bool
  lanesDown : Table Bool 4
  entries : Table ChannelEntry 30
  deriving DecidableEq, Repr

/-- The window analyser of one timebase (2.1, R20, R27). -/
structure Timebase where
  /-- The number of the window in progress, or of the next window started. -/
  number : Nat
  window : Option Window
  table : Option PhasorTable
  deriving DecidableEq, Repr

/-- An analyser at the power-on start (R20, R27, R31). -/
def Timebase.initial : Timebase := ⟨1, none, none⟩

/-! ### Account engine (04, 05) -/

/-- An accumulator: whole count and residue (4.5). -/
structure Acc where
  whole : Nat
  residue : Nat
  deriving DecidableEq, Repr

/-- Eight like things, one per main accumulator in record order (4.6). -/
structure Mains (α : Type) where
  imp : α
  exp : α
  q1 : α
  q2 : α
  q3 : α
  q4 : α
  habs : α
  hemi : α
  deriving DecidableEq, Repr

/-- The five interval flags (R69). -/
structure IntervalFlags where
  saturated : Bool
  clamped : Bool
  incomplete : Bool
  extended : Bool
  unaligned : Bool
  deriving DecidableEq, Repr

/-- A period-start stamp (R91). -/
structure Stamp where
  index : Nat
  part : Nat
  window : Nat
  deriving DecidableEq, Repr

/-- An account record (4.6, 5.1, 6.1). Tables of 39 hold order `i + 2` in entry `i`, tables of 40 order `i + 1`. -/
structure Account where
  mains : Mains Acc
  absorbed : Table Acc 39
  emitted : Table Acc 39
  windows : Nat
  degraded : Nat
  abandoned : Nat
  flags : IntervalFlags
  plansUsed : BitVec 8
  peaks : Table Nat 40
  periodPeaks : Table Nat 40
  stamp : Stamp
  limits : Table Nat 39
  exceed : Table Nat 39
  consecutive : Table Nat 39
  span : Nat
  recordIndex : Nat
  part : Nat
  /-- The archive order mask in force (R109): bit `i` is order `i + 2`. -/
  maskInForce : BitVec 39
  deriving DecidableEq, Repr

/-- No interval flag set. -/
def IntervalFlags.clear : IntervalFlags := ⟨false, false, false, false, false⟩

/-- An account record at the power-on start, before the scan's findings (R71, R81, R88 to R91, R111). -/
def Account.initial (limits : Table Nat 39) (mask : BitVec 39) : Account :=
  { mains := ⟨⟨0, 0⟩, ⟨0, 0⟩, ⟨0, 0⟩, ⟨0, 0⟩, ⟨0, 0⟩, ⟨0, 0⟩, ⟨0, 0⟩, ⟨0, 0⟩⟩
    absorbed := Table.all ⟨0, 0⟩
    emitted := Table.all ⟨0, 0⟩
    windows := 0, degraded := 0, abandoned := 0
    flags := .clear
    plansUsed := 0
    peaks := Table.all 0, periodPeaks := Table.all 0
    stamp := ⟨0, 0, 0⟩
    limits := limits
    exceed := Table.all 0, consecutive := Table.all 0
    span := 1, recordIndex := 0, part := 0
    maskInForce := mask }

/-! ### Interval clock and close queue (06) -/

/-- The interval clock (6.1). -/
structure Clock where
  index : Nat
  part : Nat
  position : Nat
  /-- The length in force, minutes. -/
  length : Nat
  pendingLength : Option Nat
  aligned : Bool
  lateOpen : Bool
  /-- The last raw sample left the position at L while the link was not PAIRED_SECONDARY: its clock-made close is still to
  be taken (R95, R110). -/
  closeReady : Bool
  deriving DecidableEq, Repr

/-- The reasons of a partial close (R103). -/
inductive CloseReason where
  | powerFail | restart | align | sync | disable
  /-- A reason byte that no table lists, taken from a CLOSE page of kind partial (R156, log 35). -/
  | other (code : Byte)
  deriving DecidableEq, Repr

/-- The close causes (R115); `localPartial` is cause 0. -/
inductive CloseCause where
  | localPartial | clockMade | syncMade | closeNow | closePage
  deriving DecidableEq, Repr

/-- An entry of a record's order list (R103). -/
structure OrderEntry where
  absorbed : Nat
  emitted : Nat
  peak : Nat
  exceed : Nat
  deriving DecidableEq, Repr

/-- An interval record (R103, R115). A PARTIAL record has a reason. -/
structure IntervalRecord where
  reason : Option CloseReason
  cause : CloseCause
  account : Fin 16
  index : Nat
  part : Nat
  span : Nat
  flags : IntervalFlags
  length : Nat
  name : List Byte
  windows : Nat
  degraded : Nat
  abandoned : Nat
  plansUsed : BitVec 8
  planAtClose : Option (Fin 8)
  peak1 : Nat
  wholes : Mains Nat
  carries : Mains Nat
  mask : BitVec 39
  orders : List OrderEntry
  deriving DecidableEq, Repr

/-- A topology record (R43). -/
structure TopologyRecord where
  oldPlan : Option (Fin 8)
  newPlan : Fin 8
  word : BitVec 8
  index : Nat
  part : Nat
  window : Nat
  abandoned : Bool
  deriving DecidableEq, Repr

/-- A record of the close queue. -/
inductive Record where
  | interval (r : IntervalRecord)
  | topology (r : TopologyRecord)
  deriving DecidableEq, Repr

/-! ### Archive (07) -/

/-- What a segment's header reads as: one of the state markers, or none of them (`broken`, R135). -/
inductive Marker where
  | blank | opened | full | reclaiming | retired | broken
  deriving DecidableEq, Repr

/-- A segment of the archive (7.1). The record area holds `area` from offset 16 on; every later byte reads erased, and
`area` does not end in an erased byte, so that equal record areas are equal lists. -/
structure Segment where
  marker : Marker
  seq : Nat
  area : List Byte
  deriving DecidableEq, Repr

/-- An ERASED segment. -/
def Segment.erased : Segment := ⟨.blank, 0, []⟩

/-- The archive states (7.6). -/
inductive ArchiveState where
  | scanning | idle | writing | reclaiming | suspended | clearing | stopped
  deriving DecidableEq, Repr

/-- The archive error (R125). -/
inductive ArchiveError where
  | none | writeFail | eraseFail
  deriving DecidableEq, Repr

/-- A read filter (R132). -/
structure ReadFilter where
  fromIndex : Nat
  accounts : BitVec 16
  kinds : BitVec 3
  deriving DecidableEq, Repr

/-- The read cursor (7.10). -/
structure Cursor where
  segment : Fin 256
  seq : Nat
  offset : Nat
  filter : ReadFilter
  deriving DecidableEq, Repr

/-- The progress of an ARCHIVE_CLEAR (R131). -/
inductive ClearStage where
  /-- No clear. -/
  | idle
  /-- Taken while a write is in progress; begins at its completion. -/
  | waiting
  /-- Erasing; the segments still to be erased after the one under erase. -/
  | erasing (todo : List (Fin 256))
  /-- Writing the mark copies; how many of the two writes have not completed. -/
  | marking (left : Nat)
  deriving DecidableEq, Repr

/-- The volatile state of the archive (7.1). -/
structure Archive where
  state : ArchiveState
  error : ArchiveError
  heldInd : Bool
  head : Option (Fin 256)
  /-- The write position: the offset in the head at which the next record goes, while the head is OPEN (7.1). -/
  writePos : Nat
  nextSeq : Nat
  /-- The segment under erase, running or suspended as `state` says (R121, R124). -/
  erase : Option (Fin 256)
  /-- A record write is in progress (R117). -/
  writing : Bool
  /-- The oldest record has failed its verify once (R118). -/
  failedOnce : Bool
  clear : ClearStage
  mark : Nat
  pins : Table (Option (Nat × Nat)) 4
  cursor : Option Cursor
  deriving DecidableEq, Repr

/-- The archive at the power-on start (R136, R138). -/
def Archive.initial : Archive :=
  ⟨.scanning, .none, false, none, 16, 1, none, false, false, .idle, 0, Table.all none, none⟩

/-! ### Tie link (08) -/

/-- The tie link states (8.3). -/
inductive TieState where
  | off | down | resolving | pairedPrimary | pairedSecondary | solo | roleFault
  deriving DecidableEq, Repr

/-- The role preferences (8.4). -/
inductive Preference where
  | primary | secondary | either
  deriving DecidableEq, Repr

/-- The roles (R147). -/
inductive Role where
  | primary | secondary
  deriving DecidableEq, Repr

/-- One export slot in a summary (8.1, R151). -/
structure SlotSummary where
  absent : Bool
  saturated : Bool
  p1n : Int
  q1n : Int
  phn : Table Int 39
  currents : Table Nat 40
  deriving DecidableEq, Repr

/-- A window summary (R151, R152). -/
structure Summary where
  first : Nat
  count : Nat
  n : Nat
  track : Bool
  held : Bool
  clip : Bool
  coalesced : Bool
  countSaturated : Bool
  slots : Table (Option SlotSummary) 4
  deriving DecidableEq, Repr

/-- The body of a ROLE page. -/
structure RoleBody where
  preference : Preference
  seed : Nat
  attempt : Nat
  deriving DecidableEq, Repr

/-- The body of a ROLE_CONFIRM page. -/
structure ConfirmBody where
  attempt : Nat
  role : Role
  ownSeed : Nat
  partnerSeed : Nat
  deriving DecidableEq, Repr

/-- The body of a CLOSE page; `reason` is none for a normal close. -/
structure CloseBody where
  index : Nat
  part : Nat
  reason : Option CloseReason
  deriving DecidableEq, Repr

/-- The body of a page (8.1). -/
inductive PageBody where
  | idle
  | role (b : RoleBody)
  | confirm (b : ConfirmBody)
  | summary (b : Summary)
  | close (b : CloseBody)
  /-- A CLOSE page as received whose kind is neither normal nor partial; never sent (log 35). -/
  | closeOther
  deriving DecidableEq, Repr

/-- A page as received: its body, toggle and ack field (`ack` none: ack valid clear). -/
structure Page where
  body : PageBody
  toggle : Bool
  ack : Option Bool
  deriving DecidableEq, Repr

/-- The tie link (8.2 to 8.9). -/
structure Tie where
  state : TieState
  sendToggle : Bool
  inFlight : Option PageBody
  /-- Sends of the page in flight so far; 0 while it is due and not yet sent. -/
  sendCount : Nat
  holding : Option Summary
  closeList : List CloseBody
  /-- ROLE and ROLE_CONFIRM pages due behind the page in flight (R146, R153). -/
  roleList : List PageBody
  partnerToggle : Option Bool
  /-- A valid page with ack valid set has been taken since the link last entered DOWN (R143). -/
  sawAck : Bool
  attempt : Nat
  ownSeed : Nat
  partnerSeed : Nat
  /-- The unit's own ROLE of the attempt. -/
  ownRole : Option RoleBody
  ownRoleAcked : Bool
  partnerRole : Option RoleBody
  /-- The unit's resolved role of the attempt (R147). -/
  resolved : Option Role
  confirmAcked : Bool
  partnerConfirm : Option ConfirmBody
  exportBase : Option (Fin 2)
  sent : Nat
  accepted : Nat
  lost : Nat
  merged : Nat
  /-- The last close pair (R156). -/
  lastPair : Option (Nat × Nat)
  /-- The last page sent: the bytes on the line. -/
  lastSent : Option (List Byte)
  /-- The CLOSE page of the restart close was made, and neither has it been acknowledged nor has the link left
  PAIRED_PRIMARY since (R185 (3)). -/
  restartOpen : Bool
  deriving DecidableEq, Repr

/-- The tie link at the power-on start, before the scan's findings (R158). -/
def Tie.initial (enabled : Bool) : Tie :=
  { state := if enabled then .down else .off
    sendToggle := false, inFlight := none, sendCount := 0, holding := none, closeList := [], roleList := []
    partnerToggle := none, sawAck := false, attempt := 0, ownSeed := 0, partnerSeed := 0
    ownRole := none, ownRoleAcked := false, partnerRole := none, resolved := none
    confirmAcked := false, partnerConfirm := none, exportBase := none
    sent := 0, accepted := 0, lost := 0, merged := 0, lastPair := none, lastSent := none, restartOpen := false }

/-! ### Message link (09) -/

/-- The reply status codes (9.4), in the order of their codes. -/
inductive Status where
  | done | busy | refusedState | sequence | range | field | unknownKind | tooLarge | pinned | stopped
  | conflict | cursorLost | inUse | length | held
  deriving DecidableEq, Repr

/-- A good request frame in a place of the receive buffer (R162). -/
structure HostFrame where
  kind : Byte
  tag : Byte
  body : List Byte
  deriving DecidableEq, Repr

/-- The reply being formed or sent (R163); `restart`: it is the DONE reply of RESTART (R171). -/
structure Reply where
  kind : Byte
  tag : Byte
  status : Status
  body : List Byte
  restart : Bool
  deriving DecidableEq, Repr

/-- The message link (9.2). -/
structure MessageLink where
  /-- The frames held, oldest first; the first is the one being answered while `reply` is set. -/
  places : List HostFrame
  reply : Option Reply
  /-- A reply of before the restart's power-on start is still going out; its end frees both places (R171). -/
  abandon : Bool
  deriving DecidableEq, Repr

/-! ### Notice unit (10) -/

/-- The notice unit (R173 to R177). -/
structure Notices where
  latched : BitVec 18
  laneMask : BitVec 4
  setMask : BitVec 2
  clipMask : BitVec 30
  exceedMask : BitVec 16
  sustained : Table (BitVec 39) 16
  /-- The latched-low conditions, bit set = bad: TRACK_OK 0, TRACK_OK 1, LANES_OK, LINK_OK (R174). -/
  lows : BitVec 4
  laneErrors : Table Nat 4
  discarded : Nat
  overruns : Nat
  resent : Nat
  badPages : Nat
  abandoned : Nat
  syncFaults : Nat
  droppedTopology : Nat
  /-- An attention pulse is running (R177). -/
  pulse : Bool
  deriving DecidableEq, Repr

/-- The notice unit with nothing latched or counted (R178). -/
def Notices.initial : Notices :=
  { latched := 0, laneMask := 0, setMask := 0, clipMask := 0, exceedMask := 0, sustained := Table.all 0, lows := 0
    laneErrors := Table.all 0, discarded := 0, overruns := 0, resent := 0, badPages := 0, abandoned := 0
    syncFaults := 0, droppedTopology := 0, pulse := false }

/-! ### Settings store (11) -/

/-- The attention modes (R177). -/
inductive AttentionMode where
  | level | pulseClose | pulseAny
  deriving DecidableEq, Repr

/-- A member of an export slot: a tap and its sign (`plus` is +1) (8.5). -/
structure ExportMember where
  tap : Fin 8
  plus : Bool
  deriving DecidableEq, Repr

/-- The settings of the table of 11.1. -/
structure Settings where
  /-- Hz. -/
  nominalHz : Nat
  nominalVoltage : Table Nat 2
  /-- Percent. -/
  presence : Table Nat 2
  /-- Minutes. -/
  intervalLength : Nat
  /-- Seconds. -/
  syncWindow : Nat
  /-- Milliseconds. -/
  debounceTime : Nat
  scale : Table Nat 30
  delay : Table Int 30
  binding : Table (Fin 2) 8
  enabled : Table Bool 16
  name : Table (List Byte) 16
  orderMask : Table (BitVec 39) 16
  exportSet : Fin 2
  exportSlots : Table (List ExportMember) 4
  tieEnable : Bool
  preference : Preference
  attentionMode : AttentionMode
  noticeMask : BitVec 18
  /-- The reclaim policy: true is OVERWRITE (R120). -/
  overwrite : Bool
  deriving DecidableEq, Repr

/-- The defaults of the table of 11.1. -/
def Settings.default : Settings :=
  { nominalHz := 50
    nominalVoltage := Table.all 11547005
    presence := Table.all 20
    intervalLength := 15
    syncWindow := 30
    debounceTime := 50
    scale := Table.all 0
    delay := Table.all 0
    binding := Table.all 0
    enabled := Table.all false
    name := Table.all (List.replicate 8 0x20#8)
    orderMask := Table.all (BitVec.allOnes 39)
    exportSet := 0
    exportSlots := Table.all []
    tieEnable := false
    preference := .either
    attentionMode := .level
    noticeMask := 0
    overwrite := false }

/-- The stored image (11.1): settings, plan slots marked stored, limit rows and pins. -/
structure Image where
  settings : Settings
  plans : Table (Option PlanContent) 8
  limits : Table (Table Nat 39) 16
  pins : Table (Option (Nat × Nat)) 4
  deriving DecidableEq, Repr

/-- The image of the defaults (R182). -/
def Image.default : Image :=
  ⟨Settings.default, Table.all none, Table.all (Table.all 0), Table.all none⟩

/-- A store write in progress (11.2): the image it writes, or the mark and the copy it is written to. -/
inductive StoreJob where
  | image (i : Image)
  | mark (value : Nat) (copy : Fin 2)
  deriving DecidableEq, Repr

/-- What survives loss of supply (7.1, 7.7, 11.1). -/
structure NonVolatile where
  /-- The stored image; none when it fails its check (R182). -/
  image : Option Image
  /-- The two copies of the collected mark; none for a copy that fails its check (R127). -/
  marks : Table (Option Nat) 2
  segments : Table Segment 256
  deriving DecidableEq, Repr

/-! ### The whole state -/

/-- The state of the part. -/
structure State where
  /-- The commands that wait, first in, first out (the model's own field). -/
  pending : List Instr
  /-- The reset line is asserted (R186). -/
  resetLine : Bool
  /-- Supply is absent (R183, R186). -/
  unpowered : Bool
  /-- The power-fail warning is asserted. -/
  warning : Bool
  op : OpState
  path : Option Path
  nv : NonVolatile
  settings : Settings
  store : Option StoreJob
  lanes : Table Lane 4
  channels : Table Channel 30
  trackers : Table Tracker 2
  timebases : Table Timebase 2
  /-- Raw-sample index of the next raw sample, counted from the first raw sample of RUNNING (2.1). -/
  sampleIndex : Nat
  selector : Selector
  accounts : Table Account 16
  clock : Clock
  queue : List Record
  archive : Archive
  tie : Tie
  msg : MessageLink
  notices : Notices
  /-- Random draws made so far (the model's own field, log 9). -/
  draws : Nat
  deriving DecidableEq, Repr

/-- Faults of the machine. There is none: the spec describes no event that stops the part (INVENTORY.md, Faults). -/
inductive Fault where
  deriving DecidableEq, Repr

/-- Refusals of the machine. -/
inductive Refusal where
  /-- Raised by an arm of `exec` whose command has no meaning yet; safe. No arm raises it. -/
  | notModelled (mnemonic : String)
  deriving DecidableEq, Repr

/-- The machine right after reset: supply is on, the power-on start has just begun (R183), the non-volatile memories are
those of a part never started (log 7). -/
def State.reset : State :=
  { pending := []
    resetLine := false
    unpowered := false
    warning := false
    op := .starting
    path := none
    nv := ⟨some Image.default, Table.all (some 0), Table.all Segment.erased⟩
    settings := Settings.default
    store := none
    lanes := Table.all Lane.initial
    channels := Table.all Channel.initial
    trackers := Table.all Tracker.initial
    timebases := Table.all Timebase.initial
    sampleIndex := 0
    selector := Selector.initial
    accounts := Table.all (Account.initial (Table.all 0) (BitVec.allOnes 39))
    clock := ⟨0, 0, 0, 15, none, false, false, false⟩
    queue := []
    archive := Archive.initial
    tie := Tie.initial false
    msg := ⟨[], none, false⟩
    notices := { Notices.initial with lows := 0b0011#4 }
    draws := 0 }

end Sys2Proof.Machine
end

