-- ==== Sys2Proof/Machine/Ops.lean ====
section
/-! DEFINITION. Shared operations: rounding, saturation, square roots, bytes, CRC-16, and the small accessors of State
that several blocks use. -/

namespace Sys2Proof.Machine

/-! ### Arithmetic (00_scope.md, Numbers and Arithmetic) -/

/-- `num / den` rounded half up. -/
def roundHalfUp (num den : Nat) : Nat := (2 * num + den) / (2 * den)

/-- `num / den` rounded half away from zero. -/
def roundHalfAway (num : Int) (den : Nat) : Int :=
  if num < 0 then -(roundHalfUp num.natAbs den : Int) else roundHalfUp num.natAbs den

/-- A sum that takes `cap` where it would pass it. -/
def satAdd (cap a b : Nat) : Nat := min cap (a + b)

/-- A 16-bit saturating counter raised by 1 (R175). -/
def bump (c : Nat) : Nat := satAdd Config.max16 c 1

/-- `z` held within ±`bound`, with its sign. -/
def clampInt (bound : Nat) (z : Int) : Int := max (-(bound : Int)) (min (bound : Int) z)

/-- Square root by bits, `k` bits left below the bits already in `r`. -/
def isqrtBits : Nat → Nat → Nat → Nat
  | 0, _, r => r
  | k + 1, n, r => if (r + 2 ^ k) * (r + 2 ^ k) ≤ n then isqrtBits k n (r + 2 ^ k) else isqrtBits k n r

/-- The integer square root: the largest `r` with `r * r ≤ n`. -/
def isqrt (n : Nat) : Nat := isqrtBits (n.log2 / 2 + 1) n 0

/-- The square root of the rational `num / den`, rounded half up. -/
def sqrtHalfUp (num den : Nat) : Nat := (isqrt (4 * num / den) + 1) / 2

/-- The sum of `f i` over a table's indices. -/
def sumFin {n : Nat} (f : Fin n → Int) : Int := (List.finRange n).foldl (fun a i => a + f i) 0

/-- The same, of natural numbers. -/
def sumFinNat {n : Nat} (f : Fin n → Nat) : Nat := (List.finRange n).foldl (fun a i => a + f i) 0

/-- The largest `f i` over a table's indices, 0 for none. -/
def maxFin {n : Nat} (f : Fin n → Nat) : Nat := (List.finRange n).foldl (fun a i => max a (f i)) 0

/-! ### Bytes, little-endian (00_scope.md) -/

/-- The low `k` bytes of `n`, little-endian. -/
def leBytes : Nat → Nat → List Byte
  | 0, _ => []
  | k + 1, n => BitVec.ofNat 8 n :: leBytes k (n / 256)

/-- The number a list of bytes stands for, little-endian. -/
def ofLe : List Byte → Nat
  | [] => 0
  | b :: bs => b.toNat + 256 * ofLe bs

/-- The low `k` bytes of a signed value in two's complement, little-endian. -/
def leInt (k : Nat) (z : Int) : List Byte := leBytes k (z % (256 ^ k : Nat)).toNat

/-- The signed value of a list of bytes, little-endian two's complement. -/
def ofLeInt (bs : List Byte) : Int :=
  let n := ofLe bs
  if 2 * n < 256 ^ bs.length then n else (n : Int) - (256 ^ bs.length : Nat)

/-- Byte `i`, 0 beyond the end. -/
def byteAt (bs : List Byte) (i : Nat) : Byte := bs.getD i 0

/-- The `k` bytes from offset `i`. -/
def slice (bs : List Byte) (i k : Nat) : List Byte := (bs.drop i).take k

/-- The unsigned field of `k` bytes at offset `i`. -/
def field (bs : List Byte) (i k : Nat) : Nat := ofLe (slice bs i k)

/-- One byte that holds a number below 256. -/
def byte (n : Nat) : List Byte := leBytes 1 n

/-- One byte that holds a flag in bit 0. -/
def boolByte (b : Bool) : List Byte := byte b.toNat

/-- A number whose bit `i` is the `i`-th of the flags, bit 0 first. -/
def bitsOf : List Bool → Nat
  | [] => 0
  | b :: bs => b.toNat + 2 * bitsOf bs

/-- Whether bit `i` of a number is set. -/
def bitOf (n i : Nat) : Bool := n.testBit i

/-! ### CRC-16: polynomial 0x1021, initial value 0xFFFF, no reflection, no final exclusive-or (1.2, 7.2, 8.1, 9.1) -/

/-- One bit of the division. -/
def crcShift (r : BitVec 16) : BitVec 16 :=
  if r.msb then (r <<< 1) ^^^ 0x1021#16 else r <<< 1

/-- Eight bits of the division. -/
def crcByte (r : BitVec 16) (b : Byte) : BitVec 16 :=
  crcShift (crcShift (crcShift (crcShift (crcShift (crcShift (crcShift (crcShift
    (r ^^^ (b.zeroExtend 16 <<< 8)))))))))

/-- The CRC-16 of a list of bytes. -/
def crc16 (bs : List Byte) : BitVec 16 := bs.foldl crcByte 0xFFFF#16

/-- A list of bytes with its check appended, little-endian. -/
def withCrc (bs : List Byte) : List Byte := bs ++ leBytes 2 (crc16 bs).toNat

/-- Whether the last two bytes of a list are the check of those before them. -/
def crcOk (bs : List Byte) : Bool :=
  2 ≤ bs.length && bs.drop (bs.length - 2) == leBytes 2 (crc16 (bs.take (bs.length - 2))).toNat

/-! ### Accessors that several blocks share -/

/-- The part is stopped: its reset line is asserted or supply is absent (R186). -/
def State.stopped (s : State) : Bool := s.resetLine || s.unpowered

/-- Whether account `a` is enabled (R50). -/
def State.isEnabled (s : State) (a : Fin 16) : Bool := s.settings.enabled.get a

/-- The number of enabled accounts. -/
def State.enabledCount (s : State) : Nat := ((List.finRange 16).filter fun a => s.isEnabled a).length

/-- L: the length in force in raw samples (6.1). -/
def Clock.samples (c : Clock) : Nat := c.length * Config.samplesPerMinute

/-- The arrangement in force: that of the active content, SEPARATE while no plan is active (R15, R40). -/
def State.arrangement (s : State) : Arrangement :=
  match s.selector.content with
  | some c => c.arrangement
  | none => .separate

/-- The governing timebase of an arrangement (R40). -/
def Arrangement.governing : Arrangement → Fin 2
  | .separate => 0
  | .common leader => leader

/-- Whether timebase `t` cuts windows of its own under the arrangement (R18). -/
def Arrangement.cuts (a : Arrangement) (t : Fin 2) : Bool :=
  match a with
  | .separate => true
  | .common leader => leader == t

/-- The tracker that paces timebase `t` (R16): its own, or the leader's where its set is a follower. -/
def Arrangement.pacer (a : Arrangement) (t : Fin 2) : Fin 2 :=
  match a with
  | .separate => t
  | .common leader => leader

/-- The other of two sets or timebases. -/
def other (t : Fin 2) : Fin 2 := 1 - t

/-- The lanes a tap lies on (R1): those of its first and last current channel. -/
def tapLanes (k : Fin 8) : List (Fin 4) :=
  (List.finRange 4).filter fun l => l.val == 1 + (3 * k.val) / 8 || l.val == 1 + (3 * k.val + 2) / 8

/-- The voltage channel of set `v`, phase `p` (00_scope.md, Indexing). -/
def voltageChannel (v : Fin 2) (p : Fin 3) : Fin 30 := ⟨3 * v.val + p.val, by omega⟩

/-- The current channel of tap `k`, phase `p` (00_scope.md, Indexing). -/
def currentChannel (k : Fin 8) (p : Fin 3) : Fin 30 := ⟨6 + 3 * k.val + p.val, by omega⟩

/-- What a channel belongs to: a voltage set or a tap (00_scope.md, Indexing). -/
def channelOwner (c : Fin 30) : Fin 2 ⊕ Fin 8 :=
  if h : c.val < 6 then .inl ⟨c.val / 3, by omega⟩ else .inr ⟨(c.val - 6) / 3, by omega⟩

/-- The lane and the slot a channel arrives in (R1). -/
def channelPlace (c : Fin 30) : Fin 4 × Fin 8 :=
  if h : c.val < 6 then (0, ⟨c.val, by omega⟩)
  else (⟨1 + (c.val - 6) / 8, by omega⟩, ⟨(c.val - 6) % 8, by omega⟩)

/-- Every account changed by `f`. -/
def State.mapAccounts (s : State) (f : Fin 16 → Account → Account) : State :=
  { s with accounts := s.accounts.each f }

/-- The nominal frequency in mHz (1.4). -/
def State.nominal (s : State) : Nat := s.settings.nominalHz * 1000

/-- The tracked frequency of tracker `v` as reported (R11 to R15). -/
def State.trackedFreq (s : State) (v : Fin 2) : Nat :=
  let own (t : Tracker) : Nat :=
    match t.state with
    | .locked | .holdover => t.freq
    | _ => s.nominal
  match (s.trackers.get v).state with
  | .following => own (s.trackers.get (other v))
  | _ => own (s.trackers.get v)

end Sys2Proof.Machine
end

