-- ==== Sys2Proof/Machine/Flags.lean ====
section
/-! DEFINITION. Notices, latched-low conditions, counters, the attention line (10), and the interval flag INCOMPLETE of
R54. -/

namespace Sys2Proof.Machine

/-- A latching of a notice with its argument (10.1). -/
inductive Notice where
  | laneFault (lane : Fin 4)
  | trackLost (vset : Fin 2)
  | clip (channel : Fin 30)
  | unmatched
  | planSwitched
  | syncFault
  | intervalExtended
  | archiveHeld
  | archiveError
  | tornFound
  | limitExceeded (account : Fin 16)
  | limitSustained (account : Fin 16) (orders : BitVec 39)
  | tieLinkChange
  | roleFault
  | pairIndex
  | settingsDefaulted
  | closed
  | test
  deriving DecidableEq, Repr

/-- The bit number of a notice (10.1). -/
def Notice.bit : Notice → Nat
  | .laneFault _ => 0
  | .trackLost _ => 1
  | .clip _ => 2
  | .unmatched => 3
  | .planSwitched => 4
  | .syncFault => 5
  | .intervalExtended => 6
  | .archiveHeld => 7
  | .archiveError => 8
  | .tornFound => 9
  | .limitExceeded _ => 10
  | .limitSustained _ _ => 11
  | .tieLinkChange => 12
  | .roleFault => 13
  | .pairIndex => 14
  | .settingsDefaulted => 15
  | .closed => 16
  | .test => 17

/-- The mask with bit `i` alone. -/
def oneBit (w i : Nat) : BitVec w := BitVec.ofNat w (2 ^ i)

/-- The notice marked latched and its argument added (R173). -/
def Notices.add (n : Notices) (x : Notice) : Notices :=
  let n := { n with latched := n.latched ||| oneBit 18 x.bit }
  match x with
  | .laneFault l => { n with laneMask := n.laneMask ||| oneBit 4 l.val }
  | .trackLost v => { n with setMask := n.setMask ||| oneBit 2 v.val }
  | .clip c => { n with clipMask := n.clipMask ||| oneBit 30 c.val }
  | .limitExceeded a => { n with exceedMask := n.exceedMask ||| oneBit 16 a.val }
  | .limitSustained a orders => { n with sustained := n.sustained.change a (· ||| orders) }
  | _ => n

/-- Whether the latching calls for an attention pulse (R177 (2), (3)). -/
def State.callsPulse (s : State) (x : Notice) : Bool :=
  match s.settings.attentionMode with
  | .level => false
  | .pulseClose => x == .closed
  | .pulseAny => !s.notices.latched.getLsbD x.bit && !s.settings.noticeMask.getLsbD x.bit

/-- A block latches a notice (R173, R177). -/
def State.latch (s : State) (x : Notice) : State :=
  { s with notices := { s.notices.add x with pulse := s.notices.pulse || s.callsPulse x } }

/-- The notice latched where the condition holds. -/
def State.latchIf (s : State) (b : Bool) (x : Notice) : State := if b then s.latch x else s

/-- The attention line (R177); deasserted while the reset line is asserted (R178, R186). -/
def State.attentionLine (s : State) : Bool :=
  !s.stopped &&
    match s.settings.attentionMode with
    | .level => s.notices.latched &&& ~~~s.settings.noticeMask != 0
    | _ => s.notices.pulse

/-- Whether a tracker state is one of those in which TRACK_OK is bad (R174 (1)). -/
def TrackerState.trackBad : TrackerState → Bool
  | .acquiring | .holdover | .freeRun => true
  | .locked | .following => false

/-- The present condition TRACK_OK of set `v` is bad (R174 (1)). -/
def State.trackBad (s : State) (v : Fin 2) : Bool :=
  match (s.trackers.get v).state with
  | .following => (s.trackers.get (other v)).state.trackBad
  | t => t.trackBad

/-- Whether lane `l` carries a channel whose scale is nonzero (R5), by the scales of the volatile settings at this moment
(log 65). -/
def State.laneUsed (s : State) (l : Fin 4) : Bool :=
  (List.finRange 30).any fun c => (channelPlace c).1 == l && s.settings.scale.get c != 0

/-- The present condition LANES_OK is bad (R174 (2)). -/
def State.lanesBad (s : State) : Bool :=
  (List.finRange 4).any fun l => !(s.lanes.get l).up && s.laneUsed l

/-- The present condition LINK_OK is bad (R174 (3)). -/
def State.linkBad (s : State) : Bool :=
  match s.tie.state with
  | .down | .solo | .roleFault => true
  | _ => false

/-- The present conditions, bit set = bad, in the order of the NOTICE_TAKE reply (10.3). -/
def State.presentBad (s : State) : BitVec 4 :=
  BitVec.ofNat 4 (bitsOf [s.trackBad 0, s.trackBad 1, s.lanesBad, s.linkBad])

/-- Every present condition that is bad recorded (R174). -/
def State.recordLows (s : State) : State :=
  { s with notices := { s.notices with lows := s.notices.lows ||| s.presentBad } }

/-! ### Counters (R175) -/

/-- A lane frame error counted (R2). -/
def State.countLaneError (s : State) (l : Fin 4) : State :=
  { s with notices := { s.notices with laneErrors := s.notices.laneErrors.change l bump } }

/-- A host frame discarded (R160). -/
def State.countDiscarded (s : State) : State :=
  { s with notices := { s.notices with discarded := bump s.notices.discarded } }

/-- An overrun (R162). -/
def State.countOverrun (s : State) : State :=
  { s with notices := { s.notices with overruns := bump s.notices.overruns } }

/-- A tie page resent (R140). -/
def State.countResent (s : State) : State :=
  { s with notices := { s.notices with resent := bump s.notices.resent } }

/-- A tie page with a bad check (R139). -/
def State.countBadPage (s : State) : State :=
  { s with notices := { s.notices with badPages := bump s.notices.badPages } }

/-- An abandoned window (R29). -/
def State.countAbandoned (s : State) : State :=
  { s with notices := { s.notices with abandoned := bump s.notices.abandoned } }

/-- A sync fault (R99). -/
def State.countSyncFault (s : State) : State :=
  { s with notices := { s.notices with syncFaults := bump s.notices.syncFaults } }

/-- A dropped topology record (R43). -/
def State.countDroppedTopology (s : State) : State :=
  { s with notices := { s.notices with droppedTopology := bump s.notices.droppedTopology } }

/-! ### INCOMPLETE by R54 -/

/-- Whether a member is a peer-slot member of account `a`. -/
def Member.isPeerOf (m : Member) (a : Fin 16) : Bool :=
  m.account == a && match m.point with | .peer _ => true | .tap _ => false

/-- The two conditions of R54 for account `a`: the active content has a peer-slot member for it and the link is not
PAIRED_PRIMARY. -/
def State.peerMissing (s : State) (a : Fin 16) : Bool :=
  s.tie.state != .pairedPrimary &&
    match s.selector.content with
    | some c => c.members.any (·.isPeerOf a)
    | none => false

/-- INCOMPLETE set on every enabled account for which the conditions of R54 hold. -/
def State.testPeers (s : State) : State :=
  s.mapAccounts fun a acc =>
    if s.isEnabled a && s.peerMissing a then { acc with flags := { acc.flags with incomplete := true } } else acc

/-- The interval flags byte: bits 0 to 4 (7.2). -/
def IntervalFlags.bits (f : IntervalFlags) : Nat :=
  bitsOf [f.saturated, f.clamped, f.incomplete, f.extended, f.unaligned]

/-! ### NOTICE_TAKE (R176) -/

/-- The body of the NOTICE_TAKE reply (10.3). -/
def Notices.takeBody (n : Notices) : List Byte :=
  leBytes 3 n.latched.toNat ++ byte n.laneMask.toNat ++ byte n.setMask.toNat ++ leBytes 4 n.clipMask.toNat ++
  leBytes 2 n.exceedMask.toNat ++
  (List.finRange 16).flatMap (fun a => leBytes 5 (n.sustained.get a).toNat) ++
  byte n.lows.toNat ++
  (List.finRange 4).flatMap (fun l => leBytes 2 (n.laneErrors.get l)) ++
  leBytes 2 n.discarded ++ leBytes 2 n.overruns ++ leBytes 2 n.resent ++ leBytes 2 n.badPages ++
  leBytes 2 n.abandoned ++ leBytes 2 n.syncFaults ++ leBytes 2 n.droppedTopology

/-- Every notice, argument and counter cleared, each latched-low condition at its present condition (R176). -/
def State.clearNotices (s : State) : State :=
  { s with notices := { Notices.initial with lows := s.presentBad, pulse := s.notices.pulse } }

end Sys2Proof.Machine
end

