-- ==== Sys2Proof/Machine/Lanes.lean ====
section
/-! DEFINITION. The lane intake (01, R1 to R8). -/

namespace Sys2Proof.Machine

/-- A meaning that acts only while the part takes events: with the reset line asserted nothing changes (R186). -/
def State.whenAlive (s : State) (f : State → State) : State := if s.stopped then s else f s

/-- Whether the lane intake receives (R8): in every operating state but STARTING. -/
def State.receiving (s : State) : Bool := s.op != .starting

/-- What the frame place holds at a raw-sample instant (R2). -/
inductive Verdict where
  /-- No frame. -/
  | missing
  /-- Not structurally good. -/
  | broken
  /-- Structurally good, out of sequence. -/
  | slipped (counter : Byte)
  /-- A good frame. -/
  | good (counter : Byte)
  deriving DecidableEq, Repr

/-- A frame is structurally good: its start byte and its check (R2). -/
def frameGood (f : List Byte) : Bool := f.length == 29 && byteAt f 0 == 0xC3#8 && crcOk f

/-- The verdict on a lane's frame place (R2). -/
def Lane.verdict (l : Lane) : Verdict :=
  match l.place with
  | none => .missing
  | some f =>
    if !frameGood f then .broken
    else if l.expected == none || l.expected == some (byteAt f 1) then .good (byteAt f 1)
    else .slipped (byteAt f 1)

/-- The lane after a raw-sample instant: place emptied, expected counter and consecutive counts (R2, R5). -/
def Lane.sample (l : Lane) : Lane :=
  match l.verdict with
  | .good ctr => { l with place := none, expected := some (ctr + 1), bad := 0, good := satAdd 64 l.good 1 }
  | .slipped ctr => { l with place := none, expected := some (ctr + 1), bad := satAdd 16 l.bad 1, good := 0 }
  | .broken | .missing => { l with place := none, bad := satAdd 16 l.bad 1, good := 0 }

/-- Whether the instant's frame is a good one. -/
def Lane.isGood (l : Lane) : Bool := match l.verdict with | .good _ => true | _ => false

/-- An UP lane whose consecutive-bad count has reached 16 (R5). -/
def Lane.downDue (l : Lane) : Bool := l.up && l.bad == 16

/-- A DOWN lane whose consecutive-good count has reached 64 (R6). -/
def Lane.upDue (l : Lane) : Bool := !l.up && l.good == 64

/-- Whether the lane is DOWN from this instant on, the entry due at it counted (R5, R6). -/
def Lane.downNow (l : Lane) : Bool := if l.up then l.downDue else !l.upDue

/-- The fresh code that the lane's frame delivers in slot `j`, if it delivers one unmarked (R3). -/
def Lane.fresh (l : Lane) (j : Fin 8) : Option Int :=
  match l.place with
  | some f => if l.isGood && !(byteAt f 26).getLsbD j.val then some (ofLeInt (slice f (2 + 3 * j.val) 3)) else none
  | none => none

/-- Whether a code is one of the two extreme codes (R4). -/
def extreme (code : Int) : Bool := code == -8388608 || code == 8388607

/-- The channel after a raw-sample instant, with its scale (R3, R4). -/
def Channel.sample (ch : Channel) (scale : Nat) (fresh : Option Int) : Channel :=
  match fresh with
  | some code => { last := code, held := false, clip := ch.clip || (extreme code && scale != 0) }
  | none => { ch with held := true }

/-- The fresh code of channel `c` at this instant (R1, R3). -/
def State.freshCode (s : State) (c : Fin 30) : Option Int :=
  (s.lanes.get (channelPlace c).1).fresh (channelPlace c).2

/-- The channels after a raw-sample instant (R3, R4); the clip test reads the scale in force at the instant (log 50). -/
def State.sampledChannels (s : State) : Table Channel 30 :=
  s.channels.each fun c ch => ch.sample (s.settings.scale.get c) (s.freshCode c)

/-- The intake of a raw-sample instant (R2 to R5): frames checked, places emptied, codes delivered, counts updated, errors
counted, CLIP latched. -/
def State.intake (s : State) : State :=
  let chans := s.sampledChannels
  let s1 := { s with lanes := s.lanes.each (fun _ l => l.sample), channels := chans }
  let s2 := (List.finRange 4).foldl
    (fun t l => if (s.lanes.get l).isGood then t else t.countLaneError l) s1
  (List.finRange 30).foldl
    (fun t c => t.latchIf ((chans.get c).clip && !(s.channels.get c).clip) (.clip c)) s2

/-- LANE_FRAME_COMPLETE (R2): the frame takes the empty place, or is an extra frame, discarded and counted. -/
def State.laneFrame (l : Fin 4) (bytes : List Byte) (s : State) : State :=
  if s.receiving && bytes.length == 29 then
    match (s.lanes.get l).place with
    | none => { s with lanes := s.lanes.change l fun x => { x with place := some bytes } }
    | some _ => s.countLaneError l
  else s

/-- LANE_FRAME_TIMEOUT (R2): the frame is discarded and counted. -/
def State.laneTimeout (l : Fin 4) (s : State) : State := if s.receiving then s.countLaneError l else s

/-- A lane enters DOWN where its entry is due (R5). -/
def State.laneDown (l : Fin 4) (s : State) : State :=
  if (s.lanes.get l).downDue then
    (({ s with lanes := s.lanes.change l fun x => { x with up := false } }).latch (.laneFault l)).recordLows
  else s

/-- A lane enters UP where its entry is due (R6). -/
def State.laneUp (l : Fin 4) (s : State) : State :=
  if (s.lanes.get l).upDue then { s with lanes := s.lanes.change l fun x => { x with up := true } } else s

/-- The meaning of LANE_FRAME_COMPLETE. -/
def execLaneFrameComplete (l : Fin 4) (bytes : List Byte) (s : State) : Host.Outcome State Fault Refusal :=
  .next (s.whenAlive (State.laneFrame l bytes))

/-- The meaning of LANE_FRAME_TIMEOUT. -/
def execLaneFrameTimeout (l : Fin 4) (s : State) : Host.Outcome State Fault Refusal :=
  .next (s.whenAlive (State.laneTimeout l))

/-- The meaning of LANE_ENTER_DOWN. -/
def execLaneEnterDown (l : Fin 4) (s : State) : Host.Outcome State Fault Refusal :=
  .next (s.whenAlive (State.laneDown l))

/-- The meaning of LANE_ENTER_UP. -/
def execLaneEnterUp (l : Fin 4) (s : State) : Host.Outcome State Fault Refusal :=
  .next (s.whenAlive (State.laneUp l))

end Sys2Proof.Machine
end

