-- ==== Sys2Proof/Machine/Trackers.lean ====
section
/-! DEFINITION. The frequency trackers (01, R9 to R17). -/

namespace Sys2Proof.Machine

/-- The acquire condition (R11): four frequencies spanning at most 50 mHz. -/
def acquired (run : List Nat) : Bool :=
  run.length == 4 && run.foldl max 0 ≤ run.foldl min (run.headD 0) + 50

/-- The mean of the acquisition run, rounded half up (R11, R12). -/
def runMean (run : List Nat) : Nat := roundHalfUp run.sum run.length

/-- The acquisition run with a good cycle's frequency appended, the oldest of four removed first (R9). -/
def appendRun (run : List Nat) (f : Nat) : List Nat := (if 4 ≤ run.length then run.drop 1 else run) ++ [f]

/-- The span of presence begun anew. -/
def Tracker.clearSpan (t : Tracker) : Tracker :=
  { t with count := 0, sumSq := Table.all 0, laneDown := false, heldRef := false }

/-- What a raw-sample instant delivers to a tracker: the codes before and at it of the three phases, their HELD marks, and
whether lane 0 is DOWN. -/
structure SetSample where
  before : Table Int 3
  now : Table Int 3
  held : Table Bool 3
  laneDown : Bool
  deriving DecidableEq, Repr

/-- A raw sample added to the span of presence (R9, R10). -/
def Tracker.addSample (t : Tracker) (x : SetSample) : Tracker :=
  { t with
    count := t.count + 1
    sumSq := t.sumSq.each fun p q => q + (x.now.get p * x.now.get p).natAbs
    laneDown := t.laneDown || x.laneDown
    heldRef := t.heldRef || match t.ref with | some p => x.held.get p | none => false }

/-- Whether the RMS of a span reaches the presence threshold (R10 (3)), both sides squared and cleared of fractions. -/
def rmsPresent (settings : Settings) (v : Fin 2) (p : Fin 3) (count sumSq : Nat) : Bool :=
  count * Config.fullScale ^ 2 * (settings.presence.get v) ^ 2 * (settings.nominalVoltage.get v) ^ 2 ≤
    sumSq * 2 * (settings.scale.get (voltageChannel v p)) ^ 2 * 10000

/-- Whether phase `p` of set `v` was present over the tracker's span (R10). -/
def Tracker.phasePresent (t : Tracker) (settings : Settings) (v : Fin 2) (p : Fin 3) : Bool :=
  !t.laneDown && settings.scale.get (voltageChannel v p) != 0 && rmsPresent settings v p t.count (t.sumSq.get p)

/-- The presence of all three phases judged over the span (R10). -/
def Tracker.judgePresence (t : Tracker) (settings : Settings) (v : Fin 2) : Tracker :=
  { t with present := Table.make fun p => t.phasePresent settings v p }

/-- Whether the reference phase was present as last judged. -/
def Tracker.refPresent (t : Tracker) : Bool := match t.ref with | some p => t.present.get p | none => false

/-- The tracker entered into LOCKED at the mean of its run (R11, R15). -/
def Tracker.lock (t : Tracker) : Tracker := { t with state := .locked, freq := runMean t.run, holdover := 0 }

/-- A good cycle of frequency `f` (R9, R11, R12). -/
def Tracker.goodCycle (t : Tracker) (f : Nat) : Tracker :=
  let t := { t with run := appendRun t.run f }
  match t.state with
  | .locked => { t with freq := runMean t.run }
  | .following => t
  | .acquiring | .holdover | .freeRun => if acquired t.run then t.lock else t

/-- A failing cycle (R9, R12): the run is emptied; LOCKED becomes HOLDOVER with its frequency held. -/
def Tracker.failCycle (t : Tracker) : Tracker :=
  let t := { t with run := [] }
  match t.state with
  | .locked => { t with state := .holdover, holdover := 0 }
  | _ => t

/-- The frequency in mHz of a period in 1/256 sample (R9). -/
def cycleFreq (period : Nat) : Nat := roundHalfUp 8192000000 period

/-- Whether a closed cycle of frequency `f` fails, presence judged (R9 (1) to (4)). -/
def Tracker.cycleFails (t : Tracker) (f : Nat) : Bool :=
  f < 42500 || 69000 < f || !t.refPresent || t.heldRef ||
    (t.state == .locked && (t.freq + 1000 < f || f + 1000 < t.freq))

/-- The reference phase lost: none, and no open cycle (R10). -/
def Tracker.dropRef (t : Tracker) : Tracker := { t with ref := none, opened := none, since := 0 }

/-- The position of a positive-going crossing between codes `a < 0` and `b ≥ 0`, in 1/256 sample (R9). -/
def crossingAt (a b : Int) : Nat := roundHalfUp (256 * a.natAbs) (b - a).natAbs

/-- The open cycle closed by a crossing `frac` after the sample before this one (R9 to R12). -/
def Tracker.closeCycle (t : Tracker) (settings : Settings) (v : Fin 2) (opening frac : Nat) : Tracker :=
  let t := t.judgePresence settings v
  let f := cycleFreq ((t.since + 1) * 256 + frac - opening)
  let u := if t.cycleFails f then t.failCycle else t.goodCycle f
  if t.refPresent then { u with opened := some frac, since := 0 } else u.dropRef

/-- Whether a crossing of the reference phase is found at this sample and not ignored (R9). -/
def Tracker.crosses (t : Tracker) (x : SetSample) : Option Nat :=
  match t.ref with
  | none => none
  | some p =>
    if x.before.get p < 0 && 0 ≤ x.now.get p && (t.opened == none || 256 < t.since + 1) then
      some (crossingAt (x.before.get p) (x.now.get p))
    else none

/-- A tracker's part of a raw-sample instant (R9, R10). -/
def Tracker.sample (t : Tracker) (settings : Settings) (v : Fin 2) (x : SetSample) : Tracker :=
  match t.crosses x with
  | some frac =>
    match t.opened with
    | none => (({ t with opened := some frac, since := 0 }).clearSpan).addSample x
    | some opening => ((t.closeCycle settings v opening frac).clearSpan).addSample x
  | none => ({ t with since := if t.opened.isSome then t.since + 1 else 0 }).addSample x

/-- The tracker held in a window's pace is no longer LOCKED: the windows it paces lose their mark (R26). -/
def State.refreshLocks (s : State) : State :=
  { s with timebases := s.timebases.each fun t tb =>
      { tb with window := tb.window.map fun w =>
          { w with locked := w.locked && (s.trackers.get (w.joined.getD t)).state == .locked } } }

/-- Tracker `v` replaced; leaving LOCKED for HOLDOVER latches TRACK_LOST (R12). -/
def State.setTracker (s : State) (v : Fin 2) (t : Tracker) : State :=
  let lost := (s.trackers.get v).state == .locked && t.state == .holdover
  let s1 : State := { s with trackers := s.trackers.put v t }
  (s1.latchIf lost (.trackLost v)).refreshLocks.recordLows

/-- What this instant delivers to tracker `v`, `old` being the state before the intake. -/
def State.setSample (s old : State) (v : Fin 2) : SetSample :=
  { before := Table.make fun p => (old.channels.get (voltageChannel v p)).last
    now := Table.make fun p => (s.channels.get (voltageChannel v p)).last
    held := Table.make fun p => (s.channels.get (voltageChannel v p)).held
    laneDown := (s.lanes.get 0).downNow }

/-- Both trackers' part of a raw-sample instant, `old` being the state before the intake. -/
def State.trackSample (s old : State) : State :=
  (List.finRange 2).foldl
    (fun u v => u.setTracker v ((u.trackers.get v).sample s.settings v (s.setSample old v))) s

/-- Whether the abandonment of the open cycle is due (R9). A reference phase that has opened no cycle is not abandoned, lane 0
DOWN or not (log 51). -/
def Tracker.abandonDue (t : Tracker) : Bool := t.opened.isSome && 760 ≤ t.since

/-- CYCLE_ABANDON (R9, R10): the open cycle fails, the reference phase becomes none, a run of 640 samples begins. -/
def State.abandonCycle (v : Fin 2) (s : State) : State :=
  let t := s.trackers.get v
  if t.abandonDue then s.setTracker v (((t.judgePresence s.settings v).failCycle.dropRef).clearSpan) else s

/-- Whether the end of a presence run is due (R10). -/
def Tracker.runDue (t : Tracker) : Bool := t.ref == none && 640 ≤ t.count

/-- PRESENCE_RUN_END (R10): the lowest-lettered present phase becomes the reference phase; a new span begins. -/
def State.endPresenceRun (v : Fin 2) (s : State) : State :=
  let t := s.trackers.get v
  if t.runDue then
    let u := t.judgePresence s.settings v
    s.setTracker v ({ u with ref := (List.finRange 3).find? fun p => u.present.get p }).clearSpan
  else s

/-- Whether the entry into FREE_RUN is due (R13). -/
def Tracker.freeRunDue (t : Tracker) : Bool := t.state == .holdover && 25 ≤ t.holdover

/-- TRACKER_ENTER_FREE_RUN (R13): nominal frequency (`trackedFreq`), holdover window count 0. -/
def State.enterFreeRun (v : Fin 2) (s : State) : State :=
  let t := s.trackers.get v
  if t.freeRunDue then s.setTracker v { t with state := .freeRun, holdover := 0 } else s

/-- A completed window of the tracker's timebase counted toward the holdover limit (R13, R28 (4)). -/
def Tracker.countWindow (t : Tracker) : Tracker :=
  if t.state == .holdover then { t with holdover := satAdd 25 t.holdover 1 } else t

/-- The tracker of set `v` under an arrangement just made active (R15). -/
def Tracker.arrange (t : Tracker) (v : Fin 2) (a : Arrangement) : Tracker :=
  if a.pacer v != v then { t with state := .following, holdover := 0 }
  else if t.state == .following then
    if acquired t.run then t.lock else { t with state := .acquiring, holdover := 0 }
  else t

/-- Both trackers under an arrangement just made active (R15): entering FOLLOWING latches no TRACK_LOST. -/
def State.arrangeTrackers (s : State) (a : Arrangement) : State :=
  ({ s with trackers := s.trackers.each fun v t => t.arrange v a }).refreshLocks.recordLows

/-- The meaning of CYCLE_ABANDON. -/
def execCycleAbandon (v : Fin 2) (s : State) : Host.Outcome State Fault Refusal :=
  .next (s.whenAlive (State.abandonCycle v))

/-- The meaning of PRESENCE_RUN_END. -/
def execPresenceRunEnd (v : Fin 2) (s : State) : Host.Outcome State Fault Refusal :=
  .next (s.whenAlive (State.endPresenceRun v))

/-- The meaning of TRACKER_ENTER_FREE_RUN. -/
def execTrackerEnterFreeRun (v : Fin 2) (s : State) : Host.Outcome State Fault Refusal :=
  .next (s.whenAlive (State.enterFreeRun v))

end Sys2Proof.Machine
end

