-- ==== Sys2Proof/Machine/Analyser.lean ====
section
/-! DEFINITION. The window analysers (02, R16, R18 to R31): window start, samples, resampling, phasors, total RMS, the
completed window, abandonment. -/

namespace Sys2Proof.Machine

/-! ### Window start -/

/-- The length of a window in raw samples at a tracked frequency (R16). -/
def windowLength (f : Nat) : Nat := roundHalfUp 256000000 f

/-- Whether a window in progress of timebase `t` owns tap `k` (R18, R30). -/
def State.tapHeldBy (s : State) (t : Fin 2) (k : Fin 8) : Bool :=
  match (s.timebases.get t).window with
  | some w => w.ownsTap.get k
  | none => false

/-- Whether a window of timebase `t` that starts now owns tap `k` (R18): in SEPARATE a tap bound to its set and not still
owned by a window in progress of the other timebase (R30); where both timebases start at one raw sample, the tap enters at
that start (log 52). -/
def State.startOwnsTap (s : State) (t : Fin 2) (k : Fin 8) : Bool :=
  match s.arrangement with
  | .separate => s.settings.binding.get k == t && !s.tapHeldBy (other t) k
  | .common _ => true

/-- The window of timebase `t` that starts at this raw sample (R16, R18, R19, R22). -/
def State.newWindow (s : State) (t : Fin 2) : Window :=
  let a := s.arrangement
  let f := s.trackedFreq (a.pacer t)
  let locked := (s.trackers.get (a.pacer t)).state == .locked
  { number := (s.timebases.get t).number
    start := s.sampleIndex
    n := windowLength f
    freq := f
    joined := match a with | .separate => none | .common leader => some leader
    lockedAtStart := locked
    locked := locked
    ownsSet := Table.make fun v => match a with | .separate => v == t | .common _ => true
    ownsTap := Table.make fun k => s.startOwnsTap t k
    binding := s.settings.binding
    scale := s.settings.scale
    delay := s.settings.delay
    prior := Table.make fun c => (s.channels.get c).last
    held := Table.make fun c => decide (s.settings.delay.get c < 0) && (s.channels.get c).held
    lanesDown := Table.all false
    rows := [] }

/-- Whether timebase `t` starts a window at the next raw sample: it cuts windows and has none in progress (R19, R30, R31). -/
def State.startDue (s : State) (t : Fin 2) : Bool :=
  s.arrangement.cuts t && (s.timebases.get t).window == none

/-- The windows that start at this raw sample. -/
def State.startWindows (s : State) : State :=
  (List.finRange 2).foldl
    (fun u t => if u.startDue t then
        { u with timebases := u.timebases.change t fun tb => { tb with window := some (u.newWindow t) } }
      else u) s

/-! ### Samples -/

/-- Whether a window owns channel `c` (R18). -/
def ownsChannel (ownsSet : Table Bool 2) (ownsTap : Table Bool 8) (c : Fin 30) : Bool :=
  match channelOwner c with
  | .inl v => ownsSet.get v
  | .inr k => ownsTap.get k

/-- A window after one raw sample (R25, R26): codes kept, HELD and lanes-down marks met, whether the pacer is LOCKED. -/
def Window.sample (w : Window) (s : State) (t : Fin 2) : Window :=
  { w with
    rows := (Table.make fun c => (s.channels.get c).last) :: w.rows
    held := w.held.each fun c h => h || (s.channels.get c).held
    lanesDown := w.lanesDown.each fun l d => d || (s.lanes.get l).downNow
    locked := w.locked && (s.trackers.get (w.joined.getD t)).state == .locked }

/-- The raw sample taken into every window in progress, and the raw-sample index raised; behind 2^64 − 1 it wraps to 0
(DESIGN CHOICE, log 66). -/
def State.sampleWindows (s : State) : State :=
  { s with
    timebases := s.timebases.each fun t tb => { tb with window := tb.window.map fun w => w.sample s t }
    sampleIndex := (s.sampleIndex + 1) % 2 ^ 64 }

/-- Whether the window has received its sample at position n − 1 (R19). -/
def Window.complete (w : Window) : Bool := w.n ≤ w.rows.length

/-! ### Resampling (R21, R22) -/

/-- The codes of channel `c` from position −1 onward. -/
def Window.codes (w : Window) (c : Fin 30) : Array Int :=
  (w.prior.get c :: w.rows.reverse.map (·.get c)).toArray

/-- 1024 times the resampled point x_m (R21): position m·n/1024 + d/256 is `(m·n + 4·d) / 1024`. -/
def resample (codes : Array Int) (n : Nat) (d : Int) (m : Nat) : Int :=
  let pos : Int := (m * n : Nat) + 4 * d
  let j := pos / 1024
  let u := pos % 1024
  let a := codes.getD (j + 1).toNat 0
  let b := codes.getD (j + 2).toNat 0
  1024 * a + u * (b - a)

/-- The 1 024 resampled points of channel `c`, each times 1024. -/
def Window.points (w : Window) (c : Fin 30) : List Int :=
  let codes := w.codes c
  (List.range 1024).map fun m => resample codes w.n (w.delay.get c) m

/-! ### The transform (R23, R24) -/

/-- Bits below the point of the cosines. A phasor part is `scale · S / (2^19 · 8388607)` with `S` an integer combination
of cos(2πj/128), j = 0 to 127. `S` lies in a field of degree 32, so a part that is no half integer differs from every half
integer by more than 2^−2450, and a part that is one has only the terms cos 0 and cos π/2, which are exact below: the
rounding by these cosines is that of the exact value (log 12, DEDUCED). -/
def cosBits : Nat := 2560

/-- cos(θ/2) from cos θ, both times `2^cosBits`: the half-angle formula. -/
def halfAngle (c : Nat) : Nat := isqrt ((2 ^ cosBits + c) * 2 ^ cosBits / 2)

/-- cos(2π/128) times `2^cosBits`, halved down from cos(π/2) = 0. -/
def cosStep : Nat := halfAngle (halfAngle (halfAngle (halfAngle (halfAngle 0))))

/-- cos(2πj/128) for the next `k` angles, times `2^cosBits`, by cos((j+1)θ) = 2 cos θ cos jθ − cos((j−1)θ). -/
def cosChain : Nat → Int → Int → List Int
  | 0, _, _ => []
  | k + 1, a, b => a :: cosChain k b (2 * cosStep * b / 2 ^ cosBits - a)

/-- cos(2πj/128) for j = 0 to 31, times `2^cosBits`. -/
def cosQuarter : List Int := cosChain 32 (2 ^ cosBits) cosStep

/-- cos(2πj/128) times `2^cosBits`, by the symmetries of the cosine. -/
def cos128 (j : Nat) : Int :=
  let j := j % 128
  let j := if 64 < j then 128 - j else j
  if j = 32 then 0
  else if 32 < j then -(cosQuarter.getD (64 - j) 0)
  else cosQuarter.getD j 0

/-- sin(2πj/128) times `2^cosBits`. -/
def sin128 (j : Nat) : Int := cos128 (j + 96)

/-- The 1 024 points folded by their place modulo 128: cos(2π·8h·m/1024) has that period in m. -/
def fold128 (points : Array Int) : List Int :=
  (List.range 128).map fun r => ((List.range 8).map fun q => points.getD (128 * q + r) 0).sum

/-- The sum of folded points weighted by `f (h · r)`. -/
def weighted (folded : List Int) (f : Nat → Int) (h : Nat) : Int :=
  ((folded.zipIdx).map fun x => x.1 * f (h * x.2)).sum

/-- A sum in codes converted to mV or mA, rounded half away from zero and saturated (R23). -/
def phasorPart (scale : Nat) (sum : Int) : Int :=
  clampInt 2147483647 (roundHalfAway (scale * sum) (2 ^ (19 + cosBits) * Config.fullScale))

/-- The phasor of order `h` (R23). -/
def phasorOf (scale : Nat) (folded : List Int) (h : Nat) : Phasor :=
  ⟨phasorPart scale (weighted folded cos128 h), phasorPart scale (-(weighted folded sin128 h))⟩

/-- The total RMS of a channel (R24). -/
def totalRms (scale : Nat) (points : List Int) : Nat :=
  sqrtHalfUp (2 * (points.map fun x => (x * x).natAbs).sum * scale ^ 2) (2 ^ 30 * Config.fullScale ^ 2)

/-- The zero phasor. -/
def Phasor.zero : Phasor := ⟨0, 0⟩

/-- A channel the window did not own (R27). -/
def ChannelEntry.notOwned : ChannelEntry := ⟨false, false, false, false, 0, Table.all Phasor.zero⟩

/-- The entry of channel `c` in the completed window's table, `clip` being its clip latch (R23 to R25, R27). -/
def Window.entry (w : Window) (c : Fin 30) (clip : Bool) : ChannelEntry :=
  if ownsChannel w.ownsSet w.ownsTap c then
    let scale := w.scale.get c
    if scale = 0 then ⟨true, true, w.held.get c, clip, 0, Table.all Phasor.zero⟩
    else
      let points := w.points c
      let folded := fold128 points.toArray
      ⟨true, false, w.held.get c, clip, totalRms scale points, Table.make fun i => phasorOf scale folded (i.val + 1)⟩
  else .notOwned

/-- The phasor table of a window at its completion (R26, R27). -/
def Window.toTable (w : Window) (channels : Table Channel 30) : PhasorTable :=
  { number := w.number, start := w.start, n := w.n, freq := w.freq, joined := w.joined
    track := !(w.lockedAtStart && w.locked)
    lanesDown := w.lanesDown
    entries := Table.make fun c => w.entry c (channels.get c).clip }

/-- The completed-window event (R28). -/
structure CompletedWindow where
  timebase : Fin 2
  table : PhasorTable
  ownsSet : Table Bool 2
  ownsTap : Table Bool 8
  binding : Table (Fin 2) 8
  deriving DecidableEq, Repr

/-- The number after a window number (R20). -/
def nextNumber (n : Nat) : Nat := (n + 1) % 2 ^ 32

/-- The clip latches of the channels a window owns cleared (R25, R29). -/
def State.clearClips (s : State) (w : Window) : State :=
  { s with channels := s.channels.each fun c ch =>
      { ch with clip := ch.clip && !ownsChannel w.ownsSet w.ownsTap c } }

/-- The window's own completion (R20, R25, R27, R28 (4)): table replaced, clip latches read and cleared, number raised,
completion counted by the pacing tracker. The next window starts at the next raw sample. -/
def State.finishWindow (s : State) (t : Fin 2) (w : Window) : State :=
  let s1 := s.clearClips w
  { s1 with
    timebases := s1.timebases.put t ⟨nextNumber w.number, none, some (w.toTable s.channels)⟩
    trackers := s1.trackers.change (w.joined.getD t) Tracker.countWindow }

/-- The event a completing window hands over (R28). -/
def State.windowEvent (s : State) (t : Fin 2) (w : Window) : CompletedWindow :=
  ⟨t, w.toTable s.channels, w.ownsSet, w.ownsTap, w.binding⟩

/-- The window in progress of timebase `t` abandoned (R20, R29 (1) to (5)). -/
def State.abandonWindow (s : State) (t : Fin 2) (w : Window) : State :=
  let s1 := s.clearClips w
  ({ s1 with timebases := s1.timebases.change t fun tb => { tb with window := none } }).countAbandoned

/-! ### SNAPSHOT (R32, R33) -/

/-- The channel entry of a SNAPSHOT reply (R33), for the orders of the mask. -/
def snapshotEntry (c : Fin 30) (e : ChannelEntry) (orders : Nat) : List Byte :=
  byte c.val ++ byte (bitsOf [!e.owned, e.unused, e.held, e.clip]) ++ leBytes 4 e.rms ++ leBytes 2 0 ++
  (List.finRange 40).flatMap fun i =>
    if bitOf orders i.val then leInt 4 (e.phasors.get i).re ++ leInt 4 (e.phasors.get i).im else []

/-- The SNAPSHOT reply body (R33). -/
def snapshotBody (t : Fin 2) (p : PhasorTable) (channels orders : Nat) : List Byte :=
  byte t.val ++ leBytes 4 p.number ++ leBytes 8 p.start ++ leBytes 2 p.n ++ leBytes 4 p.freq ++
  byte (bitsOf [p.track, p.joined.isSome, p.lanesDown.get 0, p.lanesDown.get 1, p.lanesDown.get 2, p.lanesDown.get 3]) ++
  leBytes 4 0 ++
  (List.finRange 30).flatMap fun c =>
    if bitOf channels c.val then snapshotEntry c (p.entries.get c) orders else []

/-- The number of bits of `mask` set below `n`. -/
def countBits (n mask : Nat) : Nat := ((List.range n).filter fun i => bitOf mask i).length

/-- The size of a SNAPSHOT reply body (R33). -/
def snapshotSize (channels orders : Nat) : Nat := 24 + countBits 30 channels * (8 + 8 * countBits 40 orders)

/-- SNAPSHOT at the analyser (R32); the empty-mask test reads all 32 bits of the channel field (log 53). -/
def State.snapshot (s : State) (body : List Byte) : Status × List Byte :=
  let tb := field body 0 1
  let channels := field body 1 4
  let orders := field body 5 5
  if h : tb < 2 then
    if channels = 0 || orders = 0 then (.range, [])
    else if 2 ^ 30 ≤ channels then (.field, [])
    else
      match (s.timebases.get ⟨tb, h⟩).table with
      | none => (.refusedState, [])
      | some p =>
        if 1024 < snapshotSize channels orders then (.tooLarge, [])
        else (.done, snapshotBody ⟨tb, h⟩ p channels orders)
  else (.range, [])

end Sys2Proof.Machine
end

