-- ==== Sys2Proof/Machine/Plans.lean ====
section
/-! DEFINITION. The topology selector (03): switch inputs, selection, the plan table and its requests, and the beginning of
a store write of the image (11.2). -/

namespace Sys2Proof.Machine

/-! ### Store writes of the image (11.2) -/

/-- The items the stored image holds; the defaults while it fails its check (R180, R182). -/
def State.storedImage (s : State) : Image := s.nv.image.getD Image.default

/-- A store write is in progress. -/
def State.storeBusy (s : State) : Bool := s.store.isSome

/-- A store write of the image begins, `f` changing the items it writes (R181). -/
def State.writeImage (s : State) (f : Image → Image) : State :=
  { s with store := some (.image (f s.storedImage)) }

/-! ### Switch inputs (3.1) -/

/-- The switch word: none until every input has a debounced level (R34, R35). -/
def Selector.word (x : Selector) : Option (BitVec 8) :=
  if (List.finRange 8).all fun i => (x.inputs.get i).level.isSome then
    some (BitVec.ofNat 8 (bitsOf ((List.finRange 8).map fun i => (x.inputs.get i).level.getD false)))
  else none

/-- An input at a millisecond sample, with the debounce time that a timer started now takes (R34, R35). -/
def SwitchInput.sample (x : SwitchInput) (lv : Bool) (debounceTime : Nat) : SwitchInput :=
  let fresh : Option Debounce := some ⟨0, debounceTime⟩
  let differs : Bool := x.level != some lv
  let changed : Bool := x.sampled != some lv
  let timer : Option Debounce :=
    match x.timer with
    | none => if differs then fresh else none
    | some d =>
      if changed then (if differs then fresh else none)
      else some { d with ran := satAdd d.limit d.ran 1 }
  { x with sampled := some lv, timer := timer }

/-- Whether an input's timer has reached the debounce time it runs to (R34). -/
def SwitchInput.timerDone (x : SwitchInput) : Bool :=
  match x.timer with | some d => d.limit ≤ d.ran | none => false

/-- Whether an input's debounce is due to complete (R34). -/
def SwitchInput.due (x : SwitchInput) : Bool := x.level.isSome && x.timerDone

/-- The input with its debounced level taken from its sampled level, its timer stopped (R34, R35). -/
def SwitchInput.settle (x : SwitchInput) : SwitchInput := { x with level := x.sampled, timer := none }

/-- Whether the first switch word is due: no word yet and every input stable for one debounce time (R35). -/
def Selector.firstDue (x : Selector) : Bool :=
  x.word == none && (List.finRange 8).all fun i => (x.inputs.get i).timerDone && (x.inputs.get i).level == none

/-! ### Selection (3.3) -/

/-- The content of a VALID slot. -/
def Selector.slotContent (x : Selector) (p : Fin 8) : Option PlanContent := (x.slots.get p).map (·.content)

/-- Whether a slot matches a switch word (R37). -/
def Selector.fits (x : Selector) (w : BitVec 8) (p : Fin 8) : Bool :=
  match x.slots.get p with
  | some sl => w &&& sl.content.mask == sl.content.value
  | none => false

/-- The chosen slot for a switch word: the lowest-numbered matching slot (R37). -/
def Selector.chosen (x : Selector) (w : BitVec 8) : Option (Fin 8) := (List.finRange 8).find? (x.fits w)

/-- Selection runs on the present switch word (R37 to R39); it does not run before the first word exists. -/
def State.select (s : State) : State :=
  match s.selector.word with
  | none => s
  | some w =>
    match s.selector.chosen w with
    | none => ({ s with selector := { s.selector with pendingPlan := none, unmatched := true } }).latch .unmatched
    | some p =>
      let marker := if s.selector.active == some p && !s.selector.replacement then none else some p
      { s with selector := { s.selector with pendingPlan := marker, unmatched := false } }

/-! ### Switch events -/

/-- An input of the selector changed. -/
def State.changeInput (s : State) (i : Fin 8) (f : SwitchInput → SwitchInput) : State :=
  { s with selector := { s.selector with inputs := s.selector.inputs.change i f } }

/-- DEBOUNCE_COMPLETE of input `i` where it is due (R34): level, switch word, selection. -/
def State.debounce (i : Fin 8) (s : State) : State :=
  if (s.selector.inputs.get i).due then (s.changeInput i SwitchInput.settle).select else s

/-- FIRST_SWITCH_WORD where it is due (R35): every level, first selection. -/
def State.firstWord (s : State) : State :=
  if s.selector.firstDue then
    ({ s with selector := { s.selector with inputs := s.selector.inputs.each fun _ x => x.settle } }).select
  else s

/-- The debounces still due are taken before the next millisecond sample (log 3). -/
def State.settleDebounce (s : State) : State := ((List.finRange 8).foldl (fun u i => u.debounce i) s).firstWord

/-- SWITCH_SAMPLE (R34, R35, R55): every input is sampled; not in STARTING. -/
def State.switchSample (levels : BitVec 8) (s : State) : State :=
  if s.op == .starting then s
  else
    let u := s.settleDebounce
    let inputs := u.selector.inputs.each fun i x => x.sample (levels.getLsbD i.val) u.settings.debounceTime
    { u with selector := { u.selector with inputs := inputs } }

/-- The meaning of SWITCH_SAMPLE. -/
def execSwitchSample (levels : BitVec 8) (s : State) : Host.Outcome State Fault Refusal :=
  .next (s.whenAlive (State.switchSample levels))

/-- The meaning of DEBOUNCE_COMPLETE. -/
def execDebounceComplete (i : Fin 8) (s : State) : Host.Outcome State Fault Refusal :=
  .next (s.whenAlive (State.debounce i))

/-- The meaning of FIRST_SWITCH_WORD. -/
def execFirstSwitchWord (s : State) : Host.Outcome State Fault Refusal :=
  .next (s.whenAlive State.firstWord)

/-! ### Plan requests (3.6): each answers a status, a reply body and the state after it -/

/-- What a block answers to a request: status, reply body, state after it (R163). -/
structure Answer where
  status : Status
  body : List Byte
  after : State
  deriving DecidableEq, Repr

/-- A refusal: nothing changes and the body is empty (R163). -/
def State.refuse (s : State) (x : Status) : Answer := ⟨x, [], s⟩

/-- DONE with an empty body. -/
def State.doneNow (s : State) : Answer := ⟨.done, [], s⟩

/-- PLAN_OPEN (R44). -/
def State.planOpen (s : State) (body : List Byte) : Answer :=
  if h : field body 0 1 < 8 then
    if s.selector.buffer.isSome then s.refuse .sequence
    else ({ s with selector := { s.selector with buffer := some ⟨⟨field body 0 1, h⟩, []⟩ } }).doneNow
  else s.refuse .range

/-- The status that refuses a member's four bytes, or the member (R45 (4)). -/
def readMember (bs : List Byte) : Status ⊕ Member :=
  let account := field bs 0 1
  let kind := field bs 1 1
  let number := field bs 2 1
  let sign := byteAt bs 3
  if 1 < kind then .inl .field
  else if ha : account < 16 then
    if sign != 0x01#8 && sign != 0xFF#8 then .inl .range
    else if kind = 0 then
      if hk : number < 8 then .inr ⟨⟨account, ha⟩, .tap ⟨number, hk⟩, sign == 0x01#8⟩ else .inl .range
    else
      if hj : number < 4 then .inr ⟨⟨account, ha⟩, .peer ⟨number, hj⟩, sign == 0x01#8⟩ else .inl .range
  else .inl .range

/-- `k` members read one by one, the first refusal answered (R45 (4)). -/
def readMembers : Nat → List Byte → Status ⊕ List Member
  | 0, _ => .inr []
  | k + 1, bs =>
    match readMember (bs.take 4) with
    | .inl x => .inl x
    | .inr m =>
      match readMembers k (bs.drop 4) with
      | .inl x => .inl x
      | .inr ms => .inr (m :: ms)

/-- PLAN_ADD (R45, R165 (3)). -/
def State.planAdd (s : State) (body : List Byte) : Answer :=
  match s.selector.buffer with
  | none => s.refuse .sequence
  | some buf =>
    let count := field body 0 1
    if count = 0 || 8 < count then s.refuse .range
    else if body.length ≠ 1 + 4 * count then s.refuse .length
    else
      match readMembers count (body.drop 1) with
      | .inl x => s.refuse x
      | .inr ms =>
        let all := buf.members ++ ms
        if 32 < all.length then ({ s with selector := { s.selector with buffer := none } }).refuse .range
        else
          ⟨.done, byte all.length,
            { s with selector := { s.selector with buffer := some { buf with members := all } } }⟩

/-- Whether two members of a list have the same (account, point) pair (R36, R46 (2)). -/
def hasDuplicate : List Member → Bool
  | [] => false
  | m :: ms => ms.any (fun x => x.account == m.account && x.point == m.point) || hasDuplicate ms

/-- The arrangement of a PLAN_CONFIRM's two bytes (R46 (3), (5), R166). -/
def readArrangement (kind leader : Nat) : Option Arrangement :=
  if kind = 0 then some .separate
  else if kind = 1 then (if h : leader < 2 then some (.common ⟨leader, h⟩) else none)
  else none

/-- The content that a PLAN_CONFIRM would give its slot, or none where the validation fails (R46 (1) to (5)). -/
def confirmContent (members : List Member) (mask value : Byte) (kind leader : Nat) : Option PlanContent :=
  match readArrangement kind leader with
  | none => none
  | some a =>
    if members.isEmpty || hasDuplicate members || value &&& ~~~mask != 0 then none
    else some ⟨mask, value, a, members⟩

/-- A confirmed content put in its slot (R46): selection runs unless the slot is active, whose content follows by a
pending replacement. -/
def State.confirmSlot (s : State) (p : Fin 8) (c : PlanContent) (persist : Bool) : State :=
  let x := { s.selector with slots := s.selector.slots.put p (some ⟨c, persist⟩), buffer := none }
  let s1 :=
    if s.selector.active == some p then
      { s with selector := { x with replacement := true, pendingPlan := some p } }
    else ({ s with selector := x }).select
  if persist then s1.writeImage fun i => { i with plans := i.plans.put p (some c) } else s1

/-- PLAN_CONFIRM (R46). -/
def State.planConfirm (s : State) (body : List Byte) : Answer :=
  match s.selector.buffer with
  | none => s.refuse .sequence
  | some buf =>
    let persist := (byteAt body 4).getLsbD 0
    if persist && s.storeBusy then s.refuse .busy
    else
      match confirmContent buf.members (byteAt body 0) (byteAt body 1) (field body 2 1) (field body 3 1) with
      | none => ({ s with selector := { s.selector with buffer := none } }).refuse .range
      | some c => (s.confirmSlot buf.slot c persist).doneNow

/-- PLAN_DROP (R47). -/
def State.planDrop (s : State) : Answer :=
  if s.selector.buffer.isSome then ({ s with selector := { s.selector with buffer := none } }).doneNow
  else s.refuse .sequence

/-- Whether a slot is marked stored. -/
def Selector.isStored (x : Selector) (p : Fin 8) : Bool := match x.slots.get p with | some sl => sl.stored | none => false

/-- Whether slot `p` is active. -/
def Selector.isActive (x : Selector) (p : Fin 8) : Bool := x.active == some p

/-- The named slots emptied (R48), the stored ones removed from the stored image by one store write, selection run where a
named slot was VALID. -/
def State.clearSlots (s : State) (mask : Byte) : State :=
  let named (p : Fin 8) : Bool := mask.getLsbD p.val
  let x := { s.selector with slots := s.selector.slots.each fun p sl => if named p then none else sl }
  let anyValid := (List.finRange 8).any fun p => named p && (s.selector.slots.get p).isSome
  let anyStored := (List.finRange 8).any fun p => named p && s.selector.isStored p
  let s1 : State := { s with selector := x }
  let s2 := if anyValid then s1.select else s1
  if anyStored then
    s2.writeImage fun i => { i with plans := i.plans.each fun p c => if named p && s.selector.isStored p then none else c }
  else s2

/-- PLAN_CLEAR (R48). -/
def State.planClear (s : State) (body : List Byte) : Answer :=
  let mask := byteAt body 0
  if (List.finRange 8).any fun p => mask.getLsbD p.val && s.selector.isActive p then s.refuse .inUse
  else if s.storeBusy && (List.finRange 8).any fun p => mask.getLsbD p.val && s.selector.isStored p then s.refuse .busy
  else (s.clearSlots mask).doneNow

/-- The four bytes of a member, as in PLAN_ADD (9.3). -/
def Member.bytes (m : Member) : List Byte :=
  byte m.account.val ++
  (match m.point with
   | .tap k => byte 0 ++ byte k.val
   | .peer j => byte 1 ++ byte j.val) ++
  [if m.plus then 0x01#8 else 0xFF#8]

/-- The arrangement and leader bytes of a plan (R49). -/
def Arrangement.bytes : Arrangement → List Byte
  | .separate => [0, 0]
  | .common leader => byte 1 ++ byte leader.val

/-- PLAN_GET's reply body (R49). -/
def Selector.slotBody (x : Selector) (p : Fin 8) : List Byte :=
  match x.slots.get p with
  | none => byte p.val ++ [0, 0, 0, 0, 0, 0, 0]
  | some sl =>
    byte p.val ++ byte 1 ++
    byte (bitsOf [sl.stored, x.isActive p, x.pendingPlan == some p, x.isActive p && x.replacement]) ++
    [sl.content.mask, sl.content.value] ++ sl.content.arrangement.bytes ++ byte sl.content.members.length ++
    sl.content.members.flatMap Member.bytes

/-- PLAN_GET (R49). -/
def State.planGet (s : State) (body : List Byte) : Answer :=
  if h : field body 0 1 < 8 then ⟨.done, s.selector.slotBody ⟨field body 0 1, h⟩, s⟩ else s.refuse .range

end Sys2Proof.Machine
end

