-- ==== Sys2Proof/Machine/Accounting.lean ====
section
/-! DEFINITION. Window accounting, harmonic limits and peaks (04, 05): contributions, the account record, and the requests
ACCOUNT_READ, LIMIT_LOAD, LIMIT_GET and PEAK_SWAP. -/

namespace Sys2Proof.Machine

/-! ### Contributions (4.1) -/

/-- The source of a contribution (4.1). -/
inductive Source where
  | timebase (t : Fin 2)
  | peer
  deriving DecidableEq, Repr

/-- A contribution (4.1). Entry `i` of `phn` is order `i + 2`, of `currents` order `i + 1`. -/
structure Contribution where
  source : Source
  /-- The window reference (R56). -/
  reference : Nat
  /-- The windows it counts for (R59). -/
  windows : Nat
  n : Nat
  p1n : Int
  q1n : Int
  phn : Table Int 39
  currents : Table Nat 40
  track : Bool
  held : Bool
  clip : Bool
  absent : Bool
  clamped : Bool
  incomplete : Bool
  deriving DecidableEq, Repr

/-- A contribution carrying any of the six flags (R58). -/
def Contribution.degraded (c : Contribution) : Bool :=
  c.track || c.held || c.clip || c.absent || c.clamped || c.incomplete

/-- The entry of the tables of 40 for the order of entry `i` of the tables of 39. -/
def order40 (i : Fin 39) : Fin 40 := ⟨i.val + 1, by omega⟩

/-- The fundamental in the tables of 40. -/
def order1 : Fin 40 := 0

/-! ### Power of a completed window (4.2) -/

/-- The phasor of channel `c` at entry `i`. -/
def CompletedWindow.phasor (ev : CompletedWindow) (c : Fin 30) (i : Fin 40) : Phasor :=
  (ev.table.entries.get c).phasors.get i

/-- The active power of tap `k` over its three phases at entry `i` (R60): Vr·Ir + Vi·Ii. -/
def CompletedWindow.tapP (ev : CompletedWindow) (i : Fin 40) (k : Fin 8) : Int :=
  sumFin fun p : Fin 3 =>
    let v := ev.phasor (voltageChannel (ev.binding.get k) p) i
    let c := ev.phasor (currentChannel k p) i
    v.re * c.re + v.im * c.im

/-- The reactive power of tap `k` over its three phases at order 1 (R60): Vi·Ir − Vr·Ii. -/
def CompletedWindow.tapQ (ev : CompletedWindow) (k : Fin 8) : Int :=
  sumFin fun p : Fin 3 =>
    let v := ev.phasor (voltageChannel (ev.binding.get k) p) order1
    let c := ev.phasor (currentChannel k p) order1
    v.im * c.re - v.re * c.im

/-- A tap is absent from a window: a lane it lies on was DOWN during it (R52). -/
def CompletedWindow.tapAbsent (ev : CompletedWindow) (k : Fin 8) : Bool :=
  (tapLanes k).any fun l => ev.table.lanesDown.get l

/-- The signed sum of a quantity over taps (R61). -/
def netOver (taps : List ExportMember) (f : Fin 8 → Int) : Int :=
  (taps.map fun m => if m.plus then f m.tap else -(f m.tap)).sum

/-- The largest-phase magnitude of the signed current sum at entry `i` (R73). -/
def CompletedWindow.netCurrent (ev : CompletedWindow) (taps : List ExportMember) (i : Fin 40) : Nat :=
  maxFin fun p : Fin 3 =>
    let re := netOver taps fun k => (ev.phasor (currentChannel k p) i).re
    let im := netOver taps fun k => (ev.phasor (currentChannel k p) i).im
    min Config.max32 (sqrtHalfUp (re * re + im * im).natAbs 1)

/-- The channels that present taps use (R58): their current channels and the voltage channels of their sets. -/
def CompletedWindow.usedChannels (ev : CompletedWindow) (taps : List ExportMember) : List (Fin 30) :=
  taps.flatMap fun m => (List.finRange 3).flatMap fun p =>
    [currentChannel m.tap p, voltageChannel (ev.binding.get m.tap) p]

/-- Whether a used channel carries a channel flag; a channel with scale 0 adds none (R58). -/
def CompletedWindow.anyFlag (ev : CompletedWindow) (taps : List ExportMember) (f : ChannelEntry → Bool) : Bool :=
  (ev.usedChannels taps).any fun c => let e := ev.table.entries.get c; f e && !e.unused

/-! ### Energy products (4.3) -/

/-- The signed energy product of a net power: the magnitude clamped at 10^15, times n (R62). -/
def energyProduct (n : Nat) (net : Int) : Int := clampInt Config.powerClamp net * n

/-- Whether the power clamp acts on a net value (R62). -/
def overPower (net : Int) : Bool := Config.powerClamp < net.natAbs

/-- The tap members of account `a` in a plan whose tap the window owned (R51). -/
def CompletedWindow.tapsOf (ev : CompletedWindow) (c : PlanContent) (a : Fin 16) : List ExportMember :=
  c.members.filterMap fun m =>
    match m.point with
    | .tap k => if m.account == a && ev.ownsTap.get k then some ⟨k, m.plus⟩ else none
    | .peer _ => none

/-- The contribution of a completed window to an account with the given taps on it (R56 to R62, R73). -/
def CompletedWindow.contribution (ev : CompletedWindow) (taps : List ExportMember) : Contribution :=
  let here := taps.filter fun m => !ev.tapAbsent m.tap
  let p1 := netOver here (ev.tapP order1)
  let q1 := netOver here ev.tapQ
  let ph : Table Int 39 := Table.make fun i => netOver here (ev.tapP (order40 i))
  { source := .timebase ev.timebase
    reference := ev.table.number
    windows := 1
    n := ev.table.n
    p1n := energyProduct ev.table.n p1
    q1n := energyProduct ev.table.n q1
    phn := ph.each fun _ x => energyProduct ev.table.n x
    currents := Table.make fun i => ev.netCurrent here i
    track := ev.table.track
    held := ev.anyFlag here (·.held)
    clip := ev.anyFlag here (·.clip)
    absent := taps.any fun m => ev.tapAbsent m.tap
    clamped := overPower p1 || overPower q1 || (List.finRange 39).any fun i => overPower (ph.get i)
    incomplete := false }

/-- A peer-slot member: the slot and its sign. -/
structure PeerMember where
  slot : Fin 4
  plus : Bool
  deriving DecidableEq, Repr

/-- The peer-slot members of account `a` in a plan (R53). -/
def PlanContent.peersOf (c : PlanContent) (a : Fin 16) : List PeerMember :=
  c.members.filterMap fun m =>
    match m.point with
    | .peer j => if m.account == a then some ⟨j, m.plus⟩ else none
    | .tap _ => none

/-- The signed sum of a quantity over peer slots; a slot the summary lacks adds nothing (R63, R154). -/
def Summary.netOver (x : Summary) (peers : List PeerMember) (f : SlotSummary → Int) : Int :=
  (peers.map fun m =>
    match x.slots.get m.slot with
    | some sl => if m.plus then f sl else -(f sl)
    | none => 0).sum

/-- Whether a slot leaves partner energy missing: lacking, absent or saturated (R63, R154). -/
def Summary.slotShort (x : Summary) (j : Fin 4) : Bool :=
  match x.slots.get j with
  | some sl => sl.absent || sl.saturated
  | none => true

/-- Whether the product clamp of a PEER contribution acts (R63). -/
def overProduct (net : Int) : Bool := Config.peerClamp < net.natAbs

/-- The PEER contribution of an accepted summary to an account with the given peer members (R56, R63, R74, R154). -/
def Summary.contribution (x : Summary) (peers : List PeerMember) : Contribution :=
  let p1 := x.netOver peers (·.p1n)
  let q1 := x.netOver peers (·.q1n)
  let ph : Table Int 39 := Table.make fun i => x.netOver peers fun sl => sl.phn.get i
  { source := .peer
    reference := x.count
    windows := x.count
    n := x.n
    p1n := clampInt Config.peerClamp p1
    q1n := clampInt Config.peerClamp q1
    phn := ph.each fun _ z => clampInt Config.peerClamp z
    currents := Table.make fun i =>
      (peers.map fun m => match x.slots.get m.slot with | some sl => sl.currents.get i | none => 0).foldl max 0
    track := x.track
    held := x.held
    clip := x.clip
    absent := false
    clamped := overProduct p1 || overProduct q1 || (List.finRange 39).any fun i => overProduct (ph.get i)
    incomplete := x.countSaturated || peers.any fun m => x.slotShort m.slot }

/-! ### Classification (4.4) -/

/-- The products that reach the eight main accumulators (R64, R65): 0 where none does. -/
def Contribution.products (c : Contribution) : Mains Nat :=
  let p := c.p1n
  let q := c.q1n
  { imp := if 0 < p then p.natAbs else 0
    exp := if p < 0 then p.natAbs else 0
    q1 := if 0 < p ∧ 0 ≤ q then q.natAbs else 0
    q2 := if p ≤ 0 ∧ 0 < q then q.natAbs else 0
    q3 := if p < 0 ∧ q ≤ 0 then q.natAbs else 0
    q4 := if 0 ≤ p ∧ q < 0 then q.natAbs else 0
    habs := sumFinNat fun i : Fin 39 => (c.phn.get i).toNat
    hemi := sumFinNat fun i : Fin 39 => (-(c.phn.get i)).toNat }

/-! ### Accumulation with carry (4.5) -/

/-- The whole count a product would bring an accumulator to (R66 (2)). -/
def Acc.reached (a : Acc) (c : Nat) : Nat := a.whole + (a.residue + c) / Config.energyModulus

/-- An accumulator that receives a product (R66, R67). -/
def Acc.add (a : Acc) (c : Nat) : Acc :=
  ⟨min Config.max32 (a.reached c), (a.residue + c) % Config.energyModulus⟩

/-- Whether receiving the product holds the whole count at its maximum (R67). -/
def Acc.saturates (a : Acc) (c : Nat) : Bool := Config.max32 < a.reached c

/-- A function applied to each of the eight. -/
def Mains.map {α β : Type} (f : α → β) (m : Mains α) : Mains β :=
  ⟨f m.imp, f m.exp, f m.q1, f m.q2, f m.q3, f m.q4, f m.habs, f m.hemi⟩

/-- A function applied to each of the eight pairs. -/
def Mains.zip {α β γ : Type} (f : α → β → γ) (m : Mains α) (k : Mains β) : Mains γ :=
  ⟨f m.imp k.imp, f m.exp k.exp, f m.q1 k.q1, f m.q2 k.q2, f m.q3 k.q3, f m.q4 k.q4, f m.habs k.habs, f m.hemi k.hemi⟩

/-- The eight in record order. -/
def Mains.toList {α : Type} (m : Mains α) : List α := [m.imp, m.exp, m.q1, m.q2, m.q3, m.q4, m.habs, m.hemi]

/-- Whether a contribution saturates an accumulator of the account (R67). -/
def Account.saturatedBy (acc : Account) (c : Contribution) : Bool :=
  (Mains.zip Acc.saturates acc.mains c.products).toList.any id ||
  (List.finRange 39).any fun i =>
    (acc.absorbed.get i).saturates (c.phn.get i).toNat || (acc.emitted.get i).saturates (-(c.phn.get i)).toNat

/-! ### The limit check (5.3) -/

/-- Whether the contribution is an exceedance at entry `i` (R85). -/
def Account.exceedsAt (acc : Account) (c : Contribution) (i : Fin 39) : Bool :=
  acc.limits.get i != 0 && acc.limits.get i < c.currents.get (order40 i)

/-- Whether the contribution is within a tested limit at entry `i` (R85, R86). -/
def Account.withinAt (acc : Account) (c : Contribution) (i : Fin 39) : Bool :=
  acc.limits.get i != 0 && !acc.exceedsAt c i

/-- Whether the consecutive-exceed count of entry `i` rises from 9 to 10 (R86). -/
def Account.sustainedAt (acc : Account) (c : Contribution) (i : Fin 39) : Bool :=
  acc.exceedsAt c i && acc.consecutive.get i == 9

/-- The orders at which the contribution latches LIMIT_SUSTAINED (R86). -/
def Account.sustainedMask (acc : Account) (c : Contribution) : BitVec 39 :=
  BitVec.ofNat 39 (bitsOf ((List.finRange 39).map fun i => acc.sustainedAt c i))

/-- Whether the contribution exceeds at any order (R85). -/
def Account.exceeds (acc : Account) (c : Contribution) : Bool := (List.finRange 39).any fun i => acc.exceedsAt c i

/-! ### One contribution taken whole (R57) -/

/-- The account record after a contribution under plan `plan` (R57, R59, R64 to R70, R75, R85, R86, R90). -/
def Account.contribute (acc : Account) (c : Contribution) (plan : Fin 8) : Account :=
  { acc with
    mains := Mains.zip Acc.add acc.mains c.products
    absorbed := acc.absorbed.each fun i x => x.add (c.phn.get i).toNat
    emitted := acc.emitted.each fun i x => x.add (-(c.phn.get i)).toNat
    windows := satAdd Config.max32 acc.windows c.windows
    degraded := if c.degraded then satAdd Config.max32 acc.degraded c.windows else acc.degraded
    flags := { acc.flags with
      saturated := acc.flags.saturated || acc.saturatedBy c
      clamped := acc.flags.clamped || c.clamped
      incomplete := acc.flags.incomplete || c.absent || c.incomplete }
    plansUsed := acc.plansUsed ||| oneBit 8 plan.val
    peaks := acc.peaks.each fun i x => max x (c.currents.get i)
    periodPeaks := acc.periodPeaks.each fun i x => max x (c.currents.get i)
    exceed := acc.exceed.each fun i x => if acc.exceedsAt c i then bump x else x
    consecutive := acc.consecutive.each fun i x =>
      if acc.exceedsAt c i then satAdd 10 x 1 else if acc.withinAt c i then 0 else x }

/-- The account engine takes a contribution to account `a` (R57), with the notices of R85 and R86. -/
def State.contribute (s : State) (a : Fin 16) (c : Contribution) (plan : Fin 8) : State :=
  let acc := s.accounts.get a
  let s1 : State := { s with accounts := s.accounts.put a (acc.contribute c plan) }
  (s1.latchIf (acc.exceeds c) (.limitExceeded a)).latchIf (acc.sustainedMask c != 0)
    (.limitSustained a (acc.sustainedMask c))

/-- The account engine takes a completed window (R51, R56): one contribution to each enabled account with a tap member on
it, in ascending account order, under the active plan. -/
def State.accountWindow (s : State) (ev : CompletedWindow) : State :=
  match s.selector.active, s.selector.content with
  | some p, some content =>
    (List.finRange 16).foldl
      (fun u a =>
        let taps := ev.tapsOf content a
        if s.isEnabled a && !taps.isEmpty then u.contribute a (ev.contribution taps) p else u) s
  | _, _ => s

/-- The account engine takes an accepted summary at a primary unit (R53, R56, R154). -/
def State.accountSummary (s : State) (x : Summary) : State :=
  match s.selector.active, s.selector.content with
  | some p, some content =>
    (List.finRange 16).foldl
      (fun u a =>
        let peers := content.peersOf a
        if s.isEnabled a && !peers.isEmpty then u.contribute a (x.contribution peers) p else u) s
  | _, _ => s

/-! ### ACCOUNT_READ (4.8) -/

/-- The selected orders of a mask of 40 from order `first` on, as entries of the tables of 40. -/
def orders40 (mask : Nat) : List (Fin 40) := (List.finRange 40).filter fun i => bitOf mask i.val

/-- The selected orders from 2 to 40, as entries of the tables of 39. -/
def orders39 (mask : Nat) : List (Fin 39) := (List.finRange 39).filter fun i => bitOf mask (i.val + 1)

/-- An accumulator entry (R77). -/
def Acc.bytes (a : Acc) : List Byte := leBytes 4 a.whole ++ leBytes 8 a.residue

/-- The size of an ACCOUNT_READ reply body (R77). -/
def accountReadSize (groups orders : Nat) : Nat :=
  12 + (if bitOf groups 0 then 72 else 0) + (if bitOf groups 1 then 24 else 0) +
  (if bitOf groups 2 then 12 * (orders39 orders).length else 0) +
  (if bitOf groups 3 then 12 * (orders39 orders).length else 0) +
  (if bitOf groups 4 then 4 * (orders40 orders).length else 0) +
  (if bitOf groups 5 then 2 * (orders39 orders).length else 0) +
  (if bitOf groups 6 then 22 else 0)

/-- The ACCOUNT_READ reply body (R77); the interval flags byte has the bit order of 7.2 (log 55). -/
def State.accountBody (s : State) (a : Fin 16) (groups orders : Nat) : List Byte :=
  let acc := s.accounts.get a
  let m := acc.mains
  byte a.val ++ byte groups ++ leBytes 5 orders ++ leBytes 4 s.clock.index ++ byte s.clock.part ++
  (if bitOf groups 0 then [m.imp, m.exp, m.q1, m.q2, m.q3, m.q4].flatMap Acc.bytes else []) ++
  (if bitOf groups 1 then [m.habs, m.hemi].flatMap Acc.bytes else []) ++
  (if bitOf groups 2 then (orders39 orders).flatMap fun i => (acc.absorbed.get i).bytes else []) ++
  (if bitOf groups 3 then (orders39 orders).flatMap fun i => (acc.emitted.get i).bytes else []) ++
  (if bitOf groups 4 then (orders40 orders).flatMap fun i => leBytes 4 (acc.peaks.get i) else []) ++
  (if bitOf groups 5 then (orders39 orders).flatMap fun i => leBytes 2 (acc.exceed.get i) else []) ++
  (if bitOf groups 6 then
    boolByte (s.isEnabled a) ++ s.settings.name.get a ++ leBytes 4 acc.windows ++ leBytes 4 acc.degraded ++
    leBytes 2 acc.abandoned ++ byte acc.flags.bits ++ [acc.plansUsed] ++ byte acc.span
   else [])

/-- Whether a per-order group (3, 4, 5 or 6) is selected (R76). -/
def perOrder (groups : Nat) : Bool := bitOf groups 2 || bitOf groups 3 || bitOf groups 4 || bitOf groups 5

/-- ACCOUNT_READ (R76 to R78); the empty-mask test reads all 8 bits of the quantity mask, so that bit 7 alone is FIELD and
not RANGE (log 62). -/
def State.accountRead (s : State) (body : List Byte) : Answer :=
  let groups := field body 1 1
  let orders := field body 2 5
  if h : field body 0 1 < 16 then
    if groups = 0 then s.refuse .range
    else if 128 ≤ groups then s.refuse .field
    else if perOrder groups && orders == 0 then s.refuse .range
    else if 1024 < accountReadSize groups orders then s.refuse .tooLarge
    else ⟨.done, s.accountBody ⟨field body 0 1, h⟩ groups orders, s⟩
  else s.refuse .range

/-! ### Limits (5.2) -/

/-- The limit that a LIMIT_LOAD body gives entry `i` of the table (order `i + 2`), if it loads that order (R82). -/
def loadedLimit (body : List Byte) (i : Fin 39) : Option Nat :=
  let first := field body 1 1
  let count := field body 2 1
  if first ≤ i.val + 2 ∧ i.val + 2 < first + count then some (field body (8 + 4 * (i.val + 2 - first)) 4) else none

/-- The account record after a LIMIT_LOAD (R83): limits written, loaded orders' consecutive counts 0. -/
def Account.loadLimits (acc : Account) (body : List Byte) : Account :=
  { acc with
    limits := acc.limits.each fun i x => (loadedLimit body i).getD x
    consecutive := acc.consecutive.each fun i x => if (loadedLimit body i).isSome then 0 else x }

/-- LIMIT_LOAD (R82, R83). -/
def State.limitLoad (s : State) (body : List Byte) : Answer :=
  let first := field body 1 1
  let count := field body 2 1
  let persist := (byteAt body 3).getLsbD 0
  if h : field body 0 1 < 16 then
    let a : Fin 16 := ⟨field body 0 1, h⟩
    if first < 2 || 40 < first then s.refuse .range
    else if count = 0 || 39 < count then s.refuse .range
    else if 40 < first + count - 1 then s.refuse .range
    else if body.length ≠ 8 + 4 * count then s.refuse .length
    else if persist && s.storeBusy then s.refuse .busy
    else
      let acc := (s.accounts.get a).loadLimits body
      let s1 : State := { s with accounts := s.accounts.put a acc }
      (if persist then s1.writeImage fun i => { i with limits := i.limits.put a acc.limits } else s1).doneNow
  else s.refuse .range

/-- LIMIT_GET (R84). -/
def State.limitGet (s : State) (body : List Byte) : Answer :=
  if h : field body 0 1 < 16 then
    let acc := s.accounts.get ⟨field body 0 1, h⟩
    ⟨.done, byte (field body 0 1) ++
      (List.finRange 39).flatMap (fun i => leBytes 4 (acc.limits.get i) ++ byte (acc.consecutive.get i)), s⟩
  else s.refuse .range

/-! ### PEAK_SWAP (5.6) -/

/-- The number of the most recent completed window of the governing timebase; 0 for none (R91). -/
def State.governingWindow (s : State) : Nat :=
  match (s.timebases.get s.arrangement.governing).table with
  | some p => p.number
  | none => 0

/-- The stamp of a period that begins now in account `a` (R91): the clock's index with the account's part as it stands
(log 56). -/
def State.stampNow (s : State) (a : Fin 16) : Stamp :=
  ⟨s.clock.index, (s.accounts.get a).part, s.governingWindow⟩

/-- The 9 bytes of a stamp (R92). -/
def Stamp.bytes (x : Stamp) : List Byte := leBytes 4 x.index ++ byte x.part ++ leBytes 4 x.window

/-- PEAK_SWAP (R92, R93). -/
def State.peakSwap (s : State) (body : List Byte) : Answer :=
  if h : field body 0 1 < 16 then
    let a : Fin 16 := ⟨field body 0 1, h⟩
    let acc := s.accounts.get a
    let orders := field body 1 5
    ⟨.done,
      byte a.val ++ leBytes 5 orders ++ acc.stamp.bytes ++ (s.stampNow a).bytes ++
        (orders40 orders).flatMap (fun i => leBytes 4 (acc.periodPeaks.get i)),
      { s with accounts := s.accounts.put a { acc with periodPeaks := Table.all 0, stamp := s.stampNow a } }⟩
  else s.refuse .range

end Sys2Proof.Machine
end

