-- ==== Sys2Proof/Machine/Operands.lean ====
section
/-! DEFINITION. The byte formats seen from outside: records and their slots (7.2), tie-link pages (8.1), message frames
(9.1), and the codes of states and statuses (9.4, 9.7). -/

namespace Sys2Proof.Machine

/-! ### Records (7.2) -/

/-- The code of a partial reason; 0 for none (7.2); one that no table lists is as the page carried it (log 35). -/
def reasonCode : Option CloseReason → Nat
  | none => 0
  | some .powerFail => 1
  | some .restart => 2
  | some .align => 3
  | some .sync => 4
  | some .disable => 5
  | some (.other x) => x.toNat

/-- The code of a close cause (7.2). -/
def CloseCause.code : CloseCause → Nat
  | .localPartial => 0
  | .clockMade => 1
  | .syncMade => 2
  | .closeNow => 3
  | .closePage => 4

/-- A plan number or 0xFF for none (7.2, 9.7). -/
def planByte : Option (Fin 8) → List Byte
  | none => [0xFF]
  | some p => byte p.val

/-- The length of an interval record with `k` orders (R114). -/
def intervalLength (k : Nat) : Nat := 128 + 14 * k

/-- The 14 bytes of an order list entry (7.2). -/
def OrderEntry.bytes (e : OrderEntry) : List Byte :=
  leBytes 4 e.absorbed ++ leBytes 4 e.emitted ++ leBytes 4 e.peak ++ leBytes 2 e.exceed

/-- The eight of a group in record order. -/
def Mains.fields {α : Type} (m : Mains α) (f : α → List Byte) : List Byte :=
  f m.imp ++ f m.exp ++ f m.q1 ++ f m.q2 ++ f m.q3 ++ f m.q4 ++ f m.habs ++ f m.hemi

/-- An interval record's bytes before its check (7.2). -/
def IntervalRecord.head (r : IntervalRecord) : List Byte :=
  [0x3C, 0xA5] ++ leBytes 2 (intervalLength r.orders.length) ++
  [if r.reason.isSome then 0x12 else 0x11] ++ byte (reasonCode r.reason) ++ byte r.cause.code ++ byte r.account.val ++
  leBytes 4 r.index ++ byte r.part ++ byte r.span ++ byte r.flags.bits ++ byte r.length ++ r.name ++
  leBytes 4 r.windows ++ leBytes 4 r.degraded ++ leBytes 2 r.abandoned ++ [r.plansUsed] ++ planByte r.planAtClose ++
  leBytes 4 r.peak1 ++ r.wholes.fields (leBytes 4) ++ r.carries.fields (leBytes 6) ++
  leBytes 5 r.mask.toNat ++ byte r.orders.length ++ r.orders.flatMap OrderEntry.bytes

/-- A topology record's bytes before its check (7.2). -/
def TopologyRecord.head (r : TopologyRecord) : List Byte :=
  [0x3C, 0xA5] ++ leBytes 2 20 ++ [0x21] ++ planByte r.oldPlan ++ byte r.newPlan.val ++ [r.word] ++
  leBytes 4 r.index ++ byte r.part ++ leBytes 4 r.window ++ boolByte r.abandoned

/-- A record as it is written (7.2). -/
def Record.bytes : Record → List Byte
  | .interval r => withCrc r.head
  | .topology r => withCrc r.head

/-! ### Slots of a record area (R114) -/

/-- What an erased byte reads as (7.1). -/
def erasedByte : Byte := 0xFF

/-- A list without the erased bytes at its end. -/
def trimErased : List Byte → List Byte
  | [] => []
  | b :: bs =>
    match trimErased bs with
    | [] => if b = erasedByte then [] else [b]
    | r => b :: r

/-- The first `k` bytes of an area, erased beyond its end. -/
def areaTake (k : Nat) (area : List Byte) : List Byte := area.take k ++ List.replicate (k - area.length) erasedByte

/-- Bytes programmed at an offset of the record area behind which nothing is programmed, within the area. -/
def programArea (area : List Byte) (at_ : Nat) (bytes : List Byte) : List Byte :=
  trimErased ((areaTake at_ area ++ bytes).take Config.areaBytes)

/-- The lengths an INTERVAL or PARTIAL record allows (R114). -/
def isIntervalLength (n : Nat) : Bool := 128 ≤ n && n ≤ 674 && (n - 128) % 14 == 0

/-- What stands at an offset of a record area (R114, R132, R136). -/
inductive Slot where
  /-- A valid record. -/
  | record (bytes : List Byte)
  /-- A valid DEAD slot. -/
  | dead (length : Nat)
  /-- No slot to go on from; `torn` when unerased bytes remain. -/
  | stop (torn : Bool)
  deriving DecidableEq, Repr

/-- The slot at the beginning of `rest`, the area from an offset on with its erased end left out, `room` bytes being left
in the area (R114). -/
def slotAt (rest : List Byte) (room : Nat) : Slot :=
  let whole := areaTake 5 rest
  let len := field whole 2 2
  let kind := byteAt whole 4
  let slot := areaTake len rest
  if rest.isEmpty then .stop false
  else if whole.take 2 != [0x3C, 0xA5] || room < len then .stop true
  else if kind == 0x00 then (if isIntervalLength len || len == 20 then .dead len else .stop true)
  else if kind == 0x11 || kind == 0x12 then (if isIntervalLength len && crcOk slot then .record slot else .stop true)
  else if kind == 0x21 then (if len == 20 && crcOk slot then .record slot else .stop true)
  else .stop true

/-- A walk of a record area: the valid records with their offsets, the offset at which it ends, and whether a torn slot
ended it (R132, R136). -/
structure Walk where
  records : List (Nat × List Byte)
  endAt : Nat
  torn : Bool
  deriving DecidableEq, Repr

/-- The walk from an offset, by at most the given number of slots. -/
def walkFrom : Nat → Nat → List Byte → Walk
  | 0, off, _ => ⟨[], off, false⟩
  | k + 1, off, rest =>
    match slotAt rest (32768 - off) with
    | .record bs =>
      let w := walkFrom k (off + bs.length) (rest.drop bs.length)
      { w with records := (off, bs) :: w.records }
    | .dead n => walkFrom k (off + n) (rest.drop n)
    | .stop torn => ⟨[], off, torn⟩

/-- The walk of a segment from offset `off` (16 or later). Every slot has 20 bytes or more, so the count suffices. -/
def Segment.walkAt (g : Segment) (off : Nat) : Walk := walkFrom (g.area.length + 1) off (g.area.drop (off - 16))

/-- The walk of a whole segment. -/
def Segment.walk (g : Segment) : Walk := g.walkAt 16

/-- The kind byte of a record. -/
def recKind (bs : List Byte) : Byte := byteAt bs 4

/-- The interval index of a record (7.2: offset 8 in both layouts). -/
def recIndex (bs : List Byte) : Nat := field bs 8 4

/-- Whether a record is an INTERVAL or PARTIAL record. -/
def recIsInterval (bs : List Byte) : Bool := recKind bs != 0x21

/-- The account of an interval record. -/
def recAccount (bs : List Byte) : Nat := field bs 7 1

/-- The part of an interval record. -/
def recPart (bs : List Byte) : Nat := field bs 12 1

/-- The `i`-th carry of an interval record. -/
def recCarry (bs : List Byte) (i : Nat) : Nat := field bs (72 + 6 * i) 6

/-! ### Tie-link pages (8.1) -/

/-- The code of a preference (8.1). -/
def Preference.code : Preference → Nat
  | .primary => 1
  | .secondary => 2
  | .either => 3

/-- The preference of a code. -/
def readPreference (n : Nat) : Option Preference :=
  if n = 1 then some .primary else if n = 2 then some .secondary else if n = 3 then some .either else none

/-- The code of a role (8.1). -/
def Role.code : Role → Nat
  | .primary => 1
  | .secondary => 2

/-- The role of a code. -/
def readRole (n : Nat) : Option Role := if n = 1 then some .primary else if n = 2 then some .secondary else none

/-- The type byte of a page (8.1). -/
def PageBody.code : PageBody → Nat
  | .idle => 0x00
  | .role _ => 0x01
  | .confirm _ => 0x02
  | .summary _ => 0x10
  | .close _ | .closeOther => 0x20

/-- The slot mask of a summary. -/
def Summary.mask (x : Summary) : Nat := bitsOf ((List.finRange 4).map fun j => (x.slots.get j).isSome)

/-- The 489 bytes of a slot of a summary (8.1). -/
def SlotSummary.bytes (x : SlotSummary) : List Byte :=
  byte (bitsOf [x.absent, x.saturated]) ++ leInt 8 x.p1n ++ leInt 8 x.q1n ++
  (List.finRange 39).flatMap (fun i => leInt 8 (x.phn.get i)) ++
  (List.finRange 40).flatMap (fun i => leBytes 4 (x.currents.get i))

/-- The body of a page (8.1). -/
def PageBody.bytes : PageBody → List Byte
  | .idle => []
  | .role b => byte b.preference.code ++ leBytes 2 b.seed ++ byte b.attempt
  | .confirm b => byte b.attempt ++ byte b.role.code ++ leBytes 2 b.ownSeed ++ leBytes 2 b.partnerSeed
  | .summary x =>
    leBytes 4 x.first ++ leBytes 4 x.count ++ leBytes 4 x.n ++
    byte (bitsOf [x.track, x.held, x.clip, x.coalesced, x.countSaturated]) ++ byte x.mask ++
    (List.finRange 4).flatMap fun j => match x.slots.get j with | some sl => sl.bytes | none => []
  | .close b => leBytes 4 b.index ++ byte b.part ++ byte (if b.reason.isSome then 2 else 1) ++ byte (reasonCode b.reason)
  | .closeOther => leBytes 7 0

/-- A page as it is sent (8.1): ack bit 0 and ack valid clear for no ack. -/
def Page.bytes (p : Page) : List Byte :=
  let body := p.body.bytes
  let seq := bitsOf [p.toggle, p.ack.getD false, p.ack.isSome]
  withCrc (byte 0x96 ++ byte p.body.code ++ byte seq ++ leBytes 2 body.length ++ body)

/-- The slot of a summary read from its 489 bytes; none where a bit marked zero is set. -/
def readSlot (bs : List Byte) : Option SlotSummary :=
  let flags := field bs 0 1
  if 4 ≤ flags then none
  else some
    { absent := bitOf flags 0, saturated := bitOf flags 1
      p1n := ofLeInt (slice bs 1 8), q1n := ofLeInt (slice bs 9 8)
      phn := Table.make fun i => ofLeInt (slice bs (17 + 8 * i.val) 8)
      currents := Table.make fun i => field bs (329 + 4 * i.val) 4 }

/-- The place of slot `j` among the present slots of a mask. -/
def slotPlace (mask j : Nat) : Nat := ((List.range j).filter fun i => bitOf mask i).length

/-- The number of slots present in a mask. -/
def slotCount (mask : Nat) : Nat := slotPlace mask 4

/-- A SUMMARY read from its body; none where its length does not agree with the slot mask or a bit marked zero is set. -/
def readSummary (bs : List Byte) : Option PageBody :=
  let flags := field bs 12 1
  let mask := field bs 13 1
  let slot (j : Fin 4) : Option SlotSummary := readSlot (slice bs (14 + 489 * slotPlace mask j.val) 489)
  if 32 ≤ flags || 16 ≤ mask || bs.length != 14 + 489 * slotCount mask then none
  else if (List.finRange 4).any fun j => bitOf mask j.val && (slot j).isNone then none
  else some (.summary
    { first := field bs 0 4, count := field bs 4 4, n := field bs 8 4
      track := bitOf flags 0, held := bitOf flags 1, clip := bitOf flags 2
      coalesced := bitOf flags 3, countSaturated := bitOf flags 4
      slots := Table.make fun j => if bitOf mask j.val then slot j else none })

/-- A ROLE read from its body. -/
def readRolePage (bs : List Byte) : Option PageBody :=
  let attempt := field bs 3 1
  match readPreference (field bs 0 1) with
  | none => none
  | some p =>
    if bs.length != 4 || field bs 1 2 == 0 || attempt == 0 || 3 < attempt then none
    else some (.role ⟨p, field bs 1 2, attempt⟩)

/-- A ROLE_CONFIRM read from its body. -/
def readConfirmPage (bs : List Byte) : Option PageBody :=
  let attempt := field bs 0 1
  match readRole (field bs 1 1) with
  | none => none
  | some r =>
    if bs.length != 6 || attempt == 0 || 3 < attempt then none
    else some (.confirm ⟨attempt, r, field bs 2 2, field bs 4 2⟩)

/-- The partial reason of a code (7.2, 8.1). -/
def readReason : Nat → CloseReason
  | 1 => .powerFail
  | 2 => .restart
  | 3 => .align
  | 4 => .sync
  | 5 => .disable
  | n => .other (BitVec.ofNat 8 n)

/-- The close that a CLOSE page's kind and reason call for (R156): none within for a normal close, whatever the reason byte,
else the partial reason; none at all for a kind that 8.1 does not list (log 35). -/
def readCloseKind (kind reason : Nat) : Option (Option CloseReason) :=
  if kind = 1 then some none else if kind = 2 then some (some (readReason reason)) else none

/-- A CLOSE read from its body. -/
def readClosePage (bs : List Byte) : Option PageBody :=
  if bs.length != 7 then none
  else
    match readCloseKind (field bs 5 1) (field bs 6 1) with
    | some r => some (.close ⟨field bs 0 4, field bs 4 1, r⟩)
    | none => some .closeOther

/-- The body of a page by its type byte (R139 (2), (3), (4), (6)). -/
def readPageBody (code : Nat) (body : List Byte) : Option PageBody :=
  if code = 0x00 then (if body.isEmpty then some .idle else none)
  else if code = 0x01 then readRolePage body
  else if code = 0x02 then readConfirmPage body
  else if code = 0x10 then readSummary body
  else if code = 0x20 then readClosePage body
  else none

/-- A page from its bytes; none where it fails a check of R139. -/
def readPage (bs : List Byte) : Option Page :=
  let seq := field bs 2 1
  if byteAt bs 0 != 0x96 || 8 ≤ seq || bs.length != 7 + field bs 3 2 || !crcOk bs then none
  else
    match readPageBody (field bs 1 1) (slice bs 5 (field bs 3 2)) with
    | none => none
    | some b => some ⟨b, bitOf seq 0, if bitOf seq 2 then some (bitOf seq 1) else none⟩

/-- The hunt for a page: every byte until a 0x96 is passed over (R139). -/
def huntPage (bs : List Byte) : List Byte := bs.dropWhile (· != 0x96)

/-- The bytes received are a page's, its last byte the last (R139). -/
def pageWhole (p : List Byte) : Bool := 7 ≤ p.length && field p 3 2 ≤ 1970 && p.length == 7 + field p 3 2

/-- The bytes received end with a body length above 1 970 (R139). -/
def pageOver (p : List Byte) : Bool := p.length == 5 && 1970 < field p 3 2

/-- A page has begun, and more bytes of it are awaited (R139). -/
def pagePart (p : List Byte) : Bool :=
  0 < p.length && (p.length < 5 || (field p 3 2 ≤ 1970 && p.length < 7 + field p 3 2))

/-! ### Message frames (9.1, R159) -/

/-- The hunt for a frame: the bytes from the first 0xA5 that is followed by 0x5A (R159). -/
def huntFrame : List Byte → List Byte
  | [] => []
  | b :: bs => if b == 0xA5 && bs.head? == some 0x5A then b :: bs else huntFrame bs

/-- The bytes received are a frame's, its last check byte the last (R159). -/
def frameWhole (f : List Byte) : Bool := 8 ≤ f.length && field f 2 2 ≤ 1024 && f.length == 8 + field f 2 2

/-- The bytes received end with a body length above 1 024 (R160 (1)). -/
def frameOver (f : List Byte) : Bool := f.length == 4 && 1024 < field f 2 2

/-- A frame has begun, and more bytes of it are awaited (R160 (2)). -/
def framePart (f : List Byte) : Bool :=
  2 ≤ f.length && (f.length < 4 || (field f 2 2 ≤ 1024 && f.length < 8 + field f 2 2))

/-- The code of a reply status (9.4). -/
def Status.code : Status → Nat
  | .done => 0
  | .busy => 1
  | .refusedState => 2
  | .sequence => 3
  | .range => 4
  | .field => 5
  | .unknownKind => 6
  | .tooLarge => 7
  | .pinned => 8
  | .stopped => 9
  | .conflict => 10
  | .cursorLost => 11
  | .inUse => 12
  | .length => 13
  | .held => 14

/-- A reply frame as it goes out (9.1). -/
def Reply.frame (r : Reply) : List Byte :=
  withCrc ([0xA5, 0x5A] ++ leBytes 2 r.body.length ++ [r.kind, r.tag] ++ byte r.status.code ++ r.body)

/-! ### Codes of the STATE reply (9.7) -/

/-- The code of an operating state. -/
def OpState.code : OpState → Nat
  | .starting => 0
  | .running => 1
  | .closing => 2
  | .dormant => 3

/-- The code of a tracker state. -/
def TrackerState.code : TrackerState → Nat
  | .acquiring => 0
  | .locked => 1
  | .holdover => 2
  | .freeRun => 3
  | .following => 4

/-- The code of a tie link state. -/
def TieState.code : TieState → Nat
  | .off => 0
  | .down => 1
  | .resolving => 2
  | .pairedPrimary => 3
  | .pairedSecondary => 4
  | .solo => 5
  | .roleFault => 6

/-- The code of an archive state. -/
def ArchiveState.code : ArchiveState → Nat
  | .scanning => 0
  | .idle => 1
  | .writing => 2
  | .reclaiming => 3
  | .suspended => 4
  | .clearing => 5
  | .stopped => 6

/-- The code of an archive error. -/
def ArchiveError.code : ArchiveError → Nat
  | .none => 0
  | .writeFail => 1
  | .eraseFail => 2

end Sys2Proof.Machine
end

