-- ==== Sys2Proof/Machine/TieLink.lean ====
section
/-! DEFINITION. The tie link's sending side (08): pages due and in flight, the holding slot and the close list, the link
states, the attempts of role resolution, and the export summaries. -/

namespace Sys2Proof.Machine

/-- The tie link of the state changed. -/
def State.onTie (s : State) (f : Tie → Tie) : State := { s with tie := f s.tie }

/-! ### Sending (R140) -/

/-- The bytes of a page sent now: every page carries the last accepted partner toggle in its ack field (R140). -/
def Tie.render (t : Tie) (b : PageBody) (toggle : Bool) : List Byte := Page.bytes ⟨b, toggle, t.partnerToggle⟩

/-- The page in flight that is due is sent, with send count 1 (R140). -/
def Tie.transmit (t : Tie) : Tie :=
  match t.inFlight with
  | some b => if t.sendCount = 0 then { t with sendCount := 1, lastSent := some (t.render b t.sendToggle) } else t
  | none => t

/-- The page due is sent. -/
def State.transmit (s : State) : State := s.onTie Tie.transmit

/-- An IDLE page is sent, its toggle bit 0 (R140). -/
def Tie.sendIdle (t : Tie) : Tie := { t with lastSent := some (t.render .idle false) }

/-- The page in flight is sent once more (R140). -/
def Tie.resend (t : Tie) : Tie :=
  match t.inFlight with
  | some b => { t with sendCount := t.sendCount + 1, lastSent := some (t.render b t.sendToggle) }
  | none => t

/-- A ROLE or ROLE_CONFIRM page made due: in flight at once where none is, else behind it (R146, R153). -/
def Tie.roleDue (t : Tie) (b : PageBody) : Tie :=
  match t.inFlight with
  | none => { t with inFlight := some b, sendCount := 0 }
  | some _ => { t with roleList := t.roleList ++ [b] }

/-- A CLOSE page made due (R153, R155): in flight at once where nothing is in flight and the close list is empty; else
it joins the list, or replaces the newest of four. -/
def Tie.closeDue (t : Tie) (b : CloseBody) : Tie :=
  if t.inFlight.isNone && t.closeList.isEmpty then { t with inFlight := some (.close b), sendCount := 0 }
  else if t.closeList.length < 4 then { t with closeList := t.closeList ++ [b] }
  else { t with closeList := t.closeList.take 3 ++ [b], merged := bump t.merged }

/-- The next page becomes in flight where none is: a ROLE or ROLE_CONFIRM due, the oldest CLOSE page, the summary in the
holding slot (R146, R153). -/
def Tie.nextPage (t : Tie) : Tie :=
  match t.roleList with
  | b :: bs => { t with inFlight := some b, sendCount := 0, roleList := bs }
  | [] =>
    match t.closeList with
    | c :: cs => { t with inFlight := some (.close c), sendCount := 0, closeList := cs }
    | [] =>
      match t.holding with
      | some x => { t with inFlight := some (.summary x), sendCount := 0, holding := none }
      | none => t

/-! ### Link states (R143, R145) -/

/-- The windows of a page in flight that is a SUMMARY (R143 (2)). -/
def flightWindows : Option PageBody → Nat
  | some (.summary x) => x.count
  | _ => 0

/-- The windows of the holding slot. -/
def holdingWindows : Option Summary → Nat
  | some x => x.count
  | none => 0

/-- The discards and the values of an entry into DOWN or OFF (R143 (1) to (3), R145); a link that was PAIRED_PRIMARY has
left it (R185 (3)). -/
def Tie.abandon (t : Tie) (x : TieState) : Tie :=
  { t with
    state := x
    lost := satAdd Config.max16 (satAdd Config.max16 t.lost (flightWindows t.inFlight)) (holdingWindows t.holding)
    inFlight := none, sendCount := 0, holding := none, closeList := [], roleList := []
    sendToggle := false, partnerToggle := none, sawAck := false, attempt := 0
    ownRole := none, ownRoleAcked := false, partnerRole := none, resolved := none
    confirmAcked := false, partnerConfirm := none, restartOpen := false }

/-- The tests made at a change of the tie link state: R54 and the latched-low condition LINK_OK (R174). -/
def State.tieChanged (s : State) : State := s.testPeers.recordLows

/-- The link enters DOWN (R143). -/
def State.enterDown (s : State) : State := (s.onTie (·.abandon .down)).tieChanged

/-- The link enters OFF (R145). -/
def State.enterOff (s : State) : State := (s.onTie (·.abandon .off)).tieChanged

/-- The link takes state `x` and keeps the rest. -/
def State.enterTie (s : State) (x : TieState) : State := (s.onTie fun t => { t with state := x }).tieChanged

/-! ### Attempts (R144, R146) -/

/-- The next random seed, 1 to 65 535 (R146): a FREE VALUE (log 9). -/
def State.nextSeed (s : State) : Nat := (Config.seedDraw s.draws).val + 1

/-- Attempt `n` begins with the seed drawn: the unit's ROLE of it is due (R146). -/
def Tie.beginAttempt (t : Tie) (n seed : Nat) (p : Preference) : Tie :=
  Tie.roleDue
    { t with
      attempt := n, ownSeed := seed, partnerSeed := 0
      ownRole := some ⟨p, seed, n⟩, ownRoleAcked := false, partnerRole := none, resolved := none
      confirmAcked := false, partnerConfirm := none }
    (.role ⟨p, seed, n⟩)

/-- Attempt `n` begins: a seed is drawn (R146). -/
def State.beginAttempt (s : State) (n : Nat) : State :=
  { s with tie := s.tie.beginAttempt n s.nextSeed s.settings.preference, draws := s.draws + 1 }

/-- The link enters SOLO: no ROLE is due any more (R147, R149). -/
def State.enterSolo (s : State) : State := (s.onTie fun t => { t with roleList := [] }).enterTie .solo

/-- An attempt fails: the next one begins, or SOLO after the third (R146, R147). -/
def State.failAttempt (s : State) : State :=
  if s.tie.attempt < 3 then s.beginAttempt (s.tie.attempt + 1) else s.enterSolo

/-- The link enters RESOLVING and attempt 1 begins (R144, R149). -/
def State.beginResolving (s : State) : State := (s.enterTie .resolving).beginAttempt 1

/-! ### Timers of the sending side -/

/-- Whether the resend timer of the page in flight is due: a page in flight that has been sent (R140). -/
def Tie.resendDue (t : Tie) : Bool := t.inFlight.isSome && t.sendCount != 0

/-- TIE_RESEND_TIMER (R140, R143 (1)). -/
def State.resendTimer (s : State) : State :=
  if !s.tie.resendDue then s
  else if s.tie.sendCount < 5 then (s.onTie Tie.resend).countResent
  else s.enterDown

/-- Whether the link sends at all: not in OFF, and not before RUNNING (R140, R158). -/
def State.tieSends (s : State) : Bool := s.tie.state != .off && s.op != .starting

/-- IDLE_PAGE_SEND (R140). -/
def State.idlePage (s : State) : State := if s.tieSends then s.onTie Tie.sendIdle else s

/-- SILENCE_TIMEOUT (R143 (2)): the silence timer does not run in OFF and DOWN (R144). -/
def State.silence (s : State) : State :=
  if s.tieSends && s.tie.state != .down then s.enterDown else s

/-- ROLE_ATTEMPT_TIMEOUT (R146). -/
def State.attemptTimeout (s : State) : State :=
  if s.tie.state == .resolving then s.failAttempt.transmit else s

/-- The meaning of TIE_RESEND_TIMER. -/
def execTieResendTimer (s : State) : Host.Outcome State Fault Refusal := .next (s.whenAlive State.resendTimer)

/-- The meaning of IDLE_PAGE_SEND. -/
def execIdlePageSend (s : State) : Host.Outcome State Fault Refusal := .next (s.whenAlive State.idlePage)

/-- The meaning of SILENCE_TIMEOUT. -/
def execSilenceTimeout (s : State) : Host.Outcome State Fault Refusal := .next (s.whenAlive State.silence)

/-- The meaning of ROLE_ATTEMPT_TIMEOUT. -/
def execRoleAttemptTimeout (s : State) : Host.Outcome State Fault Refusal :=
  .next (s.whenAlive State.attemptTimeout)

/-! ### Export summaries (8.5, 8.6) -/

/-- The bound of a signed 64-bit product, 2^63 − 1 (R151, R152). -/
def int64Max : Nat := 9223372036854775807

/-- Whether a product lies beyond ±(2^63 − 1). -/
def over64 (z : Int) : Bool := int64Max < z.natAbs

/-- The slot of a summary formed from a completed window (R151). -/
def CompletedWindow.slotSummary (ev : CompletedWindow) (taps : List ExportMember) : SlotSummary :=
  let here := taps.filter fun m => ev.ownsTap.get m.tap && !ev.tapAbsent m.tap
  let p1 := netOver here (ev.tapP order1) * ev.table.n
  let q1 := netOver here ev.tapQ * ev.table.n
  let ph : Table Int 39 := Table.make fun i => netOver here (ev.tapP (order40 i)) * ev.table.n
  { absent := taps.any fun m => !(ev.ownsTap.get m.tap && !ev.tapAbsent m.tap)
    saturated := over64 p1 || over64 q1 || (List.finRange 39).any fun i => over64 (ph.get i)
    p1n := clampInt int64Max p1
    q1n := clampInt int64Max q1
    phn := ph.each fun _ z => clampInt int64Max z
    currents := Table.make fun i => ev.netCurrent here i }

/-- Whether a channel used by a present member of a defined slot carries a channel flag (R151). -/
def CompletedWindow.slotFlag (ev : CompletedWindow) (slots : Table (List ExportMember) 4) (f : ChannelEntry → Bool) :
    Bool :=
  (List.finRange 4).any fun j =>
    (ev.usedChannels ((slots.get j).filter fun m => ev.ownsTap.get m.tap && !ev.tapAbsent m.tap)).any fun c =>
      f (ev.table.entries.get c)

/-- The summary formed from a completed window (R151). -/
def CompletedWindow.summary (ev : CompletedWindow) (slots : Table (List ExportMember) 4) : Summary :=
  { first := ev.table.number
    count := 1
    n := ev.table.n
    track := ev.table.track
    held := ev.slotFlag slots (·.held)
    clip := ev.slotFlag slots (·.clip)
    coalesced := false
    countSaturated := false
    slots := slots.each fun _ ms => if ms.isEmpty then none else some (ev.slotSummary ms) }

/-- Two products coalesced (R152 (4)). -/
def sum64 (a b : Int) : Int := clampInt int64Max (a + b)

/-- Two slots coalesced (R152 (4) to (6)). -/
def SlotSummary.merge (a b : SlotSummary) : SlotSummary :=
  { absent := a.absent || b.absent
    saturated := a.saturated || b.saturated || over64 (a.p1n + b.p1n) || over64 (a.q1n + b.q1n) ||
      (List.finRange 39).any fun i => over64 (a.phn.get i + b.phn.get i)
    p1n := sum64 a.p1n b.p1n
    q1n := sum64 a.q1n b.q1n
    phn := a.phn.each fun i z => sum64 z (b.phn.get i)
    currents := a.currents.each fun i x => max x (b.currents.get i) }

/-- A slot of two summaries coalesced; present in one alone, it is marked absent (R152 (3), (4)). -/
def mergeSlot : Option SlotSummary → Option SlotSummary → Option SlotSummary
  | none, none => none
  | some a, none => some { a with absent := true }
  | none, some b => some { b with absent := true }
  | some a, some b => some (a.merge b)

/-- A new summary coalesced into the one held (R152). -/
def Summary.merge (a b : Summary) : Summary :=
  { first := a.first
    count := satAdd Config.max32 a.count b.count
    n := satAdd Config.max32 a.n b.n
    track := a.track || b.track
    held := a.held || b.held
    clip := a.clip || b.clip
    coalesced := true
    countSaturated := a.countSaturated || b.countSaturated || Config.max32 < a.count + b.count || Config.max32 < a.n + b.n
    slots := a.slots.each fun j x => mergeSlot x (b.slots.get j) }

/-- A summary made due (R152): in flight at once, or held, or coalesced. -/
def Tie.summaryDue (t : Tie) (x : Summary) : Tie :=
  if t.inFlight.isNone && t.closeList.isEmpty then { t with inFlight := some (.summary x), sendCount := 0 }
  else
    match t.holding with
    | none => { t with holding := some x }
    | some a => { t with holding := some (a.merge x) }

/-- Whether the link is in a paired state. -/
def TieState.paired : TieState → Bool
  | .pairedPrimary | .pairedSecondary => true
  | _ => false

/-- Whether a completed window is summarised (R150). -/
def State.exports (s : State) (ev : CompletedWindow) : Bool :=
  s.tie.state.paired && ev.ownsSet.get s.settings.exportSet &&
    (List.finRange 4).any fun j => !(s.settings.exportSlots.get j).isEmpty

/-- The tie link takes a completed window (R150 to R152). -/
def State.exportWindow (s : State) (ev : CompletedWindow) : State :=
  if s.exports ev then
    (s.onTie fun t =>
      { t.summaryDue (ev.summary s.settings.exportSlots) with exportBase := some ev.timebase }).transmit
  else s

end Sys2Proof.Machine
end

