-- ==== Sys2Proof/Machine/Intervals.lean ====
section
/-! DEFINITION. Intervals and the close queue (06): record formation, normal and partial closes, the sync input, ALIGN,
CLOSE_NOW, disable and enable of an account, and the close of a paired secondary (R156). -/

namespace Sys2Proof.Machine

/-! ### Forming a record (R103, R104) -/

/-- The orders of a mask, ascending. -/
def maskOrders (mask : BitVec 39) : List (Fin 39) := (List.finRange 39).filter fun i => mask.getLsbD i.val

/-- An order list entry of an account (R103). -/
def Account.orderEntry (acc : Account) (i : Fin 39) : OrderEntry :=
  ⟨(acc.absorbed.get i).whole, (acc.emitted.get i).whole, acc.peaks.get (order40 i), acc.exceed.get i⟩

/-- The record that a close forms for account `a` (R103, R115). -/
def State.formRecord (s : State) (a : Fin 16) (cause : CloseCause) (reason : Option CloseReason) : IntervalRecord :=
  let acc := s.accounts.get a
  { reason := reason
    cause := cause
    account := a
    index := acc.recordIndex
    part := acc.part
    span := acc.span
    flags := acc.flags
    length := s.clock.length
    name := s.settings.name.get a
    windows := acc.windows
    degraded := acc.degraded
    abandoned := acc.abandoned
    plansUsed := acc.plansUsed
    planAtClose := s.selector.active
    peak1 := acc.peaks.get order1
    wholes := acc.mains.map (·.whole)
    carries := acc.mains.map (·.residue)
    mask := acc.maskInForce
    orders := (maskOrders acc.maskInForce).map acc.orderEntry }

/-- An accumulator after a close: whole count 0, residue kept (R68, R104 (1)). -/
def Acc.afterClose (a : Acc) : Acc := { a with whole := 0 }

/-- The interval flags an interval begins with (R104 (6)). -/
def IntervalFlags.atStart (unaligned incomplete : Bool) : IntervalFlags := ⟨false, false, incomplete, false, unaligned⟩

/-- An account after its record is formed (R104, R109), with the numbering fields and flags of what begins. -/
def Account.afterClose (acc : Account) (index part : Nat) (flags : IntervalFlags) (mask : BitVec 39) : Account :=
  { acc with
    mains := acc.mains.map Acc.afterClose
    absorbed := acc.absorbed.each fun _ x => x.afterClose
    emitted := acc.emitted.each fun _ x => x.afterClose
    peaks := Table.all 0
    exceed := Table.all 0
    windows := 0, degraded := 0, abandoned := 0
    plansUsed := 0
    flags := flags
    span := 1
    recordIndex := index
    part := part
    maskInForce := mask }

/-- An account whose record is not formed (R106, R107): EXTENDED, and the span raised where the close
advances the interval. -/
def Account.extend (acc : Account) (advances : Bool) : Account :=
  { acc with
    flags := { acc.flags with extended := true }
    span := if advances then satAdd 255 acc.span 1 else acc.span }

/-- The enabled accounts, ascending. -/
def State.enabledAccounts (s : State) : List (Fin 16) := (List.finRange 16).filter fun a => s.isEnabled a

/-- The records of the given accounts. -/
def State.recordsOf (s : State) (accounts : List (Fin 16)) (cause : CloseCause) (reason : Option CloseReason) :
    List Record :=
  accounts.map fun a => .interval (s.formRecord a cause reason)

/-- What a close does to the accounts and the queue: records of `formed` placed, the accounts of `formed` reset with the
numbering `index`, `part`, the others of `concerned` extended, with the notices of R103, R106 and R107. `aligned` is the
alignment of the interval that begins, `advances` whether the close raises the spans of those extended. -/
def State.settleClose (s : State) (concerned formed : List (Fin 16)) (cause : CloseCause) (reason : Option CloseReason)
    (index part : Nat) (aligned advances : Bool) : State :=
  let records := s.recordsOf formed cause reason
  let accounts := s.accounts.each fun a acc =>
    if formed.contains a then
      acc.afterClose index part (.atStart (!aligned) (s.isEnabled a && s.peerMissing a)) (s.settings.orderMask.get a)
    else if concerned.contains a then acc.extend advances
    else acc
  let s1 : State := { s with accounts := accounts, queue := s.queue ++ records }
  (s1.latchIf (!formed.isEmpty) .closed).latchIf (concerned.any fun a => !formed.contains a) .intervalExtended

/-! ### Handing over a close (R110, R155, R156) -/

/-- A close is noted by the tie link: the last close pair becomes the clock's pair before it (R156). -/
def State.notePair (s : State) : State :=
  s.onTie fun t => { t with lastPair := some (s.clock.index, s.clock.part) }

/-- A close of the clock handed to the tie link, which makes its CLOSE page at a PAIRED_PRIMARY unit (R110, R155). -/
def State.handClose (s : State) (reason : Option CloseReason) : State :=
  if s.tie.state == .pairedPrimary then
    (s.onTie fun t => t.closeDue ⟨s.clock.index, s.clock.part, reason⟩).transmit
  else s

/-! ### Normal closes (R95, R105, R106) -/

/-- Whether a normal close finds the numbering exhausted: index and part at their greatest values (R95). -/
def Clock.exhausted (c : Clock) : Bool := c.index == Config.max32 && c.part == 255

/-- The pair after a normal close (R95 (1), (2) and its last sentences). -/
def Clock.nextPair (c : Clock) : Nat × Nat :=
  if c.index < Config.max32 then (c.index + 1, 0) else (c.index, if c.part < 255 then c.part + 1 else c.part)

/-- Whether a normal close has room (R105). -/
def State.closeRoom (s : State) : Bool :=
  s.enabledCount == 0 || s.queue.length + s.enabledCount ≤ Config.normalPlaces

/-- Whether a normal close forms its records (R95, R105). -/
def State.normalForms (s : State) : Bool := s.closeRoom && !s.clock.exhausted

/-- The clock after a close that sets the position to 0 (R95 (1) to (4), R110): pending length in force. -/
def Clock.restart (c : Clock) (pair : Nat × Nat) (aligned lateOpen : Bool) : Clock :=
  { index := pair.1, part := pair.2, position := 0, length := c.pendingLength.getD c.length, pendingLength := none
    aligned := aligned, lateOpen := lateOpen, closeReady := false }

/-- A normal close, with the alignment and late allowance it leaves (R95, R97, R102, R110). -/
def State.normalClose (s : State) (cause : CloseCause) (aligned lateOpen : Bool) : State :=
  let accounts := s.enabledAccounts
  let pair := s.clock.nextPair
  let s1 := (s.handClose none).notePair
  let s2 := s1.settleClose accounts (if s.normalForms then accounts else []) cause none pair.1 pair.2 aligned true
  { s2 with clock := s.clock.restart pair aligned lateOpen }

/-! ### Partial closes (R107) -/

/-- How many of the records of a partial close find a place (R107). -/
def State.partialPlaces (s : State) : Nat := if s.clock.part = 255 then 0 else Config.queuePlaces - s.queue.length

/-- The accounts that a partial close forms: the lowest-numbered for which places are left (R107). -/
def State.partialFormed (s : State) (concerned : List (Fin 16)) : List (Fin 16) := concerned.take s.partialPlaces

/-- The clock part after a partial close (R96, R107). -/
def State.partAfter (s : State) (formed : List (Fin 16)) : Nat :=
  if formed.isEmpty then s.clock.part else s.clock.part + 1

/-- A partial close that leaves the clock's index and position (R107, R108; power-fail, restart, disable). -/
def State.partialClose (s : State) (concerned : List (Fin 16)) (cause : CloseCause) (reason : CloseReason) : State :=
  let formed := s.partialFormed concerned
  let part := s.partAfter formed
  let s1 := (if reason == .disable then s else s.handClose (some reason)).notePair
  let s2 := s1.settleClose concerned formed cause (some reason) s.clock.index part s.clock.aligned false
  { s2 with clock := { s.clock with part := part } }

/-! ### The clock's own closes -/

/-- Whether the clock-made close is due: the raw sample just taken left the position at L (R95). A position found at L when
the link leaves PAIRED_SECONDARY is closed at the next raw sample (R110). -/
def State.closeDue (s : State) : Bool :=
  s.op != .starting && s.clock.closeReady && s.clock.samples ≤ s.clock.position && s.tie.state != .pairedSecondary

/-- CLOCK_MADE_CLOSE (R95). -/
def State.clockMade (s : State) : State :=
  if s.closeDue then s.normalClose .clockMade s.clock.aligned s.clock.aligned else s

/-- The interval running has content (R100). -/
def State.hasContent (s : State) : Bool :=
  s.enabledAccounts.any fun a => 0 < (s.accounts.get a).windows || (s.accounts.get a).flags.extended

/-- W: the sync window in raw samples (6.2). -/
def State.syncSamples (s : State) : Nat := s.settings.syncWindow * 32000

/-- UNALIGNED cleared on every enabled account that does not carry EXTENDED over (R100). -/
def State.clearUnaligned (s : State) : State :=
  s.mapAccounts fun a acc =>
    if s.isEnabled a && !acc.flags.extended then { acc with flags := { acc.flags with unaligned := false } } else acc

/-- The pair after a partial close of reason sync (R100 (2)); at the greatest index the part stays as raised (log 21). -/
def State.syncPair (s : State) (part : Nat) : Nat × Nat :=
  if s.clock.index < Config.max32 then (s.clock.index + 1, 0) else (s.clock.index, part)

/-- A sync pulse aligns an unaligned clock (R100); the span of an account not formed is raised at every index. -/
def State.syncAlign (s : State) : State :=
  if s.hasContent then
    let accounts := s.enabledAccounts
    let formed := s.partialFormed accounts
    let pair := s.syncPair (s.partAfter formed)
    let s1 := (s.handClose (some .sync)).notePair
    let s2 := s1.settleClose accounts formed .localPartial (some .sync) pair.1 pair.2 true true
    ({ s2 with clock := s.clock.restart pair true false }).clearUnaligned
  else
    ({ s with clock := s.clock.restart (s.clock.index, s.clock.part) true false }).clearUnaligned

/-- SYNC_PULSE (R97 to R100, R110). An ALIGNED clock that stands at L because the link has just left PAIRED_SECONDARY takes
its sync-made close at the pulse, as within the early window (log 63). -/
def State.syncPulse (s : State) : State :=
  if s.op == .starting || s.tie.state == .pairedSecondary then s
  else if !s.clock.aligned then s.syncAlign
  else if s.clock.samples ≤ s.clock.position + s.syncSamples then s.normalClose .syncMade true false
  else if s.clock.lateOpen && decide (s.clock.position < s.syncSamples) then
    { s with clock := { s.clock with position := 0, lateOpen := false } }
  else (s.latch .syncFault).countSyncFault

/-- LATE_ALLOWANCE_EXPIRE (R98): the position has left the late window. -/
def State.lateExpire (s : State) : State :=
  if s.clock.lateOpen && decide (s.syncSamples ≤ s.clock.position) then
    { s with clock := { s.clock with lateOpen := false } }
  else s

/-- The meaning of CLOCK_MADE_CLOSE. -/
def execClockMadeClose (s : State) : Host.Outcome State Fault Refusal := .next (s.whenAlive State.clockMade)

/-- The meaning of SYNC_PULSE. -/
def execSyncPulse (s : State) : Host.Outcome State Fault Refusal := .next (s.whenAlive State.syncPulse)

/-- The meaning of LATE_ALLOWANCE_EXPIRE. -/
def execLateAllowanceExpire (s : State) : Host.Outcome State Fault Refusal := .next (s.whenAlive State.lateExpire)

/-! ### ALIGN and CLOSE_NOW (R101, R102) -/

/-- An ALIGN that passes its tests, to `index` and `seconds` (R101). -/
def State.alignTo (s : State) (index seconds : Nat) : State :=
  let advances : Bool := decide (s.clock.index < index)
  let clock (part : Nat) : Clock :=
    { s.clock.restart (index, if advances then 0 else part) true false with position := seconds * 32000 }
  if s.hasContent then
    let accounts := s.enabledAccounts
    let formed := s.partialFormed accounts
    let part := s.partAfter formed
    let s1 := (s.handClose (some .align)).notePair
    let s2 := s1.settleClose accounts formed .localPartial (some .align) index (if advances then 0 else part) true advances
    { s2 with clock := clock part }
  else { s with clock := clock s.clock.part }

/-- An account that has no content at an ALIGN that advances the index keeps the numbering rule of R96: neither extended
nor newly enabled, its record index equals the interval index and its part is at or below the clock part (log 36). -/
def State.renumber (s old : State) : State :=
  s.mapAccounts fun a acc =>
    if s.isEnabled a && !acc.flags.extended && acc.recordIndex == old.clock.index && old.clock.index != s.clock.index then
      { acc with recordIndex := s.clock.index, part := s.clock.part }
    else acc

/-- ALIGN (R101). -/
def State.align (s : State) (body : List Byte) : Answer :=
  let index := field body 0 4
  let seconds := field body 4 4
  if index < s.clock.index then s.refuse .range
  else if (s.clock.pendingLength.getD s.clock.length) * 60 ≤ seconds then s.refuse .range
  else if s.tie.state == .pairedSecondary then s.refuse .refusedState
  else
    let t := (s.alignTo index seconds).renumber s
    ⟨.done, leBytes 4 t.clock.index ++ byte t.clock.part ++ leBytes 4 t.clock.position, t⟩

/-- CLOSE_NOW (R102). -/
def State.closeNow (s : State) : Answer :=
  if s.tie.state == .pairedSecondary then s.refuse .refusedState
  else
    let t := s.normalClose .closeNow false false
    ⟨.done, leBytes 4 t.clock.index ++ boolByte s.closeRoom, t⟩

/-! ### Disable and enable of an account (R72, R108) -/

/-- Whether a disable must be refused (R108, R179 (6)). -/
def State.disableBlocked (s : State) : Bool := Config.queuePlaces ≤ s.queue.length || s.clock.part == 255

/-- The enabled mark of account `a` set. -/
def State.setEnabled (s : State) (a : Fin 16) (b : Bool) : State :=
  { s with settings := { s.settings with enabled := s.settings.enabled.put a b } }

/-- An enabled account disabled: its partial close, then the mark (R108). -/
def State.disable (s : State) (a : Fin 16) : State :=
  (s.partialClose [a] .localPartial .disable).setEnabled a false

/-- A disabled account enabled (R72, R108). -/
def State.enable (s : State) (a : Fin 16) : State :=
  let s1 := s.setEnabled a true
  { s1 with accounts := s1.accounts.change a fun acc =>
      { acc with
        recordIndex := s.clock.index, part := s.clock.part, span := 1
        flags := .atStart (!s.clock.aligned) (s1.peerMissing a) } }

/-! ### The close of a paired secondary (R156) -/

/-- Pairs compared by index, then by part. -/
def pairBelow (p q : Nat × Nat) : Bool := p.1 < q.1 || (p.1 == q.1 && p.2 < q.2)

/-- The clock's pair and the accounts numbered by it set anew; an extended account keeps its own (R156). -/
def State.setPair (s : State) (p : Nat × Nat) : State :=
  let s1 := s.mapAccounts fun _ acc =>
    if acc.recordIndex == s.clock.index && acc.part == s.clock.part && !acc.flags.extended then
      { acc with recordIndex := p.1, part := p.2 }
    else acc
  { s1 with clock := { s1.clock with index := p.1, part := p.2 } }

/-- The close of a CLOSE page, the pair being set (R105, R107, R110). -/
def State.pageClose (s : State) (reason : Option CloseReason) : State :=
  match reason with
  | none => s.normalClose .closePage true false
  | some r =>
    let accounts := s.enabledAccounts
    let formed := s.partialFormed accounts
    let part := s.partAfter formed
    let s2 := s.notePair.settleClose accounts formed .closePage (some r) s.clock.index part true false
    { s2 with clock := s.clock.restart (s.clock.index, part) true false }

/-- The close of a CLOSE page numbered behind a last close pair at part 255: no record is formed, and the clock stands at
the next index and part 0 after it (R156, log 22). -/
def State.blockedClose (s : State) (last : Nat) (reason : Option CloseReason) : State :=
  let s2 := s.notePair.settleClose s.enabledAccounts [] .closePage reason s.clock.index s.clock.part true reason.isNone
  { s2 with clock := s.clock.restart (min Config.max32 (last + 1), 0) true false }

/-- An accepted CLOSE page at a PAIRED_SECONDARY unit (R156). -/
def State.secondaryClose (s : State) (b : CloseBody) : State :=
  match s.tie.lastPair with
  | none => (s.setPair (b.index, b.part)).pageClose b.reason
  | some last =>
    if pairBelow last (b.index, b.part) then (s.setPair (b.index, b.part)).pageClose b.reason
    else if last.2 = 255 then (s.latch .pairIndex).blockedClose last.1 b.reason
    else ((s.latch .pairIndex).setPair (last.1, last.2 + 1)).pageClose b.reason

end Sys2Proof.Machine
end

