-- ==== Sys2Proof/Machine/TieTake.lean ====
section
/-! DEFINITION. The tie link's receiving side (08): arriving pages, acknowledgement, acceptance, role resolution and
TIE_STATUS. -/

namespace Sys2Proof.Machine

/-! ### Resolution (R147, R148) -/

/-- The result of resolving two ROLE pages (R147). -/
inductive Resolution where
  | role (r : Role)
  | noResult
  | fault
  deriving DecidableEq, Repr

/-- The table of R147: the own ROLE against the partner's. -/
def resolveRoles (own partner : RoleBody) : Resolution :=
  match own.preference, partner.preference with
  | .primary, .primary => .fault
  | .secondary, .secondary => .fault
  | .primary, _ => .role .primary
  | _, .primary => .role .secondary
  | .either, .secondary => .role .primary
  | .secondary, .either => .role .secondary
  | .either, .either =>
    if partner.seed < own.seed then .role .primary
    else if own.seed < partner.seed then .role .secondary
    else .noResult

/-- The link enters ROLE_FAULT (R147). -/
def State.enterRoleFault (s : State) : State := (s.enterTie .roleFault).latch .roleFault

/-- A role resolved: the unit's ROLE_CONFIRM is due (R147). -/
def Tie.confirmDue (t : Tie) (r : Role) : Tie :=
  Tie.roleDue { t with resolved := some r } (.confirm ⟨t.attempt, r, t.ownSeed, t.partnerSeed⟩)

/-- The attempt resolved once the own ROLE is acknowledged and the partner's is accepted (R146, R147); an attempt already
resolved is not resolved again (log 61). -/
def State.tryResolve (s : State) : State :=
  match s.tie.ownRole, s.tie.partnerRole with
  | some own, some partner =>
    if s.tie.state == .resolving && s.tie.ownRoleAcked && s.tie.resolved.isNone then
      match resolveRoles own partner with
      | .role r => s.onTie (·.confirmDue r)
      | .noResult => s.failAttempt
      | .fault => s.enterRoleFault
    else s
  | _, _ => s

/-- The paired state of a role. -/
def Role.pairedState : Role → TieState
  | .primary => .pairedPrimary
  | .secondary => .pairedSecondary

/-- The link enters a paired state (R148). -/
def State.enterPaired (s : State) (r : Role) : State := (s.enterTie r.pairedState).latch .tieLinkChange

/-- The pairing judged once the own ROLE_CONFIRM is acknowledged and the partner's is accepted (R148). -/
def State.tryPair (s : State) : State :=
  match s.tie.resolved, s.tie.partnerConfirm with
  | some r, some c =>
    if s.tie.state == .resolving && s.tie.confirmAcked then
      (if c.role == r then s.failAttempt else s.enterPaired r)
    else s
  | _, _ => s

/-! ### Acknowledgement (R141) -/

/-- Whether a page in flight is the CLOSE page of the restart close. -/
def isRestartClose : Option PageBody → Bool
  | some (.close b) => b.reason == some .restart
  | _ => false

/-- The page in flight removed by its acknowledgement, the toggle flipped, a SUMMARY counted, the next page in flight
(R141, R153); the CLOSE page of the restart close is open no longer (R185 (3)). -/
def Tie.acknowledged (t : Tie) : Tie :=
  Tie.nextPage
    { t with
      inFlight := none, sendCount := 0, sendToggle := !t.sendToggle
      sent := satAdd Config.max16 t.sent (flightWindows t.inFlight)
      restartOpen := t.restartOpen && !isRestartClose t.inFlight }

/-- Whether an acknowledged page is the unit's ROLE of the attempt. -/
def Tie.isOwnRole (t : Tie) (b : PageBody) : Bool :=
  match b with | .role r => t.ownRole == some r | _ => false

/-- Whether an acknowledged page is the unit's ROLE_CONFIRM of the attempt. -/
def Tie.isOwnConfirm (t : Tie) (b : PageBody) : Bool :=
  match b with
  | .confirm c => c.attempt == t.attempt && c.ownSeed == t.ownSeed && t.resolved == some c.role
  | _ => false

/-- What the acknowledgement of page `b` brings about in resolution (R146, R148). -/
def State.acked (s : State) (b : PageBody) : State :=
  if s.tie.isOwnRole b then (s.onTie fun t => { t with ownRoleAcked := true }).tryResolve
  else if s.tie.isOwnConfirm b then (s.onTie fun t => { t with confirmAcked := true }).tryPair
  else s

/-- The ack field of a valid page taken (R141). -/
def State.takeAck (s : State) (ack : Option Bool) : State :=
  match ack, s.tie.inFlight with
  | some a, some b => if a == s.tie.sendToggle then (s.onTie Tie.acknowledged).acked b else s
  | _, _ => s

/-! ### Acceptance (R142 to R149) -/

/-- The partner's ROLE taken over with its attempt (R146 (2), R149 (3)). -/
def State.followRole (s : State) (r : RoleBody) : State :=
  (s.beginAttempt r.attempt).onTie fun t => { t with partnerRole := some r, partnerSeed := r.seed }

/-- A ROLE accepted in RESOLVING (R146). -/
def State.takeRole (s : State) (r : RoleBody) : State :=
  if r.attempt = s.tie.attempt then
    (s.onTie fun t => { t with partnerRole := some r, partnerSeed := r.seed }).tryResolve
  else if s.tie.attempt < r.attempt then s.followRole r
  else s

/-- A ROLE_CONFIRM accepted in RESOLVING (R146, R148); the seeds it carries replace none of those held (log 68). A further one
of the own attempt, accepted before the unit's own is acknowledged, replaces the one kept (DESIGN CHOICE, log 70). -/
def State.takeConfirm (s : State) (c : ConfirmBody) : State :=
  if c.attempt = s.tie.attempt then (s.onTie fun t => { t with partnerConfirm := some c }).tryPair else s

/-- An accepted SUMMARY counted by its windows (R154). -/
def Tie.countAccepted (t : Tie) (x : Summary) : Tie := { t with accepted := satAdd Config.max16 t.accepted x.count }

/-- A SUMMARY accepted (R154): PEER contributions in PAIRED_PRIMARY, discarded in any other state, counted in all. -/
def State.takeSummary (s : State) (x : Summary) : State :=
  (if s.tie.state == .pairedPrimary then s.accountSummary x else s).onTie (·.countAccepted x)

/-- The body of an accepted page taken by the state in force (R142, R154). -/
def State.takeBody (s : State) (b : PageBody) : State :=
  match s.tie.state, b with
  | .resolving, .role r => s.takeRole r
  | .resolving, .confirm c => s.takeConfirm c
  | .pairedPrimary, .role _ => s.enterDown
  | .pairedSecondary, .role _ => s.enterDown
  | _, .summary x => s.takeSummary x
  | .pairedSecondary, .close c => s.secondaryClose c
  | .solo, .role r => (s.enterTie .resolving).followRole r
  | .roleFault, .role r => (s.enterTie .resolving).followRole r
  | _, _ => s

/-- Whether a page is accepted: not IDLE, and its toggle not the last accepted one (R142). -/
def Tie.accepts (t : Tie) (p : Page) : Bool := p.body != .idle && t.partnerToggle != some p.toggle

/-- A valid page's body taken where the page is accepted (R142). -/
def State.acceptPage (s : State) (p : Page) : State :=
  if s.tie.accepts p then (s.onTie fun t => { t with partnerToggle := some p.toggle }).takeBody p.body else s

/-- Whether a valid page shows that the partner has begun a session anew (R143 (3)). -/
def State.renewed (s : State) (p : Page) : Bool :=
  s.tie.state != .down && s.tie.sawAck && p.ack.isNone

/-- A valid page noted: whether it carried ack valid (R143 (3)). -/
def State.noteAck (s : State) (p : Page) : State := s.onTie fun t => { t with sawAck := t.sawAck || p.ack.isSome }

/-- A valid page taken, ack field first (R139, R141 to R149). -/
def State.takePage (s : State) (p : Page) : State :=
  if s.renewed p then s.enterDown
  else
    let s1 := s.noteAck p
    let s2 := if s1.tie.state == .down then s1.beginResolving else s1.takeAck p.ack
    (s2.acceptPage p).transmit

/-- TIE_PAGE_ARRIVE (R139): in OFF and before RUNNING the page is dropped without counting (R145, R158). -/
def State.pageArrive (bytes : List Byte) (s : State) : State :=
  let p := huntPage bytes
  if s.tieSends && pageWhole p then
    match readPage p with
    | some page => s.takePage page
    | none => s.countBadPage
  else s

/-- TIE_PAGE_OVERLENGTH (R139). -/
def State.pageOverlength (bytes : List Byte) (s : State) : State :=
  if s.tieSends && pageOver (huntPage bytes) then s.countBadPage else s

/-- TIE_BYTE_GAP_TIMEOUT (R139). -/
def State.pageGap (bytes : List Byte) (s : State) : State :=
  if s.tieSends && pagePart (huntPage bytes) then s.countBadPage else s

/-- The meaning of TIE_PAGE_ARRIVE. -/
def execTiePageArrive (bytes : List Byte) (s : State) : Host.Outcome State Fault Refusal :=
  .next (s.whenAlive (State.pageArrive bytes))

/-- The meaning of TIE_PAGE_OVERLENGTH. -/
def execTiePageOverlength (bytes : List Byte) (s : State) : Host.Outcome State Fault Refusal :=
  .next (s.whenAlive (State.pageOverlength bytes))

/-- The meaning of TIE_BYTE_GAP_TIMEOUT. -/
def execTieByteGapTimeout (bytes : List Byte) (s : State) : Host.Outcome State Fault Refusal :=
  .next (s.whenAlive (State.pageGap bytes))

/-! ### TIE_STATUS (R157) -/

/-- One byte of a toggle, 0xFF for none. -/
def toggleByte : Option Bool → List Byte
  | none => [0xFF]
  | some b => boolByte b

/-- The TIE_STATUS reply body (R157). The model's own: the bytes behind an empty holding slot and behind no last close pair are
zeros (DESIGN CHOICE, log 67); the seeds are the unit's own of the attempt and the one of the partner's ROLE, also where the
partner's confirm carries others (DESIGN CHOICE, log 68). -/
def State.tieBody (s : State) : List Byte :=
  let t := s.tie
  byte t.state.code ++ byte s.settings.preference.code ++ byte t.attempt ++
  leBytes 2 t.ownSeed ++ leBytes 2 t.partnerSeed ++
  boolByte t.sendToggle ++ toggleByte t.partnerToggle ++
  (match t.inFlight with | some b => byte b.code ++ byte t.sendCount | none => [0xFF] ++ byte t.sendCount) ++
  (match t.holding with | some x => leBytes 4 x.count ++ leBytes 4 x.first | none => leBytes 8 0) ++
  byte t.closeList.length ++
  (match t.exportBase with | some b => byte b.val | none => [0xFF]) ++
  leBytes 2 t.sent ++ leBytes 2 t.accepted ++ leBytes 2 t.lost ++ leBytes 2 t.merged ++
  (match t.lastPair with | some p => byte 1 ++ leBytes 4 p.1 ++ byte p.2 | none => leBytes 6 0)

/-- TIE_STATUS (R157). -/
def State.tieStatus (s : State) : Answer := ⟨.done, s.tieBody, s⟩

end Sys2Proof.Machine
end

