-- ==== Sys2Proof/Machine/Completion.lean ====
section
/-! DEFINITION. The raw-sample instant and the window completion (01, 02, 03): the completed-window event handed to its
receivers, the plan switch applied, and the order of the blocks within one raw sample. -/

namespace Sys2Proof.Machine

/-! ### Applying a plan switch (R41 to R43) -/

/-- Whether account `a` has a tap member on a window (R42). -/
def PlanContent.onWindow (c : PlanContent) (a : Fin 16) (w : Window) : Bool :=
  c.members.any fun m => m.account == a && match m.point with | .tap k => w.ownsTap.get k | .peer _ => false

/-- The abandoned counts of the accounts with members on an abandoned window under the old content (R42). -/
def State.countAbandonedAccounts (s : State) (old : Option PlanContent) (w : Window) : State :=
  match old with
  | none => s
  | some c =>
    s.mapAccounts fun a acc =>
      if s.isEnabled a && c.onWindow a w then { acc with abandoned := satAdd Config.max16 acc.abandoned 1 } else acc

/-- The windows of the other timebase settled where the arrangement changes: its window abandoned, the trackers arranged
(R15, R29, R41 (4), R42). DESIGN CHOICE: a window whose last sample came at the same raw sample, and whose completion has not
been taken, is still in progress and is abandoned too (R19, log 72). -/
def State.rearrange (s : State) (old : Option PlanContent) (t : Fin 2) (a : Arrangement) : State :=
  let s1 :=
    match (s.timebases.get (other t)).window with
    | some w => (s.abandonWindow (other t) w).countAbandonedAccounts old w
    | none => s
  s1.arrangeTrackers a

/-- A topology record placed, or dropped and counted (R43, R105). -/
def State.placeTopology (s : State) (r : TopologyRecord) : State :=
  if s.queue.length < Config.normalPlaces then { s with queue := s.queue ++ [.topology r] } else s.countDroppedTopology

/-- The topology record of a switch applied at the completion of window `number` of timebase `t` (R43). -/
def State.topologyOf (s : State) (t : Fin 2) (number : Nat) (p : Fin 8) (changes : Bool) : TopologyRecord :=
  { oldPlan := s.selector.active
    newPlan := p
    word := s.selector.word.getD 0
    index := s.clock.index
    part := s.clock.part
    window := number
    abandoned := changes && (s.timebases.get (other t)).window.isSome }

/-- The pending switch to plan `p` with content `c` applied at the completion of window `number` of the governing timebase
`t` (R41). -/
def State.applyPlan (s : State) (t : Fin 2) (number : Nat) (p : Fin 8) (c : PlanContent) : State :=
  let changes : Bool := c.arrangement != s.arrangement
  let s1 : State :=
    { s with selector := { s.selector with
        active := some p, content := some c, pendingPlan := none, replacement := false } }
  let s2 := s1.placeTopology (s.topologyOf t number p changes)
  let s3 := if changes then s2.rearrange s.selector.content t c.arrangement else s2
  let s4 := (s3.latch .planSwitched).testPeers
  if s.selector.active == some p then s4.select else s4

/-- A completion of timebase `t` at the topology selector: the governing timebase applies a pending switch, in RUNNING
(R28 (2), R40, R41, R55). -/
def State.governSwitch (s : State) (t : Fin 2) (number : Nat) : State :=
  if s.arrangement.governing == t && s.op == .running then
    match s.selector.pendingPlan with
    | none => s
    | some p =>
      match s.selector.slotContent p with
      | none => s
      | some c => s.applyPlan t number p c
  else s

/-! ### WINDOW_COMPLETE (R19, R28) -/

/-- The completed window `w` of timebase `t`: its own completion, then its receivers (R27, R28). -/
def State.completeWindow (s : State) (t : Fin 2) (w : Window) : State :=
  let ev := s.windowEvent t w
  (((s.finishWindow t w).accountWindow ev).exportWindow ev).governSwitch t w.number

/-- WINDOW_COMPLETE where the completion is due (R19). -/
def State.windowComplete (t : Fin 2) (s : State) : State :=
  match (s.timebases.get t).window with
  | some w => if w.complete then s.completeWindow t w else s
  | none => s

/-- The meaning of WINDOW_COMPLETE. -/
def execWindowComplete (t : Fin 2) (s : State) : Host.Outcome State Fault Refusal :=
  .next (s.whenAlive (State.windowComplete t))

/-! ### RAW_SAMPLE_INSTANT (R3, log 3, 10) -/

/-- The events of the last raw sample that are still due are taken before the next one (log 3). -/
def State.settleSample (s : State) : State :=
  let s1 := (List.finRange 4).foldl (fun u l => (u.laneDown l).laneUp l) s
  let s2 := (List.finRange 2).foldl (fun u v => (u.abandonCycle v).endPresenceRun v) s1
  let s3 := (List.finRange 2).foldl (fun u t => u.windowComplete t) s2
  let s4 := (List.finRange 2).foldl (fun u v => u.enterFreeRun v) s3
  s4.clockMade.lateExpire

/-- The interval clock raises the position by 1; it stays at L. Standing at L, it has its close to take, but not while the
link is PAIRED_SECONDARY (R95, R110). -/
def State.tickClock (s : State) : State :=
  { s with clock := { s.clock with
      position := min s.clock.samples (s.clock.position + 1)
      closeReady := s.clock.samples ≤ s.clock.position + 1 && s.tie.state != .pairedSecondary } }

/-- The raw sample itself: windows start, the lanes deliver, the trackers and windows take the codes, the clock counts
(log 10). -/
def State.takeSample (s : State) : State :=
  let s1 := s.startWindows
  ((s1.intake.trackSample s1).sampleWindows).tickClock

/-- RAW_SAMPLE_INSTANT: nothing before RUNNING (R8, R17, R31, R111). -/
def State.rawSample (s : State) : State := if s.op == .starting then s else s.settleSample.takeSample

/-- The meaning of RAW_SAMPLE_INSTANT. -/
def execRawSampleInstant (s : State) : Host.Outcome State Fault Refusal := .next (s.whenAlive State.rawSample)

end Sys2Proof.Machine
end

