-- ==== Sys2Proof/Machine/Archive.lean ====
section
/-! DEFINITION. The interval archive (07): the ring of segments, the writer, reclaim, erase and its suspension, the
collected mark, pins, clearing and reads. -/

namespace Sys2Proof.Machine

/-! ### The canonical form of the archive memory -/

/-- A segment in canonical form: its area fits (7.1), does not end in an erased byte, and an ERASED segment holds
nothing. -/
def Segment.wf (g : Segment) : Bool :=
  g.area.length ≤ Config.areaBytes && g.area.getLast? != some erasedByte &&
    (g.marker != .blank || (g.area.isEmpty && g.seq == 0))

/-- The canonical form of the 256 segments. -/
def Memory.wf (segments : Table Segment 256) : Bool := (List.finRange 256).all fun g => (segments.get g).wf

/-- One byte of a segment's record area, `off` counted from the segment's first header byte (7.1). -/
def Segment.readByte (g : Segment) (off : Nat) : Byte := g.area.getD (off - 16) erasedByte

/-! ### Segments and the ring (7.1, R113) -/

/-- A segment. -/
def State.seg (s : State) (g : Fin 256) : Segment := s.nv.segments.get g

/-- A segment replaced. -/
def State.putSeg (s : State) (g : Fin 256) (x : Segment) : State :=
  { s with nv := { s.nv with segments := s.nv.segments.put g x } }

/-- The marker of a segment programmed. -/
def State.mark (s : State) (g : Fin 256) (m : Marker) : State := s.putSeg g { s.seg g with marker := m }

/-- A segment found or left unusable: RETIRED, holding nothing (R112 (5)). -/
def State.retire (s : State) (g : Fin 256) : State := s.putSeg g ⟨.retired, 0, []⟩

/-- The archive's volatile state changed. -/
def State.onArchive (s : State) (f : Archive → Archive) : State := { s with archive := f s.archive }

/-- The segments from `g + 1` on in ring order, `g` itself last (R113). -/
def ringAfter (g : Fin 256) : List (Fin 256) := (List.finRange 256).map fun i => g + 1 + i

/-- The next segment after the head: the first one in ring order that is not RETIRED; with no head, the lowest-numbered
(R113, R116). -/
def State.nextSegment (s : State) : Option (Fin 256) :=
  let ring : List (Fin 256) := match s.archive.head with | some h => ringAfter h | none => List.finRange 256
  ring.find? fun g => (s.seg g).marker != .retired

/-- The head while it is OPEN. -/
def State.openHead (s : State) : Option (Fin 256) :=
  match s.archive.head with
  | some h => if (s.seg h).marker == .opened then some h else none
  | none => none

/-- Whether a segment counts for the tail: OPEN, FULL or RECLAIMING (R113). -/
def Marker.holds : Marker → Bool
  | .opened | .full | .reclaiming => true
  | _ => false

/-- Whether a segment is served to reads: OPEN or FULL (7.1). -/
def Marker.served : Marker → Bool
  | .opened | .full => true
  | _ => false

/-- A segment put into a list that rises by open sequence number. -/
def State.insertSeq (s : State) (g : Fin 256) : List (Fin 256) → List (Fin 256)
  | [] => [g]
  | h :: t => if (s.seg g).seq ≤ (s.seg h).seq then g :: h :: t else h :: s.insertSeq g t

/-- Segments in archive order: by open sequence number (R113). -/
def State.bySeq (s : State) (gs : List (Fin 256)) : List (Fin 256) := gs.foldr s.insertSeq []

/-- The segments whose marker satisfies `f`, in archive order. -/
def State.segmentsWith (s : State) (f : Marker → Bool) : List (Fin 256) :=
  s.bySeq ((List.finRange 256).filter fun g => f (s.seg g).marker)

/-- The tail (R113). -/
def State.tail (s : State) : Option (Fin 256) := (s.segmentsWith Marker.holds).head?

/-- The number of ERASED segments (7.1). -/
def State.erasedCount (s : State) : Nat := ((List.finRange 256).filter fun g => (s.seg g).marker == .blank).length

/-- The interval indices of a segment's valid records (R114, R137 (3)). -/
def Segment.indices (g : Segment) : List Nat := g.walk.records.map fun r => recIndex r.2

/-! ### Errors (R125) -/

/-- The archive enters STOPPED with an error (R125). -/
def State.stopArchive (s : State) (e : ArchiveError) : State :=
  (s.onArchive fun a => { a with state := .stopped, error := e }).latch .archiveError

/-! ### Reclaim (7.4) -/

/-- Whether an index lies within any pin (R122). -/
def Archive.pinned (a : Archive) (i : Nat) : Bool :=
  (List.finRange 4).any fun p => match a.pins.get p with | some (lo, hi) => lo ≤ i && i ≤ hi | none => false

/-- Whether reclaim of a segment is allowed (R120, R122). -/
def State.reclaimAllowed (s : State) (g : Fin 256) : Bool :=
  (s.seg g).indices.all fun i => !s.archive.pinned i && (s.settings.overwrite || i ≤ s.archive.mark)

/-- The segment that reclaim is wanted for, if it is wanted (R121). -/
def State.reclaimWanted (s : State) : Option (Fin 256) :=
  match s.nextSegment with
  | none => none
  | some g =>
    if (s.seg g).marker == .full && (s.openHead.isNone || decide (16384 < s.archive.writePos)) &&
        s.archive.erase.isNone && (s.archive.state == .idle || s.archive.state == .writing) then some g else none

/-- The erase of a segment begins (R121): SUSPENDED where a write is in progress. -/
def State.beginErase (s : State) (g : Fin 256) : State :=
  (s.mark g .reclaiming).onArchive fun a =>
    { a with erase := some g, heldInd := false, state := if a.writing then .suspended else .reclaiming }

/-- The held indication set, with its notice on the change (R122). -/
def State.becomeHeld (s : State) : State :=
  (s.onArchive fun a => { a with heldInd := true }).latchIf (!s.archive.heldInd) .archiveHeld

/-- The reclaim test (R121, R122); none is made in STOPPED (R125). -/
def State.reclaimTest (s : State) : State :=
  if s.archive.state == .stopped then s
  else
    match s.reclaimWanted with
    | none => s.onArchive fun a => { a with heldInd := false }
    | some g => if s.reclaimAllowed g then s.beginErase g else s.becomeHeld

/-- Whether the part is closing: CLOSING or DORMANT (R138). -/
def State.closing (s : State) : Bool := s.op == .closing || s.op == .dormant

/-- A reclaim test that begins no erase (R122, R138): it settles the held indication alone. -/
def State.reclaimTestHeld (s : State) : State :=
  if s.archive.state == .stopped then s
  else
    match s.reclaimWanted with
    | none => s.onArchive fun a => { a with heldInd := false }
    | some g => if s.reclaimAllowed g then s.onArchive fun a => { a with heldInd := false } else s.becomeHeld

/-- A reclaim test that is not the writer's need: in CLOSING and DORMANT it begins no erase (R138, log 37). -/
def State.reclaimTestRunning (s : State) : State := if s.closing then s.reclaimTestHeld else s.reclaimTest

/-! ### The writer (7.3) -/

/-- Whether a record of `n` bytes fits the OPEN head (R116). -/
def State.fits (s : State) (n : Nat) : Bool := s.openHead.isSome && s.archive.writePos + n ≤ 32768

/-- The bytes of the oldest record. -/
def State.oldest (s : State) : Option (List Byte) := s.queue.head?.map Record.bytes

/-- Whether the archive state lets the writer take a record (R116 (1), (2)). -/
def State.writerFree (s : State) : Bool :=
  !s.archive.writing &&
    (s.archive.state == .idle || s.archive.state == .reclaiming || s.archive.state == .suspended)

/-- The writer's record write begins: IDLE becomes WRITING, RECLAIMING becomes SUSPENDED (R116, R124). -/
def State.beginWrite (s : State) : State :=
  s.onArchive fun a => { a with writing := true, state := if a.state == .idle then .writing else .suspended }

/-- A running erase resumed (R124, R138). -/
def State.resumeErase (s : State) : State :=
  s.onArchive fun a => if a.state == .suspended && !a.writing then { a with state := .reclaiming } else a

/-- Whether the next segment is the one under erase. -/
def State.nextUnderErase (s : State) : Bool := s.archive.erase.isSome && s.nextSegment == s.archive.erase

/-- R124 and R138 with no write in progress: a suspended erase resumes when the queue is empty (not while closing), or when
the oldest record does not fit the head (while closing, when the next segment is the one under erase). -/
def State.settleErase (s : State) : State :=
  match s.oldest with
  | none => if s.closing then s else s.resumeErase
  | some bs => if s.fits bs.length || (s.closing && !s.nextUnderErase) then s else s.resumeErase

/-- The head programmed FULL where it is OPEN (R112 (2)). -/
def State.fillHead (s : State) : State :=
  match s.openHead with
  | some h => s.mark h .full
  | none => s

/-- The next segment, being ERASED, opened; `ok`: its header verifies (R112 (1), R116). The open sequence number rises without
end (log 60). -/
def State.openSegment (s : State) (g : Fin 256) (ok : Bool) : State :=
  let n := s.archive.nextSeq
  let s1 := s.onArchive fun a => { a with nextSeq := n + 1 }
  if ok then
    ((s1.putSeg g ⟨.opened, n, []⟩).onArchive fun a => { a with head := some g, writePos := 16 }).beginWrite
  else (s1.retire g).stopArchive .eraseFail

/-- The writer needs the next segment (R116): opened where ERASED; a reclaim test where FULL (R121 (2)); else it waits,
the erase it waits for running (R124). -/
def State.needSegment (s : State) (ok : Bool) : State :=
  match s.nextSegment with
  | none => s
  | some g =>
    match (s.seg g).marker with
    | .blank => s.openSegment g ok
    | .full => s.settleErase.reclaimTest
    | _ => s.settleErase

/-- The writer takes the oldest record, or does what stands before it (R116). -/
def State.writerTake (ok : Bool) (s : State) : State :=
  match s.oldest with
  | none => s
  | some bs =>
    if !s.writerFree then s
    else if s.fits bs.length then s.beginWrite
    else s.fillHead.needSegment ok

/-- The meaning of WRITER_TAKE_RECORD. -/
def execWriterTakeRecord (headerOk : Bool) (s : State) : Host.Outcome State Fault Refusal :=
  .next (s.whenAlive (State.writerTake headerOk))

/-! ### Clearing (7.9) -/

/-- The copy of the collected mark that holds the lower value: an invalid copy is lower, a tie gives copy 0 (log 16). -/
def NonVolatile.lowerCopy (nv : NonVolatile) : Fin 2 :=
  match nv.marks.get 0, nv.marks.get 1 with
  | none, _ => 0
  | some _, none => 1
  | some a, some b => if a ≤ b then 0 else 1

/-- A mark write begins (R127, R181). -/
def State.writeMark (s : State) (value : Nat) (copy : Fin 2) : State := { s with store := some (.mark value copy) }

/-- The clear's erases are done: its mark writes are due; the first begins unless a store write is in progress (R131). -/
def State.clearMarks (s : State) : State :=
  let s1 := s.onArchive fun a => { a with erase := none, clear := .marking 2 }
  if s1.storeBusy then s1 else s1.writeMark 0 s1.nv.lowerCopy

/-- The next erase of a clear begins, or its mark writes (R131). -/
def State.clearNext (s : State) : List (Fin 256) → State
  | [] => s.clearMarks
  | g :: gs => (s.mark g .reclaiming).onArchive fun a => { a with erase := some g, clear := .erasing gs }

/-- A clear begins (R131): an erase running or suspended is its first erase; a pin placed while the clear waited does not
stay it (log 57). -/
def State.clearBegin (s : State) : State :=
  let listed := (List.finRange 256).filter fun g => (s.seg g).marker.holds
  let s1 := s.onArchive fun a => { a with state := .clearing, cursor := none, heldInd := false }
  match s.archive.erase with
  | some g => s1.onArchive fun a => { a with clear := .erasing (listed.filter (· != g)) }
  | none => s1.clearNext listed

/-! ### Write completion (R117 to R119) -/

/-- The bytes that read back from a slot: as written but at the offsets of `bad`. -/
def readBack (bs : List Byte) (bad : List (Nat × Byte)) : List Byte :=
  bs.zipIdx.map fun x => match bad.find? (fun y => y.1 == x.2) with | some y => y.2 | none => x.1

/-- The archive state after a write without another one begun: WRITING becomes IDLE (R117 (4)). -/
def State.endWrite (s : State) : State :=
  s.onArchive fun a => { a with writing := false, state := if a.state == .writing then .idle else a.state }

/-- Bytes programmed into the head at the write position. -/
def State.program (s : State) (h : Fin 256) (bytes : List Byte) : State :=
  s.putSeg h { s.seg h with area := programArea (s.seg h).area (s.archive.writePos - 16) bytes }

/-- The write position moved on by `n`. -/
def State.advance (s : State) (n : Nat) : State := s.onArchive fun a => { a with writePos := a.writePos + n }

/-- The reclaim test of a write completion that leaves the head past half full (R117, R121 (1)). -/
def State.halfTest (s : State) : State :=
  if s.openHead.isSome && decide (16384 < s.archive.writePos) then s.reclaimTestRunning else s

/-- The oldest record leaves the queue (R105, R117 (1), R119). -/
def State.dropOldest (s : State) : State :=
  { s with queue := s.queue.drop 1, archive := { s.archive with failedOnce := false } }

/-- A write that verifies (R117); an ARCHIVE_CLEAR taken during it begins (R131), and the completion then makes no reclaim
test of its own, also past half full (DESIGN CHOICE, log 69). -/
def State.writeDone (s : State) (h : Fin 256) (bs : List Byte) : State :=
  let s1 := (((s.program h bs).advance bs.length).endWrite).dropOldest
  if s.archive.clear == .waiting then s1.clearBegin else s1.halfTest.settleErase

/-- The slot of a failed write (R118): DEAD and passed over where the marker and length are intact; else the head is
programmed FULL. -/
def State.deadSlot (s : State) (h : Fin 256) (bs back : List Byte) : State :=
  if back.take 4 == bs.take 4 then (s.program h (back.set 4 0x00)).advance bs.length
  else (s.program h (back.set 4 0x00)).mark h .full

/-- A write that fails its verify for the first time (R118): the same record is written once more, after the clear where
an ARCHIVE_CLEAR was taken during the write (R131). -/
def State.writeFailed (s : State) (h : Fin 256) (bs back : List Byte) (ok : Bool) : State :=
  let s1 := (s.deadSlot h bs back).endWrite.onArchive fun a => { a with failedOnce := true }
  if s.archive.clear == .waiting then s1.clearBegin else State.writerTake ok s1

/-- A second write that fails its verify (R119): the record is lost, the archive STOPPED; a clear that waited is dropped
(log 20). -/
def State.writeLost (s : State) (h : Fin 256) (bs back : List Byte) : State :=
  ((((s.deadSlot h bs back).endWrite).dropOldest).onArchive fun a =>
    { a with clear := if a.clear == .waiting then .idle else a.clear }).stopArchive .writeFail

/-- RECORD_WRITE_COMPLETE (R117 to R119). -/
def State.writeComplete (bad : List (Nat × Byte)) (ok : Bool) (s : State) : State :=
  match s.oldest, s.openHead with
  | some bs, some h =>
    if !s.archive.writing then s
    else
      let back := readBack bs bad
      if back == bs then s.writeDone h bs
      else if s.archive.failedOnce then s.writeLost h bs back
      else s.writeFailed h bs back ok
  | _, _ => s

/-- The meaning of RECORD_WRITE_COMPLETE. -/
def execRecordWriteComplete (bad : List (Nat × Byte)) (headerOk : Bool) (s : State) :
    Host.Outcome State Fault Refusal :=
  .next (s.whenAlive (State.writeComplete bad headerOk))

/-! ### Erase completion (R123, R131) -/

/-- The head is none once the archive is empty (R113). -/
def State.dropHead (s : State) : State :=
  if (List.finRange 256).any fun g => (s.seg g).marker.holds then s else s.onArchive fun a => { a with head := none }

/-- An erase that verifies blank, outside a clear (R123); the writer that waits for the segment takes its record. -/
def State.eraseDone (s : State) (g : Fin 256) (ok : Bool) : State :=
  let s1 := ((s.putSeg g Segment.erased).onArchive fun a =>
    { a with erase := none, state := if a.writing then .writing else .idle }).dropHead
  if s1.openHead.isNone && !s1.archive.writing then State.writerTake ok s1 else s1

/-- An erase that does not verify blank (R123, R131): the segment RETIRED, the archive STOPPED, a clear ended. -/
def State.eraseFailed (s : State) (g : Fin 256) : State :=
  ((s.retire g).onArchive fun a => { a with erase := none, clear := .idle }).dropHead.stopArchive .eraseFail

/-- ERASE_COMPLETE (R123, R131). -/
def State.eraseComplete (blank ok : Bool) (s : State) : State :=
  match s.archive.erase with
  | none => s
  | some g =>
    if s.archive.state == .reclaiming then (if blank then s.eraseDone g ok else s.eraseFailed g)
    else if s.archive.state == .clearing then
      (if blank then
        match s.archive.clear with
        | .erasing todo => (s.putSeg g Segment.erased).clearNext todo
        | _ => s
       else s.eraseFailed g)
    else s

/-- The meaning of ERASE_COMPLETE. -/
def execEraseComplete (blank headerOk : Bool) (s : State) : Host.Outcome State Fault Refusal :=
  .next (s.whenAlive (State.eraseComplete blank headerOk))

/-! ### ERROR_CLEAR, the collected mark, pins, ARCHIVE_CLEAR -/

/-- The archive leaves STOPPED (R126). -/
def State.leaveStopped (s : State) : State :=
  ((s.onArchive fun a =>
    { a with error := .none, state := if a.erase.isSome then .suspended else .idle }).settleErase).reclaimTestRunning

/-- ERROR_CLEAR (R126). -/
def State.errorClear (s : State) : Answer :=
  ⟨.done, byte s.archive.error.code, if s.archive.state == .stopped then s.leaveStopped else s⟩

/-- ARCHIVE_COLLECTED (R127). -/
def State.archiveCollected (s : State) (body : List Byte) : Answer :=
  let index := field body 0 4
  let m := s.archive.mark
  if s.archive.state == .clearing then s.refuse .busy
  else if s.storeBusy then s.refuse .busy
  else if index ≤ m then ⟨.done, leBytes 4 m ++ leBytes 4 m, s⟩
  else ⟨.done, leBytes 4 m ++ leBytes 4 index, s.writeMark index s.nv.lowerCopy⟩

/-- Whether a RECLAIMING segment holds a record whose index lies in the range (R128). -/
def State.eraseHolds (s : State) (lo hi : Nat) : Bool :=
  (List.finRange 256).any fun g =>
    (s.seg g).marker == .reclaiming && (s.seg g).indices.any fun i => lo ≤ i && i ≤ hi

/-- The lowest free pin place (R128). -/
def Archive.freePin (a : Archive) : Option (Fin 4) := (List.finRange 4).find? fun p => (a.pins.get p).isNone

/-- The pins changed, with their store write (R128, R129). -/
def State.setPins (s : State) (pins : Table (Option (Nat × Nat)) 4) : State :=
  (s.onArchive fun a => { a with pins := pins }).writeImage fun i => { i with pins := pins }

/-- PIN_ADD (R128); an ARCHIVE_CLEAR that waits for a write does not refuse it (log 57). -/
def State.pinAdd (s : State) (body : List Byte) : Answer :=
  let lo := field body 0 4
  let hi := field body 4 4
  if s.archive.state == .clearing then s.refuse .busy
  else if hi < lo then s.refuse .range
  else
    match s.archive.freePin with
    | none => s.refuse .range
    | some p =>
      if s.storeBusy then s.refuse .busy
      else if s.eraseHolds lo hi then s.refuse .conflict
      else ⟨.done, byte p.val, s.setPins (s.archive.pins.put p (some (lo, hi)))⟩

/-- PIN_REMOVE (R129). -/
def State.pinRemove (s : State) (body : List Byte) : Answer :=
  if h : field body 0 1 < 4 then
    let p : Fin 4 := ⟨field body 0 1, h⟩
    if (s.archive.pins.get p).isNone then s.refuse .range
    else if s.storeBusy then s.refuse .busy
    else (s.setPins (s.archive.pins.put p none)).reclaimTestRunning.doneNow
  else s.refuse .range

/-- Whether an OPEN or FULL segment holds an uncollected record (R130). -/
def State.anyUncollected (s : State) : Bool :=
  (List.finRange 256).any fun g =>
    (s.seg g).marker.served && (s.seg g).indices.any fun i => s.archive.mark < i

/-- Whether any pin is held (R130). -/
def Archive.anyPin (a : Archive) : Bool := (List.finRange 4).any fun p => (a.pins.get p).isSome

/-- ARCHIVE_CLEAR (R130, R131). -/
def State.archiveClear (s : State) : Answer :=
  if s.archive.error != .none then s.refuse .stopped
  else if s.archive.state == .clearing then s.refuse .busy
  else if s.archive.anyPin then s.refuse .pinned
  else if !s.settings.overwrite && s.anyUncollected then s.refuse .held
  else if s.archive.writing then (s.onArchive fun a => { a with clear := .waiting }).doneNow
  else s.clearBegin.doneNow

/-! ### Completion of the archive's store writes (R127, R131, R181) -/

/-- A mark write that is not a clear's completes: the collected mark takes the value (R127). -/
def State.markCollected (s : State) (value : Nat) : State :=
  (s.onArchive fun a => { a with mark := value }).reclaimTestRunning

/-- A mark write of a clear completes: the second one begins, or the clear ends (R131). -/
def State.markCleared (s : State) (copy : Fin 2) : State :=
  match s.archive.clear with
  | .marking 2 => (s.onArchive fun a => { a with clear := .marking 1 }).writeMark 0 (other copy)
  | _ => s.onArchive fun a => { a with clear := .idle, mark := 0, head := none, state := .idle }

/-- The clear's first mark write begins where it waited for another store write (R131). -/
def State.clearMarksIfDue (s : State) : State :=
  if s.archive.clear == .marking 2 && !s.storeBusy then s.writeMark 0 s.nv.lowerCopy else s

/-- STORE_WRITE_COMPLETE (R127, R131, R181). -/
def State.storeComplete (s : State) : State :=
  match s.store with
  | none => s
  | some (.image i) => ({ s with store := none, nv := { s.nv with image := some i } }).clearMarksIfDue
  | some (.mark value copy) =>
    let s1 : State := { s with store := none, nv := { s.nv with marks := s.nv.marks.put copy (some value) } }
    if value = 0 then s1.markCleared copy else (s1.markCollected value).clearMarksIfDue

/-- The meaning of STORE_WRITE_COMPLETE. -/
def execStoreWriteComplete (s : State) : Host.Outcome State Fault Refusal := .next (s.whenAlive State.storeComplete)

/-! ### Reading (7.10) -/

/-- Whether a record matches a filter (R132). -/
def ReadFilter.fits (f : ReadFilter) (bs : List Byte) : Bool :=
  f.fromIndex ≤ recIndex bs &&
    (if recKind bs == 0x11 then f.kinds.getLsbD 0 && f.accounts.getLsbD (recAccount bs)
     else if recKind bs == 0x12 then f.kinds.getLsbD 1 && f.accounts.getLsbD (recAccount bs)
     else f.kinds.getLsbD 2)

/-- A position in the archive. -/
structure Position where
  segment : Fin 256
  offset : Nat
  deriving DecidableEq, Repr

/-- What a walk over several segments finds: the matching records with their positions, and where it ends. -/
structure ReadWalk where
  found : List (Position × List Byte)
  endAt : Position
  deriving DecidableEq, Repr

/-- The walk over segments in archive order, the first from `off` on, the others from offset 16 (R132). It ends at the end
of the last one that holds slots (R133, log 18). -/
def State.readSegments (s : State) (f : ReadFilter) : List (Fin 256) → Nat → Position → ReadWalk
  | [], _, at_ => ⟨[], at_⟩
  | g :: gs, off, at_ =>
    let w := (s.seg g).walkAt off
    let here := (w.records.filter fun r => f.fits r.2).map fun r => ((⟨g, r.1⟩ : Position), r.2)
    let rest := s.readSegments f gs 16 (if w.endAt = 16 then at_ else ⟨g, w.endAt⟩)
    { rest with found := here ++ rest.found }

/-- The records that a body of `room` bytes takes, and the rest (R132). -/
def takeRecords : Nat → List (Position × List Byte) → List (List Byte) × List (Position × List Byte)
  | _, [] => ([], [])
  | room, x :: xs =>
    if x.2.length ≤ room then
      let r := takeRecords (room - x.2.length) xs
      (x.2 :: r.1, r.2)
    else ([], x :: xs)

/-- The header of a read reply (R132, log 17). -/
def readHeader (count : Nat) (more : Bool) (at_ : Position) : List Byte :=
  byte count ++ boolByte more ++ byte at_.segment.val ++ leBytes 4 at_.offset ++ byte 0

/-- A read from a position under a filter: the reply, and the cursor left (R132, R133). -/
def State.readFrom (s : State) (f : ReadFilter) (start : Position) : Answer :=
  let later := (s.segmentsWith Marker.served).filter fun g => (s.seg start.segment).seq < (s.seg g).seq
  let w :=
    if (s.seg start.segment).marker.served then s.readSegments f (start.segment :: later) start.offset start
    else s.readSegments f later 16 ⟨later.headD start.segment, 16⟩
  let taken := takeRecords 1016 w.found
  let at_ : Position := match taken.2 with | x :: _ => x.1 | [] => w.endAt
  ⟨.done, readHeader taken.1.length (!taken.2.isEmpty) at_ ++ taken.1.flatten,
    s.onArchive fun a => { a with cursor := some ⟨at_.segment, (s.seg at_.segment).seq, at_.offset, f⟩ }⟩

/-- Whether the archive serves reads (R132, R133). -/
def State.readsBusy (s : State) : Bool := s.archive.state == .scanning || s.archive.state == .clearing

/-- ARCHIVE_READ (R132); the empty-mask test reads all 8 bits of the kind mask, so that a higher bit alone is FIELD and not
RANGE (log 64). -/
def State.archiveRead (s : State) (body : List Byte) : Answer :=
  let kinds := field body 6 1
  let accounts := field body 4 2
  if s.readsBusy then s.refuse .busy
  else if kinds = 0 then s.refuse .range
  else if 8 ≤ kinds then s.refuse .field
  else if (bitOf kinds 0 || bitOf kinds 1) && accounts == 0 then s.refuse .range
  else
    match s.tail with
    | none => ⟨.done, readHeader 0 false ⟨0, 0⟩, s.onArchive fun a => { a with cursor := none }⟩
    | some g => s.readFrom ⟨field body 0 4, BitVec.ofNat 16 accounts, BitVec.ofNat 3 kinds⟩ ⟨g, 16⟩

/-- ARCHIVE_MORE (R133). -/
def State.archiveMore (s : State) : Answer :=
  if s.readsBusy then s.refuse .busy
  else
    match s.archive.cursor with
    | none => s.refuse .sequence
    | some c =>
      if (s.seg c.segment).marker.served && (s.seg c.segment).seq == c.seq then
        s.readFrom c.filter ⟨c.segment, c.offset⟩
      else ⟨.cursorLost, [], s.onArchive fun a => { a with cursor := none }⟩

/-! ### The start-up scan (7.11) -/

/-- A segment after the scan (R136): `failed`, a re-erase of it does not verify. -/
def Segment.repaired (g : Segment) (failed : Bool) : Segment :=
  match g.marker with
  | .retired => ⟨.retired, 0, []⟩
  | .blank => if g.area.isEmpty then Segment.erased else if failed then ⟨.retired, 0, []⟩ else Segment.erased
  | .reclaiming | .broken => if failed then ⟨.retired, 0, []⟩ else Segment.erased
  | .opened => if g.walk.torn then { g with marker := .full } else g
  | .full => g

/-- Whether the scan erases a segment again (R136). -/
def Segment.unclean (g : Segment) : Bool :=
  g.marker == .reclaiming || g.marker == .broken || (g.marker == .blank && !g.area.isEmpty)

/-- Whether the scan finds a torn slot in a segment (R136). -/
def Segment.tornFound (g : Segment) : Bool := g.marker.served && g.walk.torn

/-- Of two segments still OPEN the one with the lower open sequence number is programmed FULL (R136, log 58). -/
def State.oneOpen (s : State) : State :=
  ((s.segmentsWith (· == .opened)).dropLast).foldl (fun u g => u.mark g .full) s

/-- The segments after the scan (R136): torn OPEN segments become FULL before two OPEN ones are compared (log 58). -/
def State.scanRepair (s : State) (failed : List (Fin 256)) : State :=
  ({ s with nv := { s.nv with
      segments := s.nv.segments.each fun g x => x.repaired (failed.contains g) } }).oneOpen

/-- The scan's findings for the archive (R137 (1), (2)): head, write position, next open sequence number. -/
def State.scanFind (s : State) : State :=
  let top := match (s.segmentsWith Marker.served).getLast? with | some g => (s.seg g).seq | none => 0
  let head : Option (Fin 256) :=
    match s.segmentsWith (· == .opened) with
    | g :: _ => some g
    | [] => (s.segmentsWith (· == .full)).getLast?
  let pos := match head with | some g => (s.seg g).walk.endAt | none => 16
  s.onArchive fun a => { a with head := head, writePos := pos, nextSeq := top + 1, state := .idle }

/-- SCAN_END's part of the archive (R136, R137): repairs, notices, findings, all in this one step (log 59). -/
def State.endScan (s : State) (failed : List (Fin 256)) : State :=
  let torn := (List.finRange 256).any fun g => (s.seg g).tornFound
  let bad := (List.finRange 256).any fun g => (s.seg g).unclean && failed.contains g
  let s1 := (s.scanRepair failed).scanFind.latchIf torn .tornFound
  if bad then s1.stopArchive .eraseFail else s1

/-- The INTERVAL and PARTIAL records of the archive, in archive order (R137). -/
def State.intervalRecords (s : State) : List (List Byte) :=
  ((s.segmentsWith Marker.served).flatMap fun g => (s.seg g).walk.records.map (·.2)).filter recIsInterval

/-- The latest INTERVAL or PARTIAL record of account `a` (R137 (4)). -/
def State.latestRecord (s : State) (a : Fin 16) : Option (List Byte) :=
  (s.intervalRecords.filter fun bs => recAccount bs == a.val).getLast?

/-- The highest interval index of any INTERVAL or PARTIAL record (R137 (5)). -/
def State.highestIndex (s : State) : Option Nat :=
  match s.intervalRecords.map recIndex with
  | [] => none
  | i :: is => some (is.foldl max i)

/-- The greatest of two pairs. -/
def maxPair (p q : Nat × Nat) : Nat × Nat := if pairBelow p q then q else p

/-- The greatest (interval index, part) among the latest records of the accounts (R156). -/
def State.greatestPair (s : State) : Option (Nat × Nat) :=
  match ((List.finRange 16).filterMap s.latestRecord).map fun bs => (recIndex bs, recPart bs) with
  | [] => none
  | p :: ps => some (ps.foldl maxPair p)

/-! ### The reset line (R135) -/

/-- The archive when everything stops (R135): the record write in progress has programmed `programmed` bytes, or left the
header of the segment just opened cut off; the segment under erase is unclean. The count may reach the whole length of the
record: then the slot holds a valid record (DESIGN CHOICE, log 71). -/
def State.cutArchive (s : State) (programmed : Nat) (headerCut : Bool) : State :=
  let s1 :=
    match s.oldest, s.openHead with
    | some bs, some h =>
      if !s.archive.writing then s
      else if headerCut && (s.seg h).area.isEmpty then s.mark h .broken
      else s.program h (bs.take programmed)
    | _, _ => s
  match s.archive.erase with
  | some g => s1.mark g .broken
  | none => s1

end Sys2Proof.Machine
end

