-- ==== Sys2Proof/Machine/Settings.lean ====
section
/-! DEFINITION. The settings store (11.1): setting ids, values, SET and GET. -/

namespace Sys2Proof.Machine

/-- The settings of the table of 11.1. -/
inductive SettingId where
  | nominalHz
  | nominalVoltage (v : Fin 2)
  | presence (v : Fin 2)
  | intervalLength
  | syncWindow
  | debounceTime
  | scale (c : Fin 30)
  | delay (c : Fin 30)
  | binding (k : Fin 8)
  | enabled (a : Fin 16)
  | name (a : Fin 16)
  | orderMask (a : Fin 16)
  | exportSet
  | exportSlot (j : Fin 4)
  | tieEnable
  | preference
  | attentionMode
  | noticeMask
  | reclaim
  deriving DecidableEq, Repr

/-- The index of an id above a base, below `n`. -/
def idIndex (n id base : Nat) : Option (Fin n) :=
  if h : id - base < n then (if base ≤ id then some ⟨id - base, h⟩ else none) else none

/-- The setting of a 16-bit id (11.1). -/
def readId (id : Nat) : Option SettingId :=
  match id with
  | 0x0001 => some .nominalHz
  | 0x0010 => some .intervalLength
  | 0x0011 => some .syncWindow
  | 0x0012 => some .debounceTime
  | 0x0300 => some .exportSet
  | 0x0400 => some .tieEnable
  | 0x0401 => some .preference
  | 0x0500 => some .attentionMode
  | 0x0501 => some .noticeMask
  | 0x0600 => some .reclaim
  | _ =>
    ((idIndex 2 id 0x0002).map .nominalVoltage).or <|
    ((idIndex 2 id 0x0004).map .presence).or <|
    ((idIndex 30 id 0x0100).map .scale).or <|
    ((idIndex 30 id 0x0120).map .delay).or <|
    ((idIndex 8 id 0x0140).map .binding).or <|
    ((idIndex 16 id 0x0200).map .enabled).or <|
    ((idIndex 16 id 0x0210).map .name).or <|
    ((idIndex 16 id 0x0220).map .orderMask).or <|
    ((idIndex 4 id 0x0301).map .exportSlot)

/-- The size of a value in bytes (11.1); an export slot's depends on the count it carries. -/
def SettingId.size (i : SettingId) (value : List Byte) : Nat :=
  match i with
  | .nominalHz | .presence _ | .intervalLength | .syncWindow | .binding _ | .enabled _ | .exportSet | .tieEnable
  | .preference | .attentionMode | .reclaim => 1
  | .debounceTime | .delay _ => 2
  | .nominalVoltage _ | .scale _ => 4
  | .name _ => 8
  | .orderMask _ => 5
  | .noticeMask => 3
  | .exportSlot _ => 1 + 2 * field value 0 1

/-- Whether a bit beyond the meaning of a mask is set (R179 (3)). -/
def SettingId.badBits (i : SettingId) (value : List Byte) : Bool :=
  match i with
  | .noticeMask => decide (2 ^ 18 ≤ ofLe value)
  | .orderMask _ => decide (2 ^ 39 ≤ ofLe value)
  | _ => false

/-- `settings` where `ok` holds. -/
def within (ok : Bool) (settings : Settings) : Option Settings := if ok then some settings else none

/-- A member of an export slot read from its two bytes (R150). -/
def readExportMember (bs : List Byte) : Option ExportMember :=
  if h : field bs 0 1 < 8 then
    if byteAt bs 1 == 0x01 then some ⟨⟨field bs 0 1, h⟩, true⟩
    else if byteAt bs 1 == 0xFF then some ⟨⟨field bs 0 1, h⟩, false⟩
    else none
  else none

/-- Members read one by one. -/
def readExportMembers : Nat → List Byte → Option (List ExportMember)
  | 0, _ => some []
  | k + 1, bs =>
    match readExportMember (bs.take 2), readExportMembers k (bs.drop 2) with
    | some m, some ms => some (m :: ms)
    | _, _ => none

/-- The members of an export slot, or none where they break R150: more than 8, or a tap twice. -/
def readExportSlot (value : List Byte) : Option (List ExportMember) :=
  match readExportMembers (field value 0 1) (value.drop 1) with
  | none => none
  | some ms => if ms.length ≤ 8 && decide ((ms.map (·.tap)).Nodup) then some ms else none

/-- A number as one of `n`. -/
def readFin (n : Nat) (x : Nat) : Option (Fin n) := if h : x < n then some ⟨x, h⟩ else none

/-- The attention mode of a code (11.1). -/
def readMode (x : Nat) : Option AttentionMode :=
  if x = 0 then some .level else if x = 1 then some .pulseClose else if x = 2 then some .pulseAny else none

/-- Whether a length is one of those of 6.1. -/
def isLength (x : Nat) : Bool := x == 5 || x == 10 || x == 15 || x == 30 || x == 60

/-- Whether the characters of a name lie in 0x20 to 0x7E (R50). -/
def isName (bs : List Byte) : Bool := bs.all fun b => 0x20 ≤ b.toNat && b.toNat ≤ 0x7E

/-- The settings with a value written, or none where the value lies outside its range (11.1, R50, R150, R179 (4)). -/
def SettingId.write (i : SettingId) (value : List Byte) (x : Settings) : Option Settings :=
  let n := ofLe value
  match i with
  | .nominalHz => within (n == 50 || n == 60) { x with nominalHz := n }
  | .nominalVoltage v => within (1000 ≤ n && n ≤ 2000000000) { x with nominalVoltage := x.nominalVoltage.put v n }
  | .presence v => within (1 ≤ n && n ≤ 100) { x with presence := x.presence.put v n }
  | .intervalLength => within (isLength n) { x with intervalLength := n }
  | .syncWindow => within (1 ≤ n && n ≤ 120) { x with syncWindow := n }
  | .debounceTime => within (10 ≤ n && n ≤ 1000) { x with debounceTime := n }
  | .scale c => within (n ≤ 2000000000) { x with scale := x.scale.put c n }
  | .delay c =>
    within (-256 ≤ ofLeInt value && ofLeInt value ≤ 256) { x with delay := x.delay.put c (ofLeInt value) }
  | .binding k => (readFin 2 n).map fun v => { x with binding := x.binding.put k v }
  | .enabled a => within (n ≤ 1) { x with enabled := x.enabled.put a (n == 1) }
  | .name a => within (isName value) { x with name := x.name.put a value }
  | .orderMask a => some { x with orderMask := x.orderMask.put a (BitVec.ofNat 39 n) }
  | .exportSet => (readFin 2 n).map fun v => { x with exportSet := v }
  | .exportSlot j => (readExportSlot value).map fun ms => { x with exportSlots := x.exportSlots.put j ms }
  | .tieEnable => within (n ≤ 1) { x with tieEnable := n == 1 }
  | .preference => (readPreference n).map fun p => { x with preference := p }
  | .attentionMode => (readMode n).map fun m => { x with attentionMode := m }
  | .noticeMask => some { x with noticeMask := BitVec.ofNat 18 n }
  | .reclaim => within (n ≤ 1) { x with overwrite := n == 1 }

/-- The two bytes of an export slot member (11.1). -/
def ExportMember.bytes (m : ExportMember) : List Byte := byte m.tap.val ++ [if m.plus then 0x01 else 0xFF]

/-- An export slot at its full size of 17 bytes (R180). -/
def exportSlotBytes (ms : List ExportMember) : List Byte :=
  let bs := byte ms.length ++ ms.flatMap ExportMember.bytes
  bs ++ List.replicate (17 - bs.length) 0

/-- The code of an attention mode (11.1). -/
def AttentionMode.code : AttentionMode → Nat
  | .level => 0
  | .pulseClose => 1
  | .pulseAny => 2

/-- The value of a setting in its value size (R180). -/
def SettingId.bytes (i : SettingId) (x : Settings) : List Byte :=
  match i with
  | .nominalHz => byte x.nominalHz
  | .nominalVoltage v => leBytes 4 (x.nominalVoltage.get v)
  | .presence v => byte (x.presence.get v)
  | .intervalLength => byte x.intervalLength
  | .syncWindow => byte x.syncWindow
  | .debounceTime => leBytes 2 x.debounceTime
  | .scale c => leBytes 4 (x.scale.get c)
  | .delay c => leInt 2 (x.delay.get c)
  | .binding k => byte (x.binding.get k).val
  | .enabled a => boolByte (x.enabled.get a)
  | .name a => x.name.get a
  | .orderMask a => leBytes 5 (x.orderMask.get a).toNat
  | .exportSet => byte x.exportSet.val
  | .exportSlot j => exportSlotBytes (x.exportSlots.get j)
  | .tieEnable => boolByte x.tieEnable
  | .preference => byte x.preference.code
  | .attentionMode => byte x.attentionMode.code
  | .noticeMask => leBytes 3 x.noticeMask.toNat
  | .reclaim => boolByte x.overwrite

/-! ### The points at which values act (the Takes effect column of 11.1) -/

/-- The interval length held as the pending length; the length in force clears it (R109). -/
def State.setLength (s : State) (n : Nat) : State :=
  { s with clock := { s.clock with pendingLength := if n = s.clock.length then none else some n } }

/-- A change of the enabled mark of an account (R72, R108). -/
def State.changeEnabled (s : State) (a : Fin 16) (b : Bool) : State :=
  if s.isEnabled a && !b then s.disable a
  else if !s.isEnabled a && b then s.enable a
  else s

/-- A change of the tie enable setting (R145). -/
def State.changeTieEnable (s : State) (old : Bool) : State :=
  if old && !s.settings.tieEnable then s.enterOff
  else if !old && s.settings.tieEnable then s.enterDown
  else s

/-- A change of the role preference (R149). -/
def State.changePreference (s : State) (old : Preference) : State :=
  if s.settings.preference == old then s
  else
    match s.tie.state with
    | .resolving | .solo | .roleFault => s.beginResolving.transmit
    | _ => s

/-- A change of the attention mode from `old` (R177): a pulse runs on between the two pulse modes alone; on entering LEVEL it
ends, and on entering a pulse mode from LEVEL the line is deasserted. -/
def State.changeMode (s : State) (old : AttentionMode) : State :=
  { s with notices := { s.notices with
      pulse := s.settings.attentionMode != .level && old != .level && s.notices.pulse } }

/-- A passing value written into the volatile image and acting by its owner's rule (R179); `x` is the image with it. LANES_OK
follows a scale at the SET itself (R174, log 65). -/
def State.applySetting (s : State) (i : SettingId) (x : Settings) : State :=
  let t : State := { s with settings := x }
  match i with
  | .intervalLength => t.setLength x.intervalLength
  | .enabled a => s.changeEnabled a (x.enabled.get a)
  | .scale _ => t.recordLows
  | .tieEnable => t.changeTieEnable s.settings.tieEnable
  | .preference => t.changePreference s.settings.preference
  | .attentionMode => t.changeMode s.settings.attentionMode
  | .reclaim => if x.overwrite == s.settings.overwrite then t else t.reclaimTestRunning
  | _ => t

/-- Whether a value disables an enabled account that cannot be closed now (R108, R179 (6)). -/
def State.disableRefused (s : State) (i : SettingId) (x : Settings) : Bool :=
  match i with
  | .enabled a => s.isEnabled a && !x.enabled.get a && s.disableBlocked
  | _ => false

/-- A store write of one setting's value (R179, R181). -/
def State.persistSetting (s : State) (i : SettingId) (value : List Byte) : State :=
  s.writeImage fun im => { im with settings := (i.write value im.settings).getD im.settings }

/-- SET (R179). -/
def State.setSetting (s : State) (body : List Byte) : Answer :=
  let persist := (byteAt body 2).getLsbD 0
  let value := body.drop 4
  match readId (field body 0 2) with
  | none => s.refuse .range
  | some i =>
    if value.length ≠ i.size value then s.refuse .length
    else if i.badBits value then s.refuse .field
    else
      match i.write value s.settings with
      | none => s.refuse .range
      | some x =>
        if persist && s.storeBusy then s.refuse .busy
        else if s.disableRefused i x then s.refuse .busy
        else
          let t := s.applySetting i x
          (if persist then t.persistSetting i value else t).doneNow

/-- GET (R180). -/
def State.getSetting (s : State) (body : List Byte) : Answer :=
  match readId (field body 0 2) with
  | none => s.refuse .range
  | some i => ⟨.done, leBytes 2 (field body 0 2) ++ i.bytes s.settings ++ i.bytes s.storedImage.settings, s⟩

end Sys2Proof.Machine
end

