-- ==== Sys2Proof/Machine/Supervisor.lean ====
section
/-! DEFINITION. The supervisor (11.2, 11.3): the power-on start, the scan's end, the entry into RUNNING, the power-fail
path, DORMANT, the restart path and the reset line. -/

namespace Sys2Proof.Machine

/-! ### The power-on start (R183) -/

/-- The collected mark of the two copies: the higher of the valid ones, 0 for none (R127). -/
def NonVolatile.mark (nv : NonVolatile) : Nat := max ((nv.marks.get 0).getD 0) ((nv.marks.get 1).getD 0)

/-- The plan table of a stored image: its slots, marked stored (R36). -/
def Image.slots (i : Image) : Table (Option PlanSlot) 8 := i.plans.each fun _ c => c.map fun x => ⟨x, true⟩

/-- The state in which the power-on start has just begun (R183 (1), (2)): every volatile value at its start value, the
settings loaded; the command queue, the warning pin, the non-volatile memories and the draws stay. -/
def State.loaded (s : State) : State :=
  let image := s.storedImage
  { State.reset with
    pending := s.pending
    warning := s.warning
    nv := s.nv
    draws := s.draws
    settings := image.settings
    selector := { Selector.initial with slots := image.slots }
    accounts := Table.make fun a => Account.initial (image.limits.get a) (image.settings.orderMask.get a)
    clock := ⟨0, 0, 0, image.settings.intervalLength, none, false, false, false⟩
    archive := { Archive.initial with mark := s.nv.mark, pins := image.pins }
    tie := Tie.initial image.settings.tieEnable
    notices := Notices.initial }

/-- The power-on start: the latched-low conditions are those present (R178), and a defaulted image latches
SETTINGS_DEFAULTED (R182). -/
def State.powerOnStart (s : State) : State := s.loaded.recordLows.latchIf s.nv.image.isNone .settingsDefaulted

/-! ### The scan's findings and the entry into RUNNING (R183 (3), (4)) -/

/-- The residues of the eight main accumulators restored from a record's carries (R68). -/
def Account.restore (acc : Account) (bs : List Byte) : Account :=
  let carry (x : Acc) (i : Nat) : Acc := { x with residue := recCarry bs i }
  { acc with mains :=
      { imp := carry acc.mains.imp 0, exp := carry acc.mains.exp 1, q1 := carry acc.mains.q1 2, q2 := carry acc.mains.q2 3
        q3 := carry acc.mains.q3 4, q4 := carry acc.mains.q4 5, habs := carry acc.mains.habs 6
        hemi := carry acc.mains.hemi 7 } }

/-- The interval index a start begins with: the highest archived one plus 1, or 0 (R111). -/
def State.startIndex (s : State) : Nat :=
  match s.highestIndex with
  | none => 0
  | some i => min Config.max32 (i + 1)

/-- What the account engine takes of the scan's findings (R68, R91): each account's carries from its latest record, and its
period-start stamp. -/
def State.foundAccounts (s : State) : Table Account 16 :=
  s.accounts.each fun a acc =>
    let acc := match s.latestRecord a with | some bs => acc.restore bs | none => acc
    { acc with stamp := ⟨s.startIndex, 0, 0⟩ }

/-- The scan's findings handed to the account engine and the tie link at the scan's end, with or without the warning (R68,
R91, R137, R156, R183 (3)). -/
def State.handFindings (s : State) : State :=
  { s with accounts := s.foundAccounts, tie := { s.tie with lastPair := s.greatestPair } }

/-- The numbering and the flags with which each account begins the first interval (R111). -/
def State.startAccounts (s : State) : Table Account 16 :=
  s.accounts.each fun a acc =>
    { acc with
      recordIndex := s.startIndex, part := 0, span := 1
      flags := { IntervalFlags.clear with unaligned := s.isEnabled a } }

/-- The interval clock takes its start values, and the accounts their numbering with it (R111, R169). -/
def State.startInterval (s : State) : State :=
  { s with
    accounts := s.startAccounts
    clock := { s.clock with index := s.startIndex, part := 0, position := 0 } }

/-- A defaulted image rewritten at the entry into RUNNING (R182). -/
def State.rewriteDefaults (s : State) : State :=
  if s.nv.image.isNone then { s with store := some (.image Image.default) } else s

/-- The supervisor enters RUNNING from STARTING (R183 (4)). -/
def State.enterRunning (s : State) : State :=
  ({ s with op := .running }).startInterval.reclaimTest.rewriteDefaults

/-- SCAN_END (R136, R137, R183 (3), (4)). DESIGN CHOICE: where the warning keeps the part in STARTING, the archive state is
IDLE or STOPPED from here on (R137), and STATE reports it so, not the SCANNING that R169 gives for STARTING (log 73). -/
def State.scanEnd (failed : List (Fin 256)) (s : State) : State :=
  if s.op == .starting && s.archive.state == .scanning then
    let s1 := (s.endScan failed).handFindings
    if s1.warning then s1 else s1.enterRunning
  else s

/-- The meaning of SCAN_END. -/
def execScanEnd (failed : List (Fin 256)) (s : State) : Host.Outcome State Fault Refusal :=
  .next (s.whenAlive (State.scanEnd failed))

/-! ### The reset line and supply (R135, R181, R186) -/

/-- A clear's second mark write is the store write under way: a stop between the marks finds it not yet begun (R131). -/
def State.secondMark (s : State) : Bool := s.archive.clear == .marking 1

/-- A store write cut off: the image fails its check, or the mark copy does (R181). Between the two mark writes of a clear
none is cut off, and the copy not yet written keeps the older mark (R131). -/
def State.cutStore (s : State) (betweenMarks : Bool) : State :=
  match s.store with
  | none => s
  | some (.image _) => { s with nv := { s.nv with image := none } }
  | some (.mark _ copy) =>
    if betweenMarks && s.secondMark then s else { s with nv := { s.nv with marks := s.nv.marks.put copy none } }

/-- Everything stopped, every volatile value lost (R186): the line and the supply are then as they were. -/
def State.lose (s : State) (cut : WriteCut) : State :=
  let s1 := (s.cutArchive cut.programmed cut.headerCut).cutStore cut.betweenMarks
  { State.reset with
    pending := s.pending, resetLine := s.resetLine, unpowered := s.unpowered, warning := s.warning, draws := s.draws
    nv := s1.nv }

/-- The cause of a stop noted: the level of the reset line, or the absence of supply (R186). -/
def State.stoppedBy (s : State) : StopCause → State
  | .line => { s with resetLine := true }
  | .supply => { s with unpowered := true }

/-- RESET_ASSERT (R186): a part that is stopped already loses nothing more. -/
def State.resetAssert (cause : StopCause) (cut : WriteCut) (s : State) : State :=
  (if s.stopped then s else s.lose cut).stoppedBy cause

/-- The power-on start once nothing stops the part any longer (R183, R186). -/
def State.startUnlessStopped (s : State) : State := if s.stopped then s else s.powerOnStart

/-- RESET_RELEASE (R186): the start begins where supply is present. -/
def State.resetRelease (s : State) : State :=
  if s.resetLine then ({ s with resetLine := false }).startUnlessStopped else s

/-- POWER_ON (R183): the start begins unless the reset line is asserted (R186). Of a part with supply, supply was lost
before (log 8). -/
def State.powerOn (s : State) : State :=
  ({ s.resetAssert .supply ⟨0, false, false⟩ with unpowered := false }).startUnlessStopped

/-- The meaning of RESET_ASSERT. -/
def execResetAssert (cause : StopCause) (cut : WriteCut) (s : State) : Host.Outcome State Fault Refusal :=
  .next (s.resetAssert cause cut)

/-- The meaning of RESET_RELEASE. -/
def execResetRelease (s : State) : Host.Outcome State Fault Refusal := .next s.resetRelease

/-- The meaning of POWER_ON. -/
def execPowerOn (s : State) : Host.Outcome State Fault Refusal := .next s.powerOn

/-! ### The power-fail path (R138, R184) -/

/-- A running reclaim erase suspended, unless the writer needs its segment (R138). -/
def State.suspendErase (s : State) : State :=
  (s.onArchive fun a => if a.state == .reclaiming then { a with state := .suspended } else a).settleErase

/-- The reason of the partial close that begins a path (R184, R185). -/
def Path.reason : Path → CloseReason
  | .powerFail => .powerFail
  | .restart => .restart

/-- A PAIRED_PRIMARY unit that enters the restart path has a CLOSE page open (R185 (3)). -/
def State.openRestartPage (s : State) (p : Path) : State :=
  s.onTie fun t => { t with restartOpen := t.restartOpen || (p == .restart && t.state == .pairedPrimary) }

/-- CLOSING entered on a path, every enabled account closed as PARTIAL (R107, R184, R185). -/
def State.enterClosing (s : State) (p : Path) : State :=
  let s1 := ({ s with op := .closing, path := some p }).openRestartPage p
  (s1.partialClose s1.enabledAccounts .localPartial p.reason).suspendErase

/-- The level of the warning pin. -/
def State.setWarning (s : State) (b : Bool) : State := { s with warning := b }

/-- POWER_FAIL_ASSERT in RUNNING (R184). -/
def State.powerFail (s : State) : State := if s.op == .running then s.enterClosing .powerFail else s

/-- Whether the writer waits, and no running erase will end its wait: held, STOPPED, or for a segment it may not take
(R184 (2), log 28). -/
def State.writerWaits (s : State) : Bool :=
  s.archive.state == .stopped ||
    (s.writerFree &&
      match s.oldest with
      | none => false
      | some bs =>
        !s.fits bs.length &&
          match s.nextSegment with
          | none => true
          | some g => (s.seg g).marker == .full && (s.archive.erase.isSome || !s.reclaimAllowed g))

/-- The drain has ended (R184 (1), (2)). -/
def State.drained (s : State) : Bool := !s.archive.writing && (s.queue.isEmpty || s.writerWaits)

/-- ENTER_DORMANT where the drain has ended on the power-fail path (R184). -/
def State.enterDormant (s : State) : State :=
  if s.op == .closing && s.path == some .powerFail && s.drained then { s with op := .dormant } else s

/-- The return to RUNNING: a suspended erase resumes, the reclaim test is made (R138, R184). -/
def State.returnRunning (s : State) : State :=
  ({ s with op := .running, path := none }).resumeErase.reclaimTest

/-- POWER_FAIL_RELEASE: back to RUNNING on the power-fail path; into RUNNING from STARTING when the scan has ended
(R183 (4), R184). -/
def State.powerFailRelease (s : State) : State :=
  if s.closing && s.path == some .powerFail then s.returnRunning
  else if s.op == .starting && s.archive.state != .scanning then s.enterRunning
  else s

/-- The meaning of POWER_FAIL_ASSERT. -/
def execPowerFailAssert (s : State) : Host.Outcome State Fault Refusal :=
  .next ((s.setWarning true).whenAlive State.powerFail)

/-- The meaning of ENTER_DORMANT. -/
def execEnterDormant (s : State) : Host.Outcome State Fault Refusal := .next (s.whenAlive State.enterDormant)

/-- The meaning of POWER_FAIL_RELEASE. -/
def execPowerFailRelease (s : State) : Host.Outcome State Fault Refusal :=
  .next ((s.setWarning false).whenAlive State.powerFailRelease)

/-! ### The restart path (R171, R185) -/

/-- Whether the restart path has ended (R185): a CLOSE page of the restart close that a later close replaced is never
acknowledged, and the path then ends when the link leaves PAIRED_PRIMARY (log 26). -/
def State.restartEnded (s : State) : Bool :=
  s.op == .closing && s.path == some .restart && s.drained && !s.storeBusy && !s.tie.restartOpen

/-- RESTART_PATH_END: the power-on start begins; a reply going out is finished, then both places are freed (R171, R185). -/
def State.restartEnd (s : State) : State :=
  if s.restartEnded then
    { s.powerOnStart with msg := if s.msg.reply.isSome then { s.msg with abandon := true } else ⟨[], none, false⟩ }
  else s

/-- The meaning of RESTART_PATH_END. -/
def execRestartPathEnd (s : State) : Host.Outcome State Fault Refusal := .next (s.whenAlive State.restartEnd)

end Sys2Proof.Machine
end

