-- ==== Sys2Proof/Machine/MessageLink.lean ====
section
/-! DEFINITION. The message link (09): frames, the receive buffer, dispatch, the tests at dispatch, IDENT, STATE, and the
notice unit's requests. -/

namespace Sys2Proof.Machine

/-! ### IDENT and STATE (9.6, 9.7) -/

/-- The IDENT reply body (R167). -/
def identBody : List Byte :=
  leBytes 2 0x0840 ++ byte 1 ++ leBytes 2 32000 ++ byte 30 ++ byte 4 ++ byte 2 ++ byte 8 ++ byte 2 ++ byte 40 ++
  byte 16 ++ byte 8 ++ byte 32 ++ byte 4 ++ byte 48 ++ byte 32 ++ leBytes 2 256 ++ leBytes 2 32768 ++ byte 4 ++
  leBytes 2 1024 ++ byte 2

/-- IDENT (R167). -/
def State.ident (s : State) : Answer := ⟨.done, identBody, s⟩

/-- The 7 bytes of a tracker (R168). -/
def State.trackerBytes (s : State) (v : Fin 2) : List Byte :=
  let t := s.trackers.get v
  byte t.state.code ++ leBytes 4 (s.trackedFreq v) ++ byte t.holdover ++
  (match t.ref with | some p => byte p.val | none => [0xFF])

/-- A segment number, 0xFFFF for none (R168). -/
def segmentBytes : Option (Fin 256) → List Byte
  | some g => leBytes 2 g.val
  | none => leBytes 2 0xFFFF

/-- The STATE reply body (R168, R169). DESIGN CHOICE: in STARTING the archive state item reads SCANNING until the scan has
ended, and IDLE or STOPPED after it (R137, log 73). -/
def State.stateBody (s : State) : List Byte :=
  let scanning := s.archive.state == .scanning
  byte s.op.code ++ s.trackerBytes 0 ++ s.trackerBytes 1 ++
  byte (bitsOf ((List.finRange 4).map fun l => (s.lanes.get l).up)) ++
  [s.selector.word.getD 0] ++ boolByte s.selector.word.isSome ++
  planByte s.selector.active ++ planByte s.selector.pendingPlan ++
  byte (bitsOf [s.selector.replacement, s.selector.unmatched]) ++
  byte s.tie.state.code ++ byte s.archive.state.code ++ byte s.archive.error.code ++ boolByte s.archive.heldInd ++
  byte s.queue.length ++ leBytes 4 s.clock.index ++ byte s.clock.part ++ leBytes 4 s.clock.position ++
  boolByte s.clock.aligned ++ leBytes 4 s.archive.mark ++
  segmentBytes (if scanning then none else s.archive.head) ++ segmentBytes (if scanning then none else s.tail) ++
  leBytes 2 (if scanning then 0 else s.erasedCount) ++ boolByte s.storeBusy

/-- STATE (R168). -/
def State.stateRequest (s : State) : Answer := ⟨.done, s.stateBody, s⟩

/-! ### The notice unit's requests (R176) -/

/-- NOTICE_TAKE (R176). -/
def State.noticeTake (s : State) : Answer := ⟨.done, s.notices.takeBody, s.clearNotices⟩

/-- NOTICE_RAISE (R176). -/
def State.noticeRaise (s : State) : Answer := (s.latch .test).doneNow

/-! ### Request kinds (9.3) -/

/-- The request kinds of the table of 9.3. -/
inductive Kind where
  | ident | stateRequest | errorClear | setSetting | getSetting
  | planOpen | planAdd | planConfirm | planDrop | planClear | planGet
  | limitLoad | limitGet | accountRead | peakSwap | snapshot
  | archiveRead | archiveMore | archiveCollected | pinAdd | pinRemove | archiveClear
  | align | closeNow | tieStatus | noticeTake | noticeRaise | restart
  deriving DecidableEq, Repr

/-- The code of a request kind (9.3). -/
def Kind.code : Kind → Byte
  | .ident => 0x01
  | .stateRequest => 0x02
  | .errorClear => 0x03
  | .setSetting => 0x10
  | .getSetting => 0x11
  | .planOpen => 0x20
  | .planAdd => 0x21
  | .planConfirm => 0x22
  | .planDrop => 0x23
  | .planClear => 0x24
  | .planGet => 0x25
  | .limitLoad => 0x30
  | .limitGet => 0x31
  | .accountRead => 0x40
  | .peakSwap => 0x41
  | .snapshot => 0x42
  | .archiveRead => 0x50
  | .archiveMore => 0x51
  | .archiveCollected => 0x52
  | .pinAdd => 0x53
  | .pinRemove => 0x54
  | .archiveClear => 0x55
  | .align => 0x60
  | .closeNow => 0x61
  | .tieStatus => 0x62
  | .noticeTake => 0x70
  | .noticeRaise => 0x71
  | .restart => 0x7F

/-- The kinds of the table of 9.3. -/
def Kind.all : List Kind :=
  [.ident, .stateRequest, .errorClear, .setSetting, .getSetting, .planOpen, .planAdd, .planConfirm, .planDrop,
   .planClear, .planGet, .limitLoad, .limitGet, .accountRead, .peakSwap, .snapshot, .archiveRead, .archiveMore,
   .archiveCollected, .pinAdd, .pinRemove, .archiveClear, .align, .closeNow, .tieStatus, .noticeTake, .noticeRaise,
   .restart]

/-- The request kind of a code, if the table has one. -/
def readKind (code : Byte) : Option Kind := Kind.all.find? fun k => k.code == code

/-- Whether a body's length is one the link lets through (R165): a fixed length, or at least the fixed part. -/
def Kind.lengthOk (k : Kind) (n : Nat) : Bool :=
  match k with
  | .ident | .stateRequest | .errorClear | .planDrop | .archiveMore | .archiveClear | .closeNow | .tieStatus
  | .noticeTake | .noticeRaise | .restart => n == 0
  | .planOpen | .planClear | .planGet | .limitGet | .pinRemove => n == 1
  | .getSetting => n == 2
  | .archiveCollected => n == 4
  | .planConfirm => n == 5
  | .peakSwap => n == 6
  | .accountRead | .archiveRead => n == 7
  | .pinAdd | .align => n == 8
  | .snapshot => n == 10
  | .setSetting => decide (4 ≤ n)
  | .planAdd => decide (1 ≤ n)
  | .limitLoad => decide (8 ≤ n)

/-- Whether bits 1 to 7 of a flags byte are zero. -/
def flagsOk (b : Byte) : Bool := b &&& 0xFE == 0

/-- Whether the reserved fields of a body are zero (9.3, R164 (4), R166). -/
def Kind.reservedOk (k : Kind) (body : List Byte) : Bool :=
  match k with
  | .setSetting => flagsOk (byteAt body 2) && byteAt body 3 == 0
  | .planConfirm => flagsOk (byteAt body 4) && (byteAt body 2 != 0 || byteAt body 3 == 0)
  | .limitLoad => flagsOk (byteAt body 3) && field body 4 4 == 0
  | _ => true

/-- Whether a kind is served outside RUNNING (R164 (2)). -/
def Kind.always : Kind → Bool
  | .ident | .stateRequest | .noticeTake => true
  | _ => false

/-- The request taken by its owning block (9.3, R163). -/
def State.owner (s : State) (k : Kind) (body : List Byte) : Answer :=
  match k with
  | .ident => s.ident
  | .stateRequest => s.stateRequest
  | .errorClear => s.errorClear
  | .setSetting => s.setSetting body
  | .getSetting => s.getSetting body
  | .planOpen => s.planOpen body
  | .planAdd => s.planAdd body
  | .planConfirm => s.planConfirm body
  | .planDrop => s.planDrop
  | .planClear => s.planClear body
  | .planGet => s.planGet body
  | .limitLoad => s.limitLoad body
  | .limitGet => s.limitGet body
  | .accountRead => s.accountRead body
  | .peakSwap => s.peakSwap body
  | .snapshot => ⟨(s.snapshot body).1, (s.snapshot body).2, s⟩
  | .archiveRead => s.archiveRead body
  | .archiveMore => s.archiveMore
  | .archiveCollected => s.archiveCollected body
  | .pinAdd => s.pinAdd body
  | .pinRemove => s.pinRemove body
  | .archiveClear => s.archiveClear
  | .align => s.align body
  | .closeNow => s.closeNow
  | .tieStatus => s.tieStatus
  | .noticeTake => s.noticeTake
  | .noticeRaise => s.noticeRaise
  | .restart => s.doneNow

/-- A request of the table answered: the tests at dispatch, then its owner (R164, R165). -/
def State.answerKind (s : State) (k : Kind) (body : List Byte) : Answer :=
  if s.op != .running && !k.always then s.refuse .busy
  else if !k.lengthOk body.length then s.refuse .length
  else if !k.reservedOk body then s.refuse .field
  else s.owner k body

/-- A frame answered at its dispatch (R164). -/
def State.answer (s : State) (f : HostFrame) : Answer :=
  match readKind f.kind with
  | none => s.refuse .unknownKind
  | some k => s.answerKind k f.body

/-! ### The receive buffer and dispatch (R162, R163) -/

/-- The reply to a frame (R163). -/
def replyTo (f : HostFrame) (x : Answer) : Reply :=
  ⟨f.kind + 0x80, f.tag, x.status, x.body, f.kind == Kind.restart.code && x.status == .done⟩

/-- The link's reply set. -/
def State.setReply (s : State) (r : Option Reply) : State := { s with msg := { s.msg with reply := r } }

/-- The oldest held frame dispatched when no reply is being formed or sent (R163). -/
def State.dispatch (s : State) : State :=
  match s.msg.reply, s.msg.places with
  | none, f :: _ => (s.answer f).after.setReply (some (replyTo f (s.answer f)))
  | _, _ => s

/-- A good request frame completes (R162): placed and dispatched when its turn has come, or dropped as an overrun. -/
def State.frameArrives (s : State) (f : HostFrame) : State :=
  if s.msg.places.length < 2 then
    State.dispatch { s with msg := { s.msg with places := s.msg.places ++ [f] } }
  else s.countOverrun

/-- A host request of a kind, with its tag and body (R159 to R166, log 6). -/
def State.request (s : State) (k : Kind) (tag : Byte) (body : List Byte) : State := s.frameArrives ⟨k.code, tag, body⟩

/-- A good frame of any kind: a reply kind is discarded and counted (R161). -/
def State.goodFrame (s : State) (f : HostFrame) : State :=
  if f.kind.msb then s.countDiscarded else s.frameArrives f

/-- HOST_FRAME_COMPLETE (R159 to R163). -/
def State.frameComplete (bytes : List Byte) (s : State) : State :=
  let f := huntFrame bytes
  if !frameWhole f then s
  else if crcOk f then s.goodFrame ⟨byteAt f 4, byteAt f 5, slice f 6 (field f 2 2)⟩
  else s.countDiscarded

/-- HOST_FRAME_OVERLENGTH (R160 (1)). -/
def State.frameOverlength (bytes : List Byte) (s : State) : State :=
  if frameOver (huntFrame bytes) then s.countDiscarded else s

/-- HOST_BYTE_GAP_TIMEOUT (R160 (2)). -/
def State.frameGap (bytes : List Byte) (s : State) : State :=
  if framePart (huntFrame bytes) then s.countDiscarded else s

/-- The place of an answered frame freed; after the restart's power-on start, both places (R162, R171). -/
def State.freePlace (s : State) : State :=
  { s with msg := ⟨if s.msg.abandon then [] else s.msg.places.drop 1, none, false⟩ }

/-- REPLY_SENT (R162, R163, R171). -/
def State.replySent (s : State) : State :=
  match s.msg.reply with
  | none => s
  | some r => ((if r.restart && !s.msg.abandon then s.enterClosing .restart else s).freePlace).dispatch

/-- ATTENTION_PULSE_END (R177). -/
def State.pulseEnd (s : State) : State := { s with notices := { s.notices with pulse := false } }

/-! ### The commands of the link -/

/-- The meaning of HOST_FRAME_COMPLETE. -/
def execHostFrameComplete (bytes : List Byte) (s : State) : Host.Outcome State Fault Refusal :=
  .next (s.whenAlive (State.frameComplete bytes))

/-- The meaning of HOST_FRAME_OVERLENGTH. -/
def execHostFrameOverlength (bytes : List Byte) (s : State) : Host.Outcome State Fault Refusal :=
  .next (s.whenAlive (State.frameOverlength bytes))

/-- The meaning of HOST_BYTE_GAP_TIMEOUT. -/
def execHostByteGapTimeout (bytes : List Byte) (s : State) : Host.Outcome State Fault Refusal :=
  .next (s.whenAlive (State.frameGap bytes))

/-- The meaning of REPLY_SENT. -/
def execReplySent (s : State) : Host.Outcome State Fault Refusal := .next (s.whenAlive State.replySent)

/-- The meaning of UNKNOWN_KIND. -/
def execUnknownKind (kind tag : Byte) (body : List Byte) (s : State) : Host.Outcome State Fault Refusal :=
  .next (s.whenAlive fun u => u.goodFrame ⟨kind, tag, body⟩)

/-- The meaning of ATTENTION_PULSE_END. -/
def execAttentionPulseEnd (s : State) : Host.Outcome State Fault Refusal := .next (s.whenAlive State.pulseEnd)

end Sys2Proof.Machine
end

