-- ==== Sys2Proof/Machine/Requests.lean ====
section
/-! DEFINITION. The host requests as commands: a good request frame of the kind completes with its tag and body, and is
placed, dispatched and answered by chapter 9 and its owner's rule (log 6). -/

namespace Sys2Proof.Machine

/-- The meaning of SNAPSHOT (R32, R33). -/
def execSnapshot (tag : Byte) (body : List Byte) (s : State) : Host.Outcome State Fault Refusal :=
  .next (s.whenAlive fun u => u.request .snapshot tag body)

/-- The meaning of PLAN_OPEN (R44). -/
def execPlanOpen (tag : Byte) (body : List Byte) (s : State) : Host.Outcome State Fault Refusal :=
  .next (s.whenAlive fun u => u.request .planOpen tag body)

/-- The meaning of PLAN_ADD (R45). -/
def execPlanAdd (tag : Byte) (body : List Byte) (s : State) : Host.Outcome State Fault Refusal :=
  .next (s.whenAlive fun u => u.request .planAdd tag body)

/-- The meaning of PLAN_CONFIRM (R46). -/
def execPlanConfirm (tag : Byte) (body : List Byte) (s : State) : Host.Outcome State Fault Refusal :=
  .next (s.whenAlive fun u => u.request .planConfirm tag body)

/-- The meaning of PLAN_DROP (R47). -/
def execPlanDrop (tag : Byte) (body : List Byte) (s : State) : Host.Outcome State Fault Refusal :=
  .next (s.whenAlive fun u => u.request .planDrop tag body)

/-- The meaning of PLAN_CLEAR (R48). -/
def execPlanClear (tag : Byte) (body : List Byte) (s : State) : Host.Outcome State Fault Refusal :=
  .next (s.whenAlive fun u => u.request .planClear tag body)

/-- The meaning of PLAN_GET (R49). -/
def execPlanGet (tag : Byte) (body : List Byte) (s : State) : Host.Outcome State Fault Refusal :=
  .next (s.whenAlive fun u => u.request .planGet tag body)

/-- The meaning of ACCOUNT_READ (R76). -/
def execAccountRead (tag : Byte) (body : List Byte) (s : State) : Host.Outcome State Fault Refusal :=
  .next (s.whenAlive fun u => u.request .accountRead tag body)

/-- The meaning of LIMIT_LOAD (R82). -/
def execLimitLoad (tag : Byte) (body : List Byte) (s : State) : Host.Outcome State Fault Refusal :=
  .next (s.whenAlive fun u => u.request .limitLoad tag body)

/-- The meaning of LIMIT_GET (R84). -/
def execLimitGet (tag : Byte) (body : List Byte) (s : State) : Host.Outcome State Fault Refusal :=
  .next (s.whenAlive fun u => u.request .limitGet tag body)

/-- The meaning of PEAK_SWAP (R92). -/
def execPeakSwap (tag : Byte) (body : List Byte) (s : State) : Host.Outcome State Fault Refusal :=
  .next (s.whenAlive fun u => u.request .peakSwap tag body)

/-- The meaning of ALIGN (R101). -/
def execAlign (tag : Byte) (body : List Byte) (s : State) : Host.Outcome State Fault Refusal :=
  .next (s.whenAlive fun u => u.request .align tag body)

/-- The meaning of CLOSE_NOW (R102). -/
def execCloseNow (tag : Byte) (body : List Byte) (s : State) : Host.Outcome State Fault Refusal :=
  .next (s.whenAlive fun u => u.request .closeNow tag body)

/-- The meaning of ERROR_CLEAR (R126). -/
def execErrorClear (tag : Byte) (body : List Byte) (s : State) : Host.Outcome State Fault Refusal :=
  .next (s.whenAlive fun u => u.request .errorClear tag body)

/-- The meaning of ARCHIVE_COLLECTED (R127). -/
def execArchiveCollected (tag : Byte) (body : List Byte) (s : State) : Host.Outcome State Fault Refusal :=
  .next (s.whenAlive fun u => u.request .archiveCollected tag body)

/-- The meaning of PIN_ADD (R128). -/
def execPinAdd (tag : Byte) (body : List Byte) (s : State) : Host.Outcome State Fault Refusal :=
  .next (s.whenAlive fun u => u.request .pinAdd tag body)

/-- The meaning of PIN_REMOVE (R129). -/
def execPinRemove (tag : Byte) (body : List Byte) (s : State) : Host.Outcome State Fault Refusal :=
  .next (s.whenAlive fun u => u.request .pinRemove tag body)

/-- The meaning of ARCHIVE_CLEAR (R130). -/
def execArchiveClear (tag : Byte) (body : List Byte) (s : State) : Host.Outcome State Fault Refusal :=
  .next (s.whenAlive fun u => u.request .archiveClear tag body)

/-- The meaning of ARCHIVE_READ (R132). -/
def execArchiveRead (tag : Byte) (body : List Byte) (s : State) : Host.Outcome State Fault Refusal :=
  .next (s.whenAlive fun u => u.request .archiveRead tag body)

/-- The meaning of ARCHIVE_MORE (R133). -/
def execArchiveMore (tag : Byte) (body : List Byte) (s : State) : Host.Outcome State Fault Refusal :=
  .next (s.whenAlive fun u => u.request .archiveMore tag body)

/-- The meaning of TIE_STATUS (R157). -/
def execTieStatus (tag : Byte) (body : List Byte) (s : State) : Host.Outcome State Fault Refusal :=
  .next (s.whenAlive fun u => u.request .tieStatus tag body)

/-- The meaning of IDENT (R167). -/
def execIdent (tag : Byte) (body : List Byte) (s : State) : Host.Outcome State Fault Refusal :=
  .next (s.whenAlive fun u => u.request .ident tag body)

/-- The meaning of STATE (R168). -/
def execStateRequest (tag : Byte) (body : List Byte) (s : State) : Host.Outcome State Fault Refusal :=
  .next (s.whenAlive fun u => u.request .stateRequest tag body)

/-- The meaning of NOTICE_TAKE (R176). -/
def execNoticeTake (tag : Byte) (body : List Byte) (s : State) : Host.Outcome State Fault Refusal :=
  .next (s.whenAlive fun u => u.request .noticeTake tag body)

/-- The meaning of NOTICE_RAISE (R176). -/
def execNoticeRaise (tag : Byte) (body : List Byte) (s : State) : Host.Outcome State Fault Refusal :=
  .next (s.whenAlive fun u => u.request .noticeRaise tag body)

/-- The meaning of SET (R179). -/
def execSetSetting (tag : Byte) (body : List Byte) (s : State) : Host.Outcome State Fault Refusal :=
  .next (s.whenAlive fun u => u.request .setSetting tag body)

/-- The meaning of GET (R180). -/
def execGetSetting (tag : Byte) (body : List Byte) (s : State) : Host.Outcome State Fault Refusal :=
  .next (s.whenAlive fun u => u.request .getSetting tag body)

/-- The meaning of RESTART (R171, R185). -/
def execRestart (tag : Byte) (body : List Byte) (s : State) : Host.Outcome State Fault Refusal :=
  .next (s.whenAlive fun u => u.request .restart tag body)

end Sys2Proof.Machine
end

