-- ==== Sys2Proof/Machine/Dispatch.lean ====
section
/-! DEFINITION. One arm per command. -/

namespace Sys2Proof.Machine

/-- The effect of a command on everything but the queue. -/
def exec (i : Instr) (s : State) : Host.Outcome State Fault Refusal :=
  match i with
  | .powerOn => Sys2Proof.Machine.execPowerOn s
  | .resetAssert cause cut => Sys2Proof.Machine.execResetAssert cause cut s
  | .resetRelease => Sys2Proof.Machine.execResetRelease s
  | .scanEnd failed => Sys2Proof.Machine.execScanEnd failed s
  | .laneFrameComplete lane bytes => Sys2Proof.Machine.execLaneFrameComplete lane bytes s
  | .laneFrameTimeout lane => Sys2Proof.Machine.execLaneFrameTimeout lane s
  | .rawSampleInstant => Sys2Proof.Machine.execRawSampleInstant s
  | .laneEnterDown lane => Sys2Proof.Machine.execLaneEnterDown lane s
  | .laneEnterUp lane => Sys2Proof.Machine.execLaneEnterUp lane s
  | .cycleAbandon vset => Sys2Proof.Machine.execCycleAbandon vset s
  | .presenceRunEnd vset => Sys2Proof.Machine.execPresenceRunEnd vset s
  | .trackerEnterFreeRun vset => Sys2Proof.Machine.execTrackerEnterFreeRun vset s
  | .windowComplete timebase => Sys2Proof.Machine.execWindowComplete timebase s
  | .snapshot tag body => Sys2Proof.Machine.execSnapshot tag body s
  | .switchSample levels => Sys2Proof.Machine.execSwitchSample levels s
  | .debounceComplete input => Sys2Proof.Machine.execDebounceComplete input s
  | .firstSwitchWord => Sys2Proof.Machine.execFirstSwitchWord s
  | .planOpen tag body => Sys2Proof.Machine.execPlanOpen tag body s
  | .planAdd tag body => Sys2Proof.Machine.execPlanAdd tag body s
  | .planConfirm tag body => Sys2Proof.Machine.execPlanConfirm tag body s
  | .planDrop tag body => Sys2Proof.Machine.execPlanDrop tag body s
  | .planClear tag body => Sys2Proof.Machine.execPlanClear tag body s
  | .planGet tag body => Sys2Proof.Machine.execPlanGet tag body s
  | .accountRead tag body => Sys2Proof.Machine.execAccountRead tag body s
  | .limitLoad tag body => Sys2Proof.Machine.execLimitLoad tag body s
  | .limitGet tag body => Sys2Proof.Machine.execLimitGet tag body s
  | .peakSwap tag body => Sys2Proof.Machine.execPeakSwap tag body s
  | .clockMadeClose => Sys2Proof.Machine.execClockMadeClose s
  | .syncPulse => Sys2Proof.Machine.execSyncPulse s
  | .lateAllowanceExpire => Sys2Proof.Machine.execLateAllowanceExpire s
  | .align tag body => Sys2Proof.Machine.execAlign tag body s
  | .closeNow tag body => Sys2Proof.Machine.execCloseNow tag body s
  | .writerTakeRecord headerOk => Sys2Proof.Machine.execWriterTakeRecord headerOk s
  | .recordWriteComplete bad headerOk => Sys2Proof.Machine.execRecordWriteComplete bad headerOk s
  | .eraseComplete blank headerOk => Sys2Proof.Machine.execEraseComplete blank headerOk s
  | .errorClear tag body => Sys2Proof.Machine.execErrorClear tag body s
  | .archiveCollected tag body => Sys2Proof.Machine.execArchiveCollected tag body s
  | .pinAdd tag body => Sys2Proof.Machine.execPinAdd tag body s
  | .pinRemove tag body => Sys2Proof.Machine.execPinRemove tag body s
  | .archiveClear tag body => Sys2Proof.Machine.execArchiveClear tag body s
  | .archiveRead tag body => Sys2Proof.Machine.execArchiveRead tag body s
  | .archiveMore tag body => Sys2Proof.Machine.execArchiveMore tag body s
  | .tiePageArrive bytes => Sys2Proof.Machine.execTiePageArrive bytes s
  | .tiePageOverlength bytes => Sys2Proof.Machine.execTiePageOverlength bytes s
  | .tieByteGapTimeout bytes => Sys2Proof.Machine.execTieByteGapTimeout bytes s
  | .tieResendTimer => Sys2Proof.Machine.execTieResendTimer s
  | .idlePageSend => Sys2Proof.Machine.execIdlePageSend s
  | .silenceTimeout => Sys2Proof.Machine.execSilenceTimeout s
  | .roleAttemptTimeout => Sys2Proof.Machine.execRoleAttemptTimeout s
  | .tieStatus tag body => Sys2Proof.Machine.execTieStatus tag body s
  | .hostFrameComplete bytes => Sys2Proof.Machine.execHostFrameComplete bytes s
  | .hostFrameOverlength bytes => Sys2Proof.Machine.execHostFrameOverlength bytes s
  | .hostByteGapTimeout bytes => Sys2Proof.Machine.execHostByteGapTimeout bytes s
  | .replySent => Sys2Proof.Machine.execReplySent s
  | .unknownKind kind tag body => Sys2Proof.Machine.execUnknownKind kind tag body s
  | .ident tag body => Sys2Proof.Machine.execIdent tag body s
  | .stateRequest tag body => Sys2Proof.Machine.execStateRequest tag body s
  | .noticeTake tag body => Sys2Proof.Machine.execNoticeTake tag body s
  | .noticeRaise tag body => Sys2Proof.Machine.execNoticeRaise tag body s
  | .attentionPulseEnd => Sys2Proof.Machine.execAttentionPulseEnd s
  | .setSetting tag body => Sys2Proof.Machine.execSetSetting tag body s
  | .getSetting tag body => Sys2Proof.Machine.execGetSetting tag body s
  | .storeWriteComplete => Sys2Proof.Machine.execStoreWriteComplete s
  | .powerFailAssert => Sys2Proof.Machine.execPowerFailAssert s
  | .enterDormant => Sys2Proof.Machine.execEnterDormant s
  | .powerFailRelease => Sys2Proof.Machine.execPowerFailRelease s
  | .restart tag body => Sys2Proof.Machine.execRestart tag body s
  | .restartPathEnd => Sys2Proof.Machine.execRestartPathEnd s

end Sys2Proof.Machine
end

