-- ==== Sys2Proof/Safety.lean ====
section
/-! DEFINITION. The terms claims use: the request a command carries, the states in which a request is answered at once, the
state with its reply, the ranges of records and pages, and the invariants. -/

namespace Sys2Proof

open Machine

/-- The request a command carries: kind code, tag and body; none for a command that is no request. -/
def Instr.request : Instr → Option (Byte × Byte × List Byte)
  | .ident tag body => some (0x01, tag, body)
  | .stateRequest tag body => some (0x02, tag, body)
  | .errorClear tag body => some (0x03, tag, body)
  | .setSetting tag body => some (0x10, tag, body)
  | .getSetting tag body => some (0x11, tag, body)
  | .planOpen tag body => some (0x20, tag, body)
  | .planAdd tag body => some (0x21, tag, body)
  | .planConfirm tag body => some (0x22, tag, body)
  | .planDrop tag body => some (0x23, tag, body)
  | .planClear tag body => some (0x24, tag, body)
  | .planGet tag body => some (0x25, tag, body)
  | .limitLoad tag body => some (0x30, tag, body)
  | .limitGet tag body => some (0x31, tag, body)
  | .accountRead tag body => some (0x40, tag, body)
  | .peakSwap tag body => some (0x41, tag, body)
  | .snapshot tag body => some (0x42, tag, body)
  | .archiveRead tag body => some (0x50, tag, body)
  | .archiveMore tag body => some (0x51, tag, body)
  | .archiveCollected tag body => some (0x52, tag, body)
  | .pinAdd tag body => some (0x53, tag, body)
  | .pinRemove tag body => some (0x54, tag, body)
  | .archiveClear tag body => some (0x55, tag, body)
  | .align tag body => some (0x60, tag, body)
  | .closeNow tag body => some (0x61, tag, body)
  | .tieStatus tag body => some (0x62, tag, body)
  | .noticeTake tag body => some (0x70, tag, body)
  | .noticeRaise tag body => some (0x71, tag, body)
  | .restart tag body => some (0x7F, tag, body)
  | .unknownKind kind tag body => some (kind, tag, body)
  | _ => none

namespace Machine

/-! ### Requests that are answered at once -/

/-- The part takes events and its message link holds no frame. -/
def State.free (s : State) : Prop := s.stopped = false ∧ s.msg = ⟨[], none, false⟩

/-- The part is in RUNNING, takes events, and its message link holds no frame. -/
def State.ready (s : State) : Prop := s.free ∧ s.op = .running

/-- `s` with a request held and its reply formed (R162, R163). -/
def State.replied (s : State) (kind tag : Byte) (body : List Byte) (x : Status) (reply : List Byte) : State :=
  { s with msg := ⟨[⟨kind, tag, body⟩], some ⟨kind + 0x80, tag, x, reply, false⟩, false⟩ }

/-- A request frame as it goes over the line (9.1). -/
def requestFrame (kind tag : Byte) (body : List Byte) : List Byte :=
  withCrc ([0xA5, 0x5A] ++ leBytes 2 body.length ++ [kind, tag] ++ body)

/-- A noisy line: bytes passed over while hunting for a frame or page that begins with `start`, then the bytes. -/
def afterNoise (start : Byte) (noise bytes line : List Byte) : Prop := (∀ x ∈ noise, x ≠ start) ∧ line = noise ++ bytes

/-- The request codes with a body of fixed length (the table of 9.3). -/
def fixedLengths : List (Byte × Nat) :=
  [(0x01, 0), (0x02, 0), (0x03, 0), (0x11, 2), (0x20, 1), (0x22, 5), (0x23, 0), (0x24, 1), (0x25, 1), (0x31, 1),
   (0x40, 7), (0x41, 6), (0x42, 10), (0x50, 7), (0x51, 0), (0x52, 4), (0x53, 8), (0x54, 1), (0x55, 0), (0x60, 8),
   (0x61, 0), (0x62, 0), (0x70, 0), (0x71, 0), (0x7F, 0)]

/-- The request codes whose body must hold a fixed part (R165). -/
def fixedParts : List (Byte × Nat) := [(0x10, 4), (0x21, 1), (0x30, 8)]

/-! ### What closes do to accounts (R103, R104, R106, R107) -/

/-- `u` is `acc` reset for the interval that begins (R104): whole counts, interval peaks, exceedance counters, counts and
plans-used mask at 0, span 1, the given numbering, flags and order mask; residues, consecutive counts, period peaks, stamp
and limits kept. -/
def Account.resetTo (acc u : Account) (index part : Nat) (flags : IntervalFlags) (mask : BitVec 39) : Prop :=
  u = { acc with
    mains := ⟨⟨0, acc.mains.imp.residue⟩, ⟨0, acc.mains.exp.residue⟩, ⟨0, acc.mains.q1.residue⟩,
      ⟨0, acc.mains.q2.residue⟩, ⟨0, acc.mains.q3.residue⟩, ⟨0, acc.mains.q4.residue⟩, ⟨0, acc.mains.habs.residue⟩,
      ⟨0, acc.mains.hemi.residue⟩⟩
    absorbed := u.absorbed, emitted := u.emitted
    peaks := Table.all 0, exceed := Table.all 0, windows := 0, degraded := 0, abandoned := 0, plansUsed := 0
    flags := flags, span := 1, recordIndex := index, part := part, maskInForce := mask } ∧
  (∀ i, u.absorbed.get i = ⟨0, (acc.absorbed.get i).residue⟩) ∧ ∀ i, u.emitted.get i = ⟨0, (acc.emitted.get i).residue⟩

/-- The interval flags with which an account begins an interval (R104 (6), R54). -/
def State.startFlags (s : State) (a : Fin 16) (aligned : Bool) : IntervalFlags :=
  ⟨false, false, s.peerMissing a, false, !aligned⟩

/-- The records of `formed` joined the queue in order, each formed from the account as it stood (R103), and the accounts
were left as R104 and R106 or R107 say: those of `formed` reset, the other enabled ones EXTENDED (`advances`: with the span
raised), a disabled one unchanged; CLOSED and INTERVAL_EXTENDED latched accordingly. -/
def State.closed (s t : State) (formed : List (Fin 16)) (cause : CloseCause) (reason : Option CloseReason)
    (index part : Nat) (aligned advances : Bool) : Prop :=
  t.queue = s.queue ++ formed.map (fun a => .interval (s.formRecord a cause reason)) ∧
  (∀ a ∈ formed, (s.accounts.get a).resetTo (t.accounts.get a) index part (s.startFlags a aligned)
    (s.settings.orderMask.get a)) ∧
  (∀ a, s.isEnabled a = true → a ∉ formed → t.accounts.get a =
    { s.accounts.get a with
      flags := { (s.accounts.get a).flags with extended := true }
      span := if advances then min 255 ((s.accounts.get a).span + 1) else (s.accounts.get a).span }) ∧
  (∀ a, s.isEnabled a = false → t.accounts.get a = s.accounts.get a) ∧
  (formed ≠ [] → t.notices.latched.getLsbD 16 = true) ∧
  ((∃ a, s.isEnabled a = true ∧ a ∉ formed) → t.notices.latched.getLsbD 6 = true)

/-- Nothing but the closing itself changed: accounts, queue, clock, notices, tie link and the listed rest aside, the state
is as it was. -/
def State.sameButClose (s t : State) : Prop :=
  { t with accounts := s.accounts, queue := s.queue, clock := s.clock, notices := s.notices, tie := s.tie } = s

/-- A normal close was taken (R95, R103 to R106, R110): with room one INTERVAL record per enabled account, without it
none; the index advances. -/
def State.normalTaken (s t : State) (cause : CloseCause) (aligned lateOpen : Bool) : Prop :=
  (s.clock.index < Config.max32 →
    t.clock = ⟨s.clock.index + 1, 0, 0, s.clock.pendingLength.getD s.clock.length, none, aligned, lateOpen,
      false⟩ ∧
    (s.queue.length + s.enabledAccounts.length ≤ 32 →
      s.closed t s.enabledAccounts cause none (s.clock.index + 1) 0 aligned true) ∧
    (32 < s.queue.length + s.enabledAccounts.length → s.enabledAccounts ≠ [] →
      s.closed t [] cause none (s.clock.index + 1) 0 aligned true) ∧
    (s.enabledAccounts = [] → t.queue = s.queue ∧ t.accounts = s.accounts ∧ t.notices = s.notices)) ∧
  (s.clock.index = Config.max32 → t.clock.index = s.clock.index ∧ t.clock.position = 0 ∧
    t.clock.part = (if s.clock.part < 255 then s.clock.part + 1 else s.clock.part) ∧
    (s.clock.part = 255 → t.queue = s.queue)) ∧
  (s.tie.state ≠ .pairedPrimary → t.tie = { s.tie with lastPair := some (s.clock.index, s.clock.part) }) ∧
  s.sameButClose t

/-- How many accounts a partial close of every enabled account forms (R107). -/
def State.partialCount (s : State) : Nat := if s.clock.part = 255 then 0 else 48 - s.queue.length

/-- A partial close of every enabled account was taken that leaves the clock where it is (R96, R107; power-fail and
restart). -/
def State.partialTaken (s t : State) (reason : CloseReason) : Prop :=
  let formed := s.enabledAccounts.take s.partialCount
  let part := if formed = [] then s.clock.part else s.clock.part + 1
  s.closed t formed .localPartial (some reason) s.clock.index part s.clock.aligned false ∧
  t.clock = { s.clock with part := part } ∧
  (s.tie.state ≠ .pairedPrimary → t.tie = { s.tie with lastPair := some (s.clock.index, s.clock.part) })

/-- The numbering that a CLOSE page close gives account `a` before the close (R156): `pair` where it stood at the clock's
pair and is not extended, else its own. -/
def State.numberedBy (s : State) (pair : Nat × Nat) (a : Fin 16) : Nat × Nat :=
  if (s.accounts.get a).recordIndex = s.clock.index ∧ (s.accounts.get a).part = s.clock.part ∧
    (s.accounts.get a).flags.extended = false then pair
  else ((s.accounts.get a).recordIndex, (s.accounts.get a).part)

/-- Every account numbered anew by `pair` (R156), nothing else changed. -/
def State.renumberedBy (s : State) (pair : Nat × Nat) : State :=
  { s with accounts := Table.make fun a =>
      { s.accounts.get a with recordIndex := (s.numberedBy pair a).1, part := (s.numberedBy pair a).2 } }

/-! ### What a window leaves of the accounts (R42, R51, R54, R57) -/

/-- The tap members of account `a` under plan content `c` that lie on window `w`, each with its sign (R51): the members with
that account, a TAP point, and a tap that the window owns. -/
def PlanContent.memberTaps (c : PlanContent) (a : Fin 16) (w : Window) : List ExportMember :=
  c.members.filterMap fun m =>
    match m.point with
    | .tap k => if m.account = a ∧ w.ownsTap.get k = true then some ⟨k, m.plus⟩ else none
    | .peer _ => none

/-- The peer-slot members of account `a` under plan content `c`, each with its sign (R53). -/
def PlanContent.memberPeers (c : PlanContent) (a : Fin 16) : List PeerMember :=
  c.members.filterMap fun m =>
    match m.point with
    | .tap _ => none
    | .peer j => if m.account = a then some ⟨j, m.plus⟩ else none

/-- Account `a` after window `w` of timebase `v` has been accounted under the plan active at its completion, `table` being the
completed window's phasor table (R51, R56, R57). -/
def State.accounted (s : State) (v : Fin 2) (w : Window) (table : PhasorTable) (a : Fin 16) : Account :=
  match s.selector.active, s.selector.content with
  | some p, some c =>
    let taps := c.memberTaps a w
    if s.isEnabled a = true ∧ taps ≠ [] then
      (s.accounts.get a).contribute
        ((⟨v, table, w.ownsSet, w.ownsTap, w.binding⟩ : CompletedWindow).contribution taps) p
    else s.accounts.get a
  | _, _ => s.accounts.get a

/-- Account `a` had a member on window `w` under plan content `c` (R42). -/
def PlanContent.loses (c : PlanContent) (a : Fin 16) (w : Window) : Prop :=
  ∃ m ∈ c.members, m.account = a ∧ ∃ k, m.point = .tap k ∧ w.ownsTap.get k = true

/-! ### Presence (R10) -/

/-- Phase `p` of set `v` is present over the span that tracker `x` has gathered (R10): lane 0 UP, the scale nonzero, the
RMS at or above the threshold, exact values compared (log 13). -/
def Tracker.presentOver (x : Tracker) (st : Settings) (v : Fin 2) (p : Fin 3) : Prop :=
  x.laneDown = false ∧ st.scale.get (voltageChannel v p) ≠ 0 ∧
  x.count * 8388607 ^ 2 * st.presence.get v ^ 2 * st.nominalVoltage.get v ^ 2 ≤
    x.sumSq.get p * 2 * st.scale.get (voltageChannel v p) ^ 2 * 10000

/-! ### Archive reads (R113, R132) -/

/-- The records that match filter `f`, in archive order, from offset `off` of segment `g` on: those of `g` from there, then
those of the OPEN and FULL segments opened after it. -/
def State.recordsFrom (s : State) (f : ReadFilter) (g : Fin 256) (off : Nat) : List (List Byte) :=
  (((s.nv.segments.get g).walkAt off).records.map (·.2) ++
    ((s.segmentsWith Marker.served).filter fun h => (s.nv.segments.get g).seq < (s.nv.segments.get h).seq).flatMap
      fun h => (s.nv.segments.get h).walk.records.map (·.2)).filter f.fits

/-! ### The scan (R136) -/

/-- Segment `g` is OPEN and holds no torn slot (R136). -/
def State.openUntorn (s : State) (g : Fin 256) : Prop :=
  (s.nv.segments.get g).marker = .opened ∧ (s.nv.segments.get g).walk.torn = false

/-- The scan's findings were handed over (R183 (3)), `s` being the state before, with its segments as repaired, and `index` the
interval index to begin with: the archive's head, write position and next open sequence number (R137 (1), (2)), the
highest archived index plus 1 (R111; log 21), the carries of each account (R68), its stamp (R91), and the last close pair
(R156). -/
def State.findingsHanded (s t : State) (index : Nat) : Prop :=
  let seg := s.nv.segments.get
  let ivs := s.intervalRecords
  (∀ g, (seg g).marker = .opened → t.archive.head = some g ∧ t.archive.writePos = (seg g).walk.endAt) ∧
  ((∀ g, (seg g).marker ≠ .opened) →
    (∀ g, (seg g).marker = .full → (∀ h, (seg h).marker = .full → h ≠ g → (seg h).seq < (seg g).seq) →
      t.archive.head = some g) ∧
    ((∀ g, (seg g).marker ≠ .full) → t.archive.head = none)) ∧
  (∀ g, (seg g).marker.served = true → (seg g).seq < t.archive.nextSeq) ∧
  (t.archive.nextSeq = 1 ∨ ∃ g, (seg g).marker.served = true ∧ t.archive.nextSeq = (seg g).seq + 1) ∧
  (ivs ≠ [] → ∃ bs ∈ ivs, (∀ b ∈ ivs, recIndex b ≤ recIndex bs) ∧ index = min Config.max32 (recIndex bs + 1)) ∧
  (ivs = [] → index = 0 ∧ t.tie.lastPair = none) ∧
  (∀ a bs, s.latestRecord a = some bs →
    (t.accounts.get a).mains.toList.map (·.residue) = (List.range 8).map (recCarry bs) ∧
    (t.accounts.get a).mains.toList.map (·.whole) = (s.accounts.get a).mains.toList.map (·.whole)) ∧
  (∀ a, s.latestRecord a = none → (t.accounts.get a).mains = (s.accounts.get a).mains) ∧
  (∀ a, (t.accounts.get a).stamp = ⟨index, 0, 0⟩) ∧
  (∀ a bs, s.latestRecord a = some bs → ∃ p, t.tie.lastPair = some p ∧
    (recIndex bs < p.1 ∨ (recIndex bs = p.1 ∧ recPart bs ≤ p.2))) ∧
  ∀ p, t.tie.lastPair = some p → ∃ a bs, s.latestRecord a = some bs ∧ p = (recIndex bs, recPart bs)

/-! ### The writer's need and reclaim (R116, R121, R122) -/

/-- Reclaim of segment `g` is allowed (R122): none of its records pinned, and under HOLD each of them collected. -/
def State.allowsReclaim (s : State) (g : Fin 256) : Prop :=
  ∀ i ∈ (s.nv.segments.get g).indices,
    s.archive.pinned i = false ∧ (s.settings.overwrite = true ∨ i ≤ s.archive.mark)

/-- Reclaim is wanted, for segment `g` (R121): it is the next segment after the head and FULL, the head is OPEN and past half
full or no segment is OPEN, no erase is in progress or suspended, and the archive is IDLE or WRITING. -/
def State.wantsReclaim (s : State) (g : Fin 256) : Prop :=
  s.nextSegment = some g ∧ (s.nv.segments.get g).marker = .full ∧
  (s.openHead = none ∨ 16384 < s.archive.writePos) ∧ s.archive.erase = none ∧
  (s.archive.state = .idle ∨ s.archive.state = .writing)

/-- The part is in CLOSING or DORMANT. -/
def State.isClosing (s : State) : Prop := s.op = .closing ∨ s.op = .dormant

/-- The archive became held (R122): the held indication is set, and ARCHIVE_HELD is latched where it was clear; nothing
else of the notices changed. -/
def State.becameHeld (s t : State) : Prop :=
  t.archive.heldInd = true ∧ (s.archive.heldInd = true → t.notices = s.notices) ∧
  (s.archive.heldInd = false → t.notices = (s.latch .archiveHeld).notices ∧ t.notices.latched.getLsbD 7 = true)

/-- The reclaim test was made (R121, R122): none in STOPPED (R125); where reclaim is not wanted the held indication is clear;
where it is wanted and allowed the erase of that segment began, in CLOSING and DORMANT none (R138, log 37); where it is wanted
and not allowed the archive became held. -/
def State.reclaimTested (s t : State) : Prop :=
  let settled (heldInd : Bool) : Prop := t.archive = { s.archive with heldInd := heldInd } ∧ t.nv = s.nv
  (s.archive.state = .stopped → settled s.archive.heldInd ∧ t.notices = s.notices) ∧
  (s.archive.state ≠ .stopped →
    ((∀ g, ¬ s.wantsReclaim g) → settled false ∧ t.notices = s.notices) ∧
    ∀ g, s.wantsReclaim g →
      (s.allowsReclaim g → s.isClosing → settled false ∧ t.notices = s.notices) ∧
      (s.allowsReclaim g → ¬ s.isClosing →
        t.archive = { s.archive with
          erase := some g, heldInd := false
          state := if s.archive.writing = true then .suspended else .reclaiming } ∧
        t.nv = { s.nv with
          segments := s.nv.segments.put g { s.nv.segments.get g with marker := .reclaiming } } ∧
        t.notices = s.notices) ∧
      (¬ s.allowsReclaim g → settled true ∧ s.becameHeld t))

/-- The erase of segment `g` began, no write being in progress (R121): marked RECLAIMING, the held indication clear. -/
def State.eraseBegan (s t : State) (g : Fin 256) : Prop :=
  t.nv.segments.get g = { s.nv.segments.get g with marker := .reclaiming } ∧ t.archive.erase = some g ∧
  t.archive.state = .reclaiming ∧ t.archive.heldInd = false ∧ t.notices = s.notices

/-- Every segment but `g` is as it was, an OPEN head being programmed FULL (R116). -/
def State.filledExcept (s t : State) (g : Option (Fin 256)) : Prop :=
  ∀ x, g ≠ some x → t.nv.segments.get x =
    if s.openHead = some x then { s.nv.segments.get x with marker := .full } else s.nv.segments.get x

/-! ### Selection (R37 to R39) -/

/-- Slot `p` matches switch word `w` (R37). -/
def Selector.matches (x : Selector) (w : BitVec 8) (p : Fin 8) : Prop :=
  ∃ sl, x.slots.get p = some sl ∧ w &&& sl.content.mask = sl.content.value

/-- Selection ran on selector `x` with switch word `w` and left marker and unmatched indication as in `y` (R37 to R39). -/
def Selector.selected (x y : Selector) (w : BitVec 8) : Prop :=
  ((∀ p, ¬ x.matches w p) → y.pendingPlan = none ∧ y.unmatched = true) ∧
  (∀ p, x.matches w p → (∀ q, q < p → ¬ x.matches w q) → y.unmatched = false ∧
    y.pendingPlan = if x.active = some p ∧ x.replacement = false then none else some p) ∧
  { y with pendingPlan := x.pendingPlan, unmatched := x.unmatched } = x

/-! ### The tie link entering DOWN or OFF (R143, R145) -/

/-- The windows of a SUMMARY in flight and in the holding slot. -/
def Tie.windowsHeld (x : Tie) : Nat :=
  (match x.inFlight with | some (.summary y) => y.count | _ => 0) + (match x.holding with | some y => y.count | none => 0)

/-- The link entered `state` with its pages discarded and its windows counted as lost. -/
def Tie.dropped (x y : Tie) (state : TieState) : Prop :=
  y.state = state ∧ y.inFlight = none ∧ y.sendCount = 0 ∧ y.holding = none ∧ y.closeList = [] ∧ y.roleList = [] ∧
  y.sendToggle = false ∧ y.partnerToggle = none ∧ y.attempt = 0 ∧ y.sawAck = false ∧ y.restartOpen = false ∧
  (x.lost ≤ 65535 → y.lost = min 65535 (x.lost + x.windowsHeld)) ∧
  y.sent = x.sent ∧ y.accepted = x.accepted ∧ y.merged = x.merged ∧ y.lastPair = x.lastPair ∧
  y.lastSent = x.lastSent ∧ y.exportBase = x.exportBase

/-- What a change of the link state makes of accounts and notices: INCOMPLETE on every enabled account with a peer-slot
member (R54), LINK_OK recorded bad in DOWN, SOLO and ROLE_FAULT, the other latched-low conditions only where they are bad
(R174), and nothing else but the link and the draws. -/
def State.tieFollows (s t : State) : Prop :=
  (∀ a, t.accounts.get a =
    if s.isEnabled a = true ∧ t.peerMissing a = true then
      { s.accounts.get a with flags := { (s.accounts.get a).flags with incomplete := true } }
    else s.accounts.get a) ∧
  (t.tie.state = .down ∨ t.tie.state = .solo ∨ t.tie.state = .roleFault → t.notices.lows.getLsbD 3 = true) ∧
  (∀ i, i < 4 → s.notices.lows.getLsbD i = true → t.notices.lows.getLsbD i = true) ∧
  (∀ i, i < 3 → t.notices.lows.getLsbD i = true →
    s.notices.lows.getLsbD i = true ∨ s.presentBad.getLsbD i = true) ∧
  { t.notices with lows := s.notices.lows } = s.notices ∧
  { t with tie := s.tie, accounts := s.accounts, notices := s.notices, draws := s.draws } = s

/-! ### Pages that are dropped (R139) -/

/-- The slots present by the slot mask of a SUMMARY page. -/
def pageSlots (p : List Byte) : Nat := ((List.range 4).filter fun j => (field p 18 1).testBit j).length

/-- The whole page `p` fails a condition of R139 (2) to (6), by its bytes at the offsets of the layout of 8.1 (the body
begins at offset 5): its check, its type, a bit marked zero, its body length, or a field out of its values. -/
def pageInvalid (p : List Byte) : Prop :=
  let type := field p 1 1
  let n := field p 3 2
  crcOk p = false ∨ 8 ≤ field p 2 1 ∨
  (type ≠ 0x00 ∧ type ≠ 0x01 ∧ type ≠ 0x02 ∧ type ≠ 0x10 ∧ type ≠ 0x20) ∨
  (type = 0x00 ∧ n ≠ 0) ∨
  (type = 0x01 ∧ (n ≠ 4 ∨ field p 5 1 = 0 ∨ 3 < field p 5 1 ∨ field p 6 2 = 0 ∨ field p 8 1 = 0 ∨ 3 < field p 8 1)) ∨
  (type = 0x02 ∧ (n ≠ 6 ∨ field p 5 1 = 0 ∨ 3 < field p 5 1 ∨ field p 6 1 = 0 ∨ 2 < field p 6 1)) ∨
  (type = 0x10 ∧ (n ≠ 14 + 489 * pageSlots p ∨ 32 ≤ field p 17 1 ∨ 16 ≤ field p 18 1 ∨
    ∃ i, i < pageSlots p ∧ 4 ≤ field p (19 + 489 * i) 1)) ∨
  (type = 0x20 ∧ n ≠ 7)

/-! ### CLOSE pages as they go over the line (8.1) -/

/-- A CLOSE page with the given kind and reason bytes. -/
def closePage (index part : Nat) (kind reason : Byte) (toggle : Bool) (ack : Option Bool) : List Byte :=
  withCrc ([0x96, 0x20] ++ leBytes 1 (toggle.toNat + 2 * (ack.getD false).toNat + 4 * ack.isSome.toNat) ++ leBytes 2 7 ++
    leBytes 4 index ++ leBytes 1 part ++ [kind, reason])

/-! ### Role resolution (R146 to R149) -/

/-- Nothing of the link changed but its state, its session, its resolution and its ROLE and ROLE_CONFIRM pages. -/
def Tie.keepsRest (x y : Tie) : Prop :=
  y.holding = x.holding ∧ y.closeList = x.closeList ∧ y.exportBase = x.exportBase ∧ y.sent = x.sent ∧
  y.accepted = x.accepted ∧ y.lost = x.lost ∧ y.merged = x.merged ∧ y.lastPair = x.lastPair ∧
  y.restartOpen = x.restartOpen

/-- Attempt `n` began with a seed drawn (R146), and the partner's ROLE and ROLE_CONFIRM of it are as given: the unit's ROLE
of it is in flight and sent once where nothing was in flight, else due behind the page `flying` and those `waiting`. -/
def State.attemptBegan (s t : State) (n : Nat) (partner : Option RoleBody) (confirm : Option ConfirmBody)
    (flying : Option PageBody) (waiting : List PageBody) : Prop :=
  let own : RoleBody := ⟨s.settings.preference, t.tie.ownSeed, n⟩
  t.tie.state = .resolving ∧ t.tie.attempt = n ∧ 1 ≤ t.tie.ownSeed ∧ t.tie.ownSeed ≤ 65535 ∧
  t.tie.ownRole = some own ∧ t.tie.ownRoleAcked = false ∧ t.tie.resolved = none ∧ t.tie.confirmAcked = false ∧
  t.tie.partnerRole = partner ∧ t.tie.partnerSeed = (match partner with | some r => r.seed | none => 0) ∧
  t.tie.partnerConfirm = confirm ∧
  (flying = none → t.tie.inFlight = some (.role own) ∧ t.tie.sendCount = 1 ∧ t.tie.roleList = waiting) ∧
  (∀ b, flying = some b → t.tie.inFlight = some b ∧ t.tie.roleList = waiting ++ [.role own])

/-- An attempt failed with nothing in flight (R147, R148): the next one began, or SOLO was entered after the third. -/
def State.attemptFailed (s t : State) : Prop :=
  (s.tie.attempt < 3 → s.attemptBegan t (s.tie.attempt + 1) none none none [] ∧ t.draws = s.draws + 1) ∧
  (s.tie.attempt = 3 → t.tie.state = .solo ∧ t.draws = s.draws ∧ t.notices.lows.getLsbD 3 = true)

/-- The attempt was resolved with nothing in flight, the unit's ROLE `own` against the partner's `r` (the table of R147):
the unit's ROLE_CONFIRM sent, ROLE_FAULT entered, or the attempt failed. -/
def State.attemptResolved (s t : State) (own r : RoleBody) : Prop :=
  let primary := (own.preference = .primary ∧ r.preference ≠ .primary) ∨
    (own.preference = .either ∧ r.preference = .secondary) ∨
    (own.preference = .either ∧ r.preference = .either ∧ r.seed < own.seed)
  let secondary := (own.preference ≠ .primary ∧ r.preference = .primary) ∨
    (own.preference = .secondary ∧ r.preference = .either) ∨
    (own.preference = .either ∧ r.preference = .either ∧ own.seed < r.seed)
  (primary → t.tie.state = .resolving ∧ t.tie.resolved = some .primary ∧ t.tie.sendCount = 1 ∧
    t.tie.inFlight = some (.confirm ⟨s.tie.attempt, .primary, s.tie.ownSeed, r.seed⟩)) ∧
  (secondary → t.tie.state = .resolving ∧ t.tie.resolved = some .secondary ∧ t.tie.sendCount = 1 ∧
    t.tie.inFlight = some (.confirm ⟨s.tie.attempt, .secondary, s.tie.ownSeed, r.seed⟩)) ∧
  ((own.preference = .primary ∧ r.preference = .primary) ∨
    (own.preference = .secondary ∧ r.preference = .secondary) →
    t.tie.state = .roleFault ∧ t.notices.latched.getLsbD 13 = true ∧ t.notices.lows.getLsbD 3 = true) ∧
  (own.preference = .either → r.preference = .either → own.seed = r.seed → s.attemptFailed t)

/-- The pairing was judged with nothing in flight, the unit's role `r` against the partner's confirm `c` (R148). -/
def State.pairingJudged (s t : State) (r : Role) (c : ConfirmBody) : Prop :=
  (c.role ≠ r → t.tie.state = (match r with | .primary => .pairedPrimary | .secondary => .pairedSecondary) ∧
    t.notices.latched.getLsbD 12 = true) ∧
  (c.role = r → s.attemptFailed t)

/-! ### Lane frames and bytes programmed -/

/-- The lane, its frame of this raw sample counted, is DOWN at this raw sample: an UP lane at its sixteenth bad frame in a row,
a DOWN lane short of its sixty-fourth good one (R5, R6). -/
def Lane.downAt (x : Lane) : Prop := (x.up = true ∧ x.bad = 16) ∨ (x.up = false ∧ x.good ≠ 64)

/-- The lane's place holds a frame that is structurally good (R2). -/
def Lane.holdsSound (x : Lane) (f : List Byte) : Prop :=
  x.place = some f ∧ f.length = 29 ∧ byteAt f 0 = 0xC3#8 ∧ crcOk f = true

/-- The lane's place holds a good frame (R2). -/
def Lane.holdsGood (x : Lane) (f : List Byte) : Prop :=
  x.holdsSound f ∧ (x.expected = none ∨ x.expected = some (byteAt f 1))

/-- `bytes` were programmed into segment `x` at offset `pos`, behind which it was erased, and nothing else changed in it. -/
def Segment.programmed (x y : Segment) (pos : Nat) (bytes : List Byte) : Prop :=
  y.seq = x.seq ∧ ∀ off, 16 ≤ off → y.readByte off =
    if off < pos then x.readByte off else bytes.getD (off - pos) erasedByte

/-- Every segment but `h` is as it was. -/
def State.segmentsKept (s t : State) (h : Fin 256) : Prop := ∀ g, g ≠ h → t.nv.segments.get g = s.nv.segments.get g

/-- The writer stands in the OPEN head `h` with `r` as oldest record, which fits, and everything from the write position on
is erased (R113, R116). -/
def State.headOpen (s : State) (h : Fin 256) (r : Record) (rest : List Record) : Prop :=
  s.archive.head = some h ∧ (s.nv.segments.get h).marker = .opened ∧ s.queue = r :: rest ∧ 16 ≤ s.archive.writePos ∧
  (s.nv.segments.get h).area.length ≤ s.archive.writePos - 16 ∧ s.archive.writePos + r.bytes.length ≤ 32768

/-! ### Settings (11.1) -/

/-- The id of a setting (the table of 11.1). -/
def SettingId.id : SettingId → Nat
  | .nominalHz => 0x0001
  | .nominalVoltage v => 0x0002 + v.val
  | .presence v => 0x0004 + v.val
  | .intervalLength => 0x0010
  | .syncWindow => 0x0011
  | .debounceTime => 0x0012
  | .scale c => 0x0100 + c.val
  | .delay c => 0x0120 + c.val
  | .binding k => 0x0140 + k.val
  | .enabled a => 0x0200 + a.val
  | .name a => 0x0210 + a.val
  | .orderMask a => 0x0220 + a.val
  | .exportSet => 0x0300
  | .exportSlot j => 0x0301 + j.val
  | .tieEnable => 0x0400
  | .preference => 0x0401
  | .attentionMode => 0x0500
  | .noticeMask => 0x0501
  | .reclaim => 0x0600

/-- Settings `y` are settings `x` but for the value of setting `i`: every other field is the same, and in the field of an
indexed setting every other place (the table of 11.1). -/
def SettingId.changesOnly (i : SettingId) (x y : Settings) : Prop :=
  let onlyAt {α : Type} {n : Nat} (u v : Table α n) (k : Fin n) : Prop := ∀ j, j ≠ k → u.get j = v.get j
  match i with
  | .nominalHz => { y with nominalHz := x.nominalHz } = x
  | .nominalVoltage v => { y with nominalVoltage := x.nominalVoltage } = x ∧ onlyAt y.nominalVoltage x.nominalVoltage v
  | .presence v => { y with presence := x.presence } = x ∧ onlyAt y.presence x.presence v
  | .intervalLength => { y with intervalLength := x.intervalLength } = x
  | .syncWindow => { y with syncWindow := x.syncWindow } = x
  | .debounceTime => { y with debounceTime := x.debounceTime } = x
  | .scale c => { y with scale := x.scale } = x ∧ onlyAt y.scale x.scale c
  | .delay c => { y with delay := x.delay } = x ∧ onlyAt y.delay x.delay c
  | .binding k => { y with binding := x.binding } = x ∧ onlyAt y.binding x.binding k
  | .enabled a => { y with enabled := x.enabled } = x ∧ onlyAt y.enabled x.enabled a
  | .name a => { y with name := x.name } = x ∧ onlyAt y.name x.name a
  | .orderMask a => { y with orderMask := x.orderMask } = x ∧ onlyAt y.orderMask x.orderMask a
  | .exportSet => { y with exportSet := x.exportSet } = x
  | .exportSlot j => { y with exportSlots := x.exportSlots } = x ∧ onlyAt y.exportSlots x.exportSlots j
  | .tieEnable => { y with tieEnable := x.tieEnable } = x
  | .preference => { y with preference := x.preference } = x
  | .attentionMode => { y with attentionMode := x.attentionMode } = x
  | .noticeMask => { y with noticeMask := x.noticeMask } = x
  | .reclaim => { y with overwrite := x.overwrite } = x

/-- The settings whose value no block takes over at the SET itself: it acts at a later event of its owner. -/
def SettingId.quiet : SettingId → Prop
  | .nominalHz | .nominalVoltage _ | .presence _ | .syncWindow | .debounceTime | .delay _ | .binding _ | .name _
  | .orderMask _ | .exportSet | .exportSlot _ | .noticeMask => True
  | _ => False

/-! ### Ranges of what is encoded -/

/-- A number of `k` bytes. -/
def fitsBytes (k n : Nat) : Prop := n < 256 ^ k

/-- A signed number of `k` bytes. -/
def fitsSigned (k : Nat) (z : Int) : Prop := -(256 ^ k / 2 : Nat) ≤ z ∧ z < (256 ^ k / 2 : Nat)

/-- A slot of a summary in range (8.1). -/
def SlotSummary.ranged (x : SlotSummary) : Prop :=
  fitsSigned 8 x.p1n ∧ fitsSigned 8 x.q1n ∧ (∀ i, fitsSigned 8 (x.phn.get i)) ∧ ∀ i, fitsBytes 4 (x.currents.get i)

/-- A page body that can be sent and read (8.1, R139 (6)). -/
def PageBody.ranged : PageBody → Prop
  | .idle => True
  | .role b => 1 ≤ b.seed ∧ b.seed ≤ 65535 ∧ 1 ≤ b.attempt ∧ b.attempt ≤ 3
  | .confirm b => 1 ≤ b.attempt ∧ b.attempt ≤ 3 ∧ b.ownSeed ≤ 65535 ∧ b.partnerSeed ≤ 65535
  | .summary x =>
    fitsBytes 4 x.first ∧ fitsBytes 4 x.count ∧ fitsBytes 4 x.n ∧ ∀ j sl, x.slots.get j = some sl → sl.ranged
  | .close b => fitsBytes 4 b.index ∧ b.part ≤ 255 ∧ ∀ x, b.reason = some (.other x) → x = 0 ∨ 5 < x.toNat
  | .closeOther => False

/-- An interval record in range (7.2). -/
def IntervalRecord.ranged (r : IntervalRecord) : Prop :=
  fitsBytes 4 r.index ∧ r.part ≤ 255 ∧ r.span ≤ 255 ∧ r.length ≤ 60 ∧ r.name.length = 8 ∧ r.orders.length ≤ 39

/-- A record in range. -/
def Record.ranged : Record → Prop
  | .interval r => r.ranged
  | .topology r => fitsBytes 4 r.index ∧ r.part ≤ 255

/-! ### Invariants -/

/-- The counters of the notice unit lie in 0 to 65 535 (R175). -/
def Notices.counted (n : Notices) : Prop :=
  (∀ l, n.laneErrors.get l ≤ 65535) ∧ n.discarded ≤ 65535 ∧ n.overruns ≤ 65535 ∧ n.resent ≤ 65535 ∧
  n.badPages ≤ 65535 ∧ n.abandoned ≤ 65535 ∧ n.syncFaults ≤ 65535 ∧ n.droppedTopology ≤ 65535

/-- The places are never more than the part has: close queue 48 (R105), receive buffer 2 (9.2), close list 4 (R155). -/
def State.bounded (s : State) : Prop :=
  s.queue.length ≤ 48 ∧ s.msg.places.length ≤ 2 ∧ s.tie.closeList.length ≤ 4

/-- The interval clock in its ranges (6.1): position 0 to L, clock part 0 to 255, index 32 bits, and the last close pair in
the same ranges (R156). -/
def State.clockRanged (s : State) : Prop :=
  s.clock.position ≤ s.clock.samples ∧ s.clock.part ≤ 255 ∧ s.clock.index ≤ Config.max32 ∧
  ∀ p, s.tie.lastPair = some p → p.1 ≤ Config.max32 ∧ p.2 ≤ 255

/-- The consecutive counts of the lanes and the holdover counts in their ranges (R5, R13). -/
def State.countsRanged (s : State) : Prop :=
  (∀ l, (s.lanes.get l).bad ≤ 16 ∧ (s.lanes.get l).good ≤ 64) ∧ ∀ v, (s.trackers.get v).holdover ≤ 25

/-- The read cursor stands at offset 16 or later, behind a segment's header (7.1, R132). -/
def State.cursorRanged (s : State) : Prop := ∀ c, s.archive.cursor = some c → 16 ≤ c.offset

/-- While the archive is SCANNING no record write and no erase is in progress: the writer and reclaim wait for the scan's end
(the table of 7.6, R136). -/
def State.scanQuiet (s : State) : Prop :=
  s.archive.state = .scanning → s.archive.writing = false ∧ s.archive.erase = none

/-- The ROLE pages that the link holds are those of its attempt, and the seeds are theirs (R146). -/
def State.rolesHeld (s : State) : Prop :=
  (∀ own, s.tie.ownRole = some own → own.seed = s.tie.ownSeed ∧ own.attempt = s.tie.attempt) ∧
  ∀ r, s.tie.partnerRole = some r → r.seed = s.tie.partnerSeed ∧ r.attempt = s.tie.attempt

/-- Every whole count is a 32-bit count (4.5, R67). -/
def Account.wholesRanged (acc : Account) : Prop :=
  (∀ a ∈ acc.mains.toList, a.whole ≤ Config.max32) ∧
  (∀ i, (acc.absorbed.get i).whole ≤ Config.max32) ∧ ∀ i, (acc.emitted.get i).whole ≤ Config.max32

end Machine

end Sys2Proof
end

