-- ==== Sys2Proof/WellFormed.lean ====
section
/-! DEFINITION. Well-formed commands: operands that the part's connections can present. `exec` is total; on an ill-formed
command it does what the bytes at hand allow (log 5, 30). -/

namespace Sys2Proof

/-- The request codes of the table of chapter 9.3. -/
def requestCodes : List Byte :=
  [0x01, 0x02, 0x03, 0x10, 0x11, 0x20, 0x21, 0x22, 0x23, 0x24, 0x25, 0x30, 0x31, 0x40, 0x41, 0x42, 0x50, 0x51, 0x52,
   0x53, 0x54, 0x55, 0x60, 0x61, 0x62, 0x70, 0x71, 0x7F]

/-- A body a request frame can hold: at most 1 024 bytes (9.1). -/
def bodyOk (body : List Byte) : Bool := body.length ≤ 1024

/-- A kind that answers UNKNOWN_KIND: 0x00 to 0x7F and not in the table (R164 (1)). -/
def kindUnknown (kind : Byte) : Bool := kind.toNat < 0x80 && !requestCodes.contains kind

/-- A command whose operands can occur. -/
def Instr.wf : Instr → Bool
  | .powerOn => true
  | .resetAssert _ cut => cut.programmed ≤ 674
  | .resetRelease => true
  | .scanEnd failed => decide failed.Nodup
  | .laneFrameComplete _ bytes => bytes.length == 29
  | .laneFrameTimeout _ => true
  | .rawSampleInstant => true
  | .laneEnterDown _ => true
  | .laneEnterUp _ => true
  | .cycleAbandon _ => true
  | .presenceRunEnd _ => true
  | .trackerEnterFreeRun _ => true
  | .windowComplete _ => true
  | .snapshot _ body => bodyOk body
  | .switchSample _ => true
  | .debounceComplete _ => true
  | .firstSwitchWord => true
  | .planOpen _ body => bodyOk body
  | .planAdd _ body => bodyOk body
  | .planConfirm _ body => bodyOk body
  | .planDrop _ body => bodyOk body
  | .planClear _ body => bodyOk body
  | .planGet _ body => bodyOk body
  | .accountRead _ body => bodyOk body
  | .limitLoad _ body => bodyOk body
  | .limitGet _ body => bodyOk body
  | .peakSwap _ body => bodyOk body
  | .clockMadeClose => true
  | .syncPulse => true
  | .lateAllowanceExpire => true
  | .align _ body => bodyOk body
  | .closeNow _ body => bodyOk body
  | .writerTakeRecord _ => true
  | .recordWriteComplete bad _ => bad.all fun x => x.1 < 674
  | .eraseComplete _ _ => true
  | .errorClear _ body => bodyOk body
  | .archiveCollected _ body => bodyOk body
  | .pinAdd _ body => bodyOk body
  | .pinRemove _ body => bodyOk body
  | .archiveClear _ body => bodyOk body
  | .archiveRead _ body => bodyOk body
  | .archiveMore _ body => bodyOk body
  | .tiePageArrive bytes => bytes.contains 0x96
  | .tiePageOverlength bytes => bytes.contains 0x96
  | .tieByteGapTimeout bytes => bytes.contains 0x96
  | .tieResendTimer => true
  | .idlePageSend => true
  | .silenceTimeout => true
  | .roleAttemptTimeout => true
  | .tieStatus _ body => bodyOk body
  | .hostFrameComplete bytes => 8 ≤ bytes.length
  | .hostFrameOverlength bytes => 4 ≤ bytes.length
  | .hostByteGapTimeout bytes => 2 ≤ bytes.length
  | .replySent => true
  | .unknownKind kind _ body => kindUnknown kind && bodyOk body
  | .ident _ body => bodyOk body
  | .stateRequest _ body => bodyOk body
  | .noticeTake _ body => bodyOk body
  | .noticeRaise _ body => bodyOk body
  | .attentionPulseEnd => true
  | .setSetting _ body => bodyOk body
  | .getSetting _ body => bodyOk body
  | .storeWriteComplete => true
  | .powerFailAssert => true
  | .enterDormant => true
  | .powerFailRelease => true
  | .restart _ body => bodyOk body
  | .restartPathEnd => true

end Sys2Proof
end

