-- ==== Sys2Proof/Certificates/Slice0/Obligations.lean ====
section
/-! DEFINITION. The statements for the provers. A frame is said by putting the fields that may change back to what they
were: what results is the state before. -/

open Sys2Proof Sys2Proof.Machine

/-! ### The machine -/

/-- Every step takes the command at the front of the queue on the state with the queue's rest; an empty queue idles (log
4); no command's effect touches the queue. -/
def Obligations.StepRunsFront : Prop :=
  (∀ (c : Instr) (rest : List Instr) (s : State),
    step { s with pending := c :: rest } = exec c { s with pending := rest }) ∧
  (∀ s : State, s.pending = [] → step s = .next s) ∧
  ∀ (c : Instr) (s t : State), exec c s = .next t → t.pending = s.pending

/-! ### Supply, reset and the operating states -/

/-- The power-on start gives the blocks their start values: at the release of the reset line where supply is present, and at
supply applied where the line is not asserted. The memories, the warning pin and the queue stay; every lane, channel,
tracker, timebase, account, counter and link takes the value its chapter gives; the latched-low conditions are those present
(R8, R17, R27, R35, R89 to R91, R111, R127, R158, R178, R182, R183). The accounts' carries and stamps are set at the scan's
end, the clock's index and part and the accounts' numbering and flags at the entry into RUNNING (ScanEndEntersRunning). -/
def Obligations.PowerOnStart : Prop :=
  ∀ (s : State) (c : Instr), (c = .resetRelease ∧ s.resetLine = true ∧ s.unpowered = false ∨
      c = .powerOn ∧ s.resetLine = false ∧ s.unpowered = true) → ∃ t : State, exec c s = .next t ∧
    t.op = .starting ∧ t.stopped = false ∧ t.path = none ∧ t.nv = s.nv ∧ t.warning = s.warning ∧
    t.pending = s.pending ∧ t.sampleIndex = 0 ∧
    (∀ i, s.nv.image = some i → t.settings = i.settings ∧ t.archive.pins = i.pins ∧
      (∀ a, (t.accounts.get a).limits = i.limits.get a) ∧
      ∀ p, t.selector.slots.get p = (i.plans.get p).map fun c => ⟨c, true⟩) ∧
    (s.nv.image = none → t.settings = Settings.default ∧ t.archive.pins = Table.all none ∧
      (∀ a, (t.accounts.get a).limits = Table.all 0) ∧ t.selector.slots = Table.all none) ∧
    { t.notices with latched := 0, lows := 0 } =
      ⟨0, 0, 0, 0, 0, Table.all 0, 0, Table.all 0, 0, 0, 0, 0, 0, 0, 0, false⟩ ∧
    t.notices.latched = (if s.nv.image.isNone then 0x08000#18 else 0#18) ∧
    t.notices.lows.getLsbD 0 = true ∧ t.notices.lows.getLsbD 1 = true ∧
    (t.notices.lows.getLsbD 2 = true ↔ ∃ l, t.laneUsed l = true) ∧ t.notices.lows.getLsbD 3 = t.settings.tieEnable ∧
    t.archive.mark = max ((s.nv.marks.get 0).getD 0) ((s.nv.marks.get 1).getD 0) ∧
    t.archive.state = .scanning ∧ t.archive.error = .none ∧ t.archive.heldInd = false ∧ t.archive.cursor = none ∧
    t.archive.head = none ∧ t.archive.erase = none ∧ t.archive.writing = false ∧ t.archive.failedOnce = false ∧
    t.archive.clear = .idle ∧ t.queue = [] ∧ t.store = none ∧ t.msg = ⟨[], none, false⟩ ∧
    (∀ l, t.lanes.get l = ⟨false, none, none, 16, 0⟩) ∧ (∀ c, t.channels.get c = ⟨0, true, false⟩) ∧
    (∀ v, (t.trackers.get v).state = .acquiring ∧ (t.trackers.get v).ref = none ∧ (t.trackers.get v).run = [] ∧
      (t.trackers.get v).holdover = 0 ∧ (t.trackers.get v).opened = none ∧ (t.trackers.get v).count = 0 ∧
      (t.trackers.get v).sumSq = Table.all 0 ∧ t.trackedFreq v = t.settings.nominalHz * 1000) ∧
    (∀ v, t.timebases.get v = ⟨1, none, none⟩) ∧
    (∀ i, (t.selector.inputs.get i).level = none ∧ (t.selector.inputs.get i).timer = none) ∧
    t.selector.word = none ∧ t.selector.active = none ∧ t.selector.content = none ∧ t.selector.pendingPlan = none ∧
    t.selector.replacement = false ∧ t.selector.unmatched = false ∧ t.selector.buffer = none ∧
    (∀ a, let x := t.accounts.get a
      x.mains.toList = List.replicate 8 ⟨0, 0⟩ ∧ x.absorbed = Table.all ⟨0, 0⟩ ∧ x.emitted = Table.all ⟨0, 0⟩ ∧
      x.windows = 0 ∧ x.degraded = 0 ∧ x.abandoned = 0 ∧ x.plansUsed = 0 ∧ x.peaks = Table.all 0 ∧
      x.periodPeaks = Table.all 0 ∧ x.exceed = Table.all 0 ∧ x.consecutive = Table.all 0 ∧
      x.maskInForce = t.settings.orderMask.get a) ∧
    t.tie.state = (if t.settings.tieEnable then .down else .off) ∧ t.tie.inFlight = none ∧ t.tie.sendCount = 0 ∧
    t.tie.holding = none ∧ t.tie.closeList = [] ∧ t.tie.roleList = [] ∧ t.tie.sendToggle = false ∧
    t.tie.partnerToggle = none ∧ t.tie.sawAck = false ∧ t.tie.attempt = 0 ∧ t.tie.exportBase = none ∧
    t.tie.sent = 0 ∧ t.tie.accepted = 0 ∧ t.tie.lost = 0 ∧ t.tie.merged = 0 ∧ t.tie.restartOpen = false ∧
    t.clock.position = 0 ∧ t.clock.pendingLength = none ∧ t.clock.aligned = false ∧ t.clock.lateOpen = false ∧
    t.clock.closeReady = false ∧ t.clock.length = t.settings.intervalLength

/-- A stop, by the reset line or by loss of supply, loses every volatile value; a store write cut off leaves the image
failing, or its mark copy invalid, and the segment under erase is unclean (R135 (2), (4), R181, R186). A record write cut off
leaves the leading bytes of the record programmed and the rest erased, and the cut header of a segment just opened leaves no
valid marker; no other segment changes but one under erase (R135 (1), (3)). Between the two mark writes of a clear the copy
not yet written keeps the older mark, which the next start takes (R131). How many bytes were programmed, whether the header
was cut, and whether the stop falls between the mark writes are the command's operands (log 27), the count up to the
whole record (log 71). A stopped part takes no event: only the reset line, supply and the level of the warning pin act, and it starts once the line is released and supply
is present (R186, log 29).
Supply applied to a part that has it is the model's choice: supply was lost before (log 8). -/
def Obligations.ResetAssertStops : Prop :=
  (∀ (s : State) (x : StopCause) (k : Nat) (cut between : Bool), s.stopped = false → s.archive.writing = false →
    ∃ t : State, exec (.resetAssert x ⟨k, cut, between⟩) s = .next t ∧
    { t with nv := s.nv } =
      { State.reset with
        pending := s.pending, warning := s.warning, draws := s.draws, nv := s.nv
        resetLine := decide (x = .line), unpowered := decide (x = .supply) } ∧
    t.nv.image = (match s.store with | some (.image _) => none | _ => s.nv.image) ∧
    t.nv.marks = (match s.store with
      | some (.mark _ c) => if between = true ∧ s.archive.clear = .marking 1 then s.nv.marks else s.nv.marks.put c none
      | _ => s.nv.marks) ∧
    (∀ g, s.archive.erase = some g → (t.nv.segments.get g).marker = .broken) ∧
    (∀ g, s.archive.erase ≠ some g → t.nv.segments.get g = s.nv.segments.get g) ∧
    (∀ c m, x = .line → between = true → s.archive.clear = .marking 1 → s.store = some (.mark 0 c) →
      s.nv.marks.get c = some m → s.nv.marks.get (1 - c) = some 0 →
      ∃ u, exec .resetRelease t = .next u ∧ u.archive.mark = m) ∧
    ∃ u v : State, exec (.resetAssert .supply ⟨0, false, false⟩) s = .next u ∧ exec .powerOn u = .next v ∧
      exec .powerOn s = .next v) ∧
  (∀ (s : State) (x : StopCause) (k : Nat) (cut between : Bool) (h : Fin 256) (r : Record) (rest : List Record),
    s.stopped = false →
    s.archive.writing = true → s.headOpen h r rest → s.archive.erase ≠ some h → ∃ t : State,
    exec (.resetAssert x ⟨k, cut, between⟩) s = .next t ∧
    (∀ g, g ≠ h → s.archive.erase ≠ some g → t.nv.segments.get g = s.nv.segments.get g) ∧
    (cut = true → (s.nv.segments.get h).area = [] → (t.nv.segments.get h).marker = .broken) ∧
    (cut = false ∨ (s.nv.segments.get h).area ≠ [] → (t.nv.segments.get h).marker = .opened ∧
      (s.nv.segments.get h).programmed (t.nv.segments.get h) s.archive.writePos (r.bytes.take k)) ∧
    t.stopped = true ∧ t.queue = [] ∧ t.archive.cursor = none ∧ t.archive.error = .none) ∧
  ∀ (c : Instr) (s : State), s.stopped = true → s.attentionLine = false ∧
    (c ≠ .powerOn → c ≠ .resetRelease → (∀ x cut, c ≠ .resetAssert x cut) →
      c ≠ .powerFailAssert → c ≠ .powerFailRelease → exec c s = .next s) ∧
    (∀ cut, exec (.resetAssert .line cut) s = .next { s with resetLine := true } ∧
      exec (.resetAssert .supply cut) s = .next { s with unpowered := true }) ∧
    (s.unpowered = true → exec .resetRelease s = .next { s with resetLine := false }) ∧
    (s.resetLine = true → exec .powerOn s = .next { s with unpowered := false }) ∧
    exec .powerFailAssert s = .next { s with warning := true } ∧
    exec .powerFailRelease s = .next { s with warning := false }

/-- The scan's repairs, with or without the power-fail warning, and whether or not the stored image failed: a RETIRED
segment stays RETIRED, an unclean one is erased again or, where that fails, RETIRED with the archive STOPPED on
ERASE_FAIL; of the OPEN segments without a torn slot the one with the highest open sequence number stays OPEN as it was,
and every other OPEN one becomes FULL, a FULL one standing as it is; TORN_FOUND is latched where a torn slot was found,
ARCHIVE_ERROR where an erase failed, and neither otherwise (R136). The model's: all repairs are made in the one step of
SCAN_END (log 59), which erases fail is the command's operand (log 27), and torn segments are made FULL before two OPEN
ones are compared (log 58). With the warning the entry into RUNNING, where a reclaim may begin, is still to come, and the
archive state is IDLE or STOPPED already (log 73). -/
def Obligations.ScanRepairsSegments : Prop :=
  ∀ (s : State) (failed : List (Fin 256)), s.stopped = false → s.op = .starting → s.archive.state = .scanning →
    ∃ t : State, exec (.scanEnd failed) s = .next t ∧
    (∀ g, (s.nv.segments.get g).marker = .retired → (t.nv.segments.get g).marker = .retired) ∧
    (∀ g, (s.nv.segments.get g).unclean = true → g ∉ failed → t.nv.segments.get g = ⟨.blank, 0, []⟩) ∧
    (∀ g, (s.nv.segments.get g).unclean = true → g ∈ failed → t.nv.segments.get g = ⟨.retired, 0, []⟩ ∧
      t.archive.state = .stopped ∧ t.archive.error = .eraseFail ∧ t.notices.latched.getLsbD 8 = true) ∧
    (∀ g, (s.nv.segments.get g).marker = .opened → (s.nv.segments.get g).walk.torn = true →
      (t.nv.segments.get g).marker ≠ .opened) ∧
    (∀ g h, (t.nv.segments.get g).marker = .opened → (t.nv.segments.get h).marker = .opened →
      g = h) ∧
    (∀ g, (t.nv.segments.get g).marker = .opened → t.nv.segments.get g = s.nv.segments.get g ∧ s.openUntorn g ∧
      ∀ h, s.openUntorn h → (s.nv.segments.get h).seq ≤ (s.nv.segments.get g).seq) ∧
    (∀ g, s.openUntorn g → (∀ h, s.openUntorn h → h ≠ g → (s.nv.segments.get h).seq < (s.nv.segments.get g).seq) →
      t.nv.segments.get g = s.nv.segments.get g) ∧
    (∀ g, s.warning = true → (s.nv.segments.get g).marker = .opened →
      ((s.nv.segments.get g).walk.torn = true ∨
        ∃ h, s.openUntorn h ∧ (s.nv.segments.get g).seq < (s.nv.segments.get h).seq) →
      t.nv.segments.get g = { s.nv.segments.get g with marker := .full }) ∧
    (∀ g, s.warning = true → (s.nv.segments.get g).marker = .full → t.nv.segments.get g = s.nv.segments.get g) ∧
    (t.notices.latched.getLsbD 9 = true ↔ s.notices.latched.getLsbD 9 = true ∨
      ∃ g, ((s.nv.segments.get g).marker = .opened ∨ (s.nv.segments.get g).marker = .full) ∧
        (s.nv.segments.get g).walk.torn = true) ∧
    (t.notices.latched.getLsbD 8 = true ↔ s.notices.latched.getLsbD 8 = true ∨
      ∃ g, (s.nv.segments.get g).unclean = true ∧ g ∈ failed)

/-- The scan's end hands its findings over, with or without the power-fail warning: the archive's head, write position and next
open sequence number come from the segments as repaired, the main residues of each account are those of its latest
record, its stamp carries the index to begin with, and the last close pair is the greatest of those records; the archive's
error stands unless an erase failed. Without the warning the part enters RUNNING: the interval clock begins one above the
highest archived interval index, at part 0 and position 0, every account takes its numbering and its flags, and the store
write of a defaulted image begins. With the warning asserted the part stays in STARTING, where the clock and the numbering
still stand as they were, and the warning's release brings exactly the state that the scan's end would have brought
without it (R68, R91, R111, R137, R156, R169, R182, R183). The premise `scanQuiet`, no write and no erase in SCANNING, is
kept by every step (RangesAreKept). The model's own: a disabled account begins without a flag (log 34), an index that would
pass 4 294 967 295 stops there (log 21), and with the warning asserted the archive state is IDLE or STOPPED while the part
is still in STARTING (log 73). -/
def Obligations.ScanEndEntersRunning : Prop :=
  (∀ (s : State) (failed : List (Fin 256)), s.stopped = false → s.op = .starting → s.archive.state = .scanning →
    s.scanQuiet → s.warning = false → ∃ t : State, exec (.scanEnd failed) s = .next t ∧ t.op = .running ∧
    (s.scanRepair failed).findingsHanded t t.clock.index ∧ t.clock = { s.clock with
      index := t.clock.index, part := 0, position := 0 } ∧
    (∀ a, (t.accounts.get a).recordIndex = t.clock.index ∧ (t.accounts.get a).part = 0 ∧ (t.accounts.get a).span = 1 ∧
      (t.accounts.get a).flags = ⟨false, false, false, false, s.settings.enabled.get a⟩ ∧
      { t.accounts.get a with
          mains := (s.accounts.get a).mains, stamp := (s.accounts.get a).stamp
          recordIndex := (s.accounts.get a).recordIndex, part := (s.accounts.get a).part
          span := (s.accounts.get a).span, flags := (s.accounts.get a).flags } = s.accounts.get a) ∧
    t.archive.mark = s.archive.mark ∧ t.archive.pins = s.archive.pins ∧
    ((∀ g, (s.nv.segments.get g).unclean = true → g ∉ failed) →
      t.archive.error = s.archive.error ∧ (t.archive.state = .idle ∨ t.archive.state = .reclaiming)) ∧
    t.store = (if s.nv.image.isNone then some (.image Image.default) else s.store) ∧
    t.tie = { s.tie with lastPair := t.tie.lastPair } ∧
    { t with
        op := s.op, accounts := s.accounts, clock := s.clock, tie := s.tie, archive := s.archive,
        nv := { t.nv with segments := s.nv.segments }, notices := s.notices, store := s.store } = s) ∧
  ∀ (s : State) (failed : List (Fin 256)), s.stopped = false → s.op = .starting → s.archive.state = .scanning →
    s.warning = true → ∃ (t : State) (index : Nat), exec (.scanEnd failed) s = .next t ∧
    t.op = .starting ∧ t.warning = true ∧ (s.scanRepair failed).findingsHanded t index ∧
    (∀ a, { t.accounts.get a with
      mains := (s.accounts.get a).mains, stamp := (s.accounts.get a).stamp } = s.accounts.get a) ∧
    { t.archive with
        head := s.archive.head, writePos := s.archive.writePos, nextSeq := s.archive.nextSeq
        state := s.archive.state, error := s.archive.error } = s.archive ∧
    ((∀ g, (s.nv.segments.get g).unclean = true → g ∉ failed) →
      t.archive.error = s.archive.error ∧ t.archive.state = .idle) ∧
    t.tie = { s.tie with lastPair := t.tie.lastPair } ∧
    { t with
        accounts := s.accounts, tie := s.tie, archive := s.archive
        nv := { t.nv with segments := s.nv.segments }, notices := s.notices } = s ∧
    exec .powerFailRelease t = exec (.scanEnd failed) { s with warning := false }

/-- The warning asserted in RUNNING enters CLOSING on the power-fail path and takes a partial close of every enabled
account that finds a place; the rest is EXTENDED, and no record is formed at clock part 255; a running erase is suspended
unless the oldest record needs its segment. DORMANT is entered when the drain has ended: no write in progress, and the queue
empty, the archive STOPPED, or the writer held; the warning's release in CLOSING or DORMANT returns to RUNNING with a
suspended erase resumed unless a write is in progress, and the reclaim test made; the accounts, the queue and the clock are as
they were (R96, R103, R104, R107, R121, R138, R184). The model's
own: ENTER_DORMANT not due changes nothing (log 1); outside RUNNING the warning moves the level of its pin alone (log 48,
log 29 for a stopped part); which waits of the writer end the drain (log 28). -/
def Obligations.PowerFailPath : Prop :=
  (∀ s : State, s.stopped = false → s.op = .running → ∃ t : State, exec .powerFailAssert s = .next t ∧
    t.op = .closing ∧ t.path = some .powerFail ∧ t.warning = true ∧ s.partialTaken t .powerFail ∧
    (s.archive.state = .reclaiming → (∀ r, t.queue.head? = some r → t.fits r.bytes.length = true ∨
      t.nextSegment ≠ s.archive.erase ∨ s.archive.erase = none) → t.archive.state = .suspended) ∧
    (s.archive.state = .reclaiming → s.archive.writing = false → s.archive.erase ≠ none →
      t.nextSegment = s.archive.erase → ∀ r, t.queue.head? = some r → t.fits r.bytes.length = false →
      t.archive.state = .reclaiming) ∧
    { t.archive with state := s.archive.state } = s.archive ∧
    { t with
        op := s.op, path := s.path, warning := s.warning, accounts := s.accounts, queue := s.queue,
        clock := s.clock, notices := s.notices, tie := s.tie, archive := s.archive } = s) ∧
  (∀ s : State, (s.stopped = true ∨ s.op ≠ .running) → exec .powerFailAssert s = .next { s with warning := true }) ∧
  ∀ s : State, s.stopped = false → s.path = some .powerFail →
    (s.op = .closing → s.archive.writing = false → (s.queue = [] ∨ s.archive.state = .stopped) →
      exec .enterDormant s = .next { s with op := .dormant }) ∧
    (∀ r rest, s.op = .closing → s.archive.writing = false → s.archive.state = .idle → s.archive.erase = none →
      s.queue = r :: rest → s.fits r.bytes.length = false →
      (s.nextSegment = none ∨ ∃ g, s.nextSegment = some g ∧ (s.nv.segments.get g).marker = .full ∧
        s.reclaimAllowed g = false) → exec .enterDormant s = .next { s with op := .dormant }) ∧
    (∀ r rest, s.op = .closing → s.archive.state = .idle → s.queue = r :: rest → s.fits r.bytes.length = true →
      exec .enterDormant s = .next s) ∧
    (s.op = .closing → s.archive.writing = true → exec .enterDormant s = .next s) ∧
    ((s.op = .closing ∨ s.op = .dormant) → ∃ t : State, exec .powerFailRelease s = .next t ∧
      t.op = .running ∧ t.path = none ∧ t.warning = false ∧
      ({ s with
        op := .running
        archive := { s.archive with
          state := if s.archive.state = .suspended ∧ s.archive.writing = false then .reclaiming
            else s.archive.state } } : State).reclaimTested t ∧
      { t with
          op := s.op, path := s.path, warning := s.warning, archive := s.archive,
          nv := { t.nv with segments := s.nv.segments }, notices := s.notices } = s)

/-- The restart path: RESTART is answered DONE; the last byte of that reply enters CLOSING with a partial close of reason
restart, whose CLOSE page is open at a PAIRED_PRIMARY unit; the path ends when the drain has ended with no store write and no
such page open, and begins the power-on start, which finishes a reply going out and frees both places (R107, R171, R185). A
page is open until it is acknowledged or the link leaves PAIRED_PRIMARY (log 26; TieTimersAct, ValidPagesAreTaken);
RESTART_PATH_END not due changes nothing (log 1). -/
def Obligations.RestartPath : Prop :=
  (∀ (s : State) (tag : Byte), s.ready → exec (.restart tag []) s =
    .next { s with msg := ⟨[⟨0x7F, tag, []⟩], some ⟨0xFF, tag, .done, [], true⟩, false⟩ }) ∧
  (∀ (s : State) (f : HostFrame) (r : Reply), s.stopped = false → s.op = .running →
    s.msg = ⟨[f], some r, false⟩ → r.restart = true → ∃ t : State, exec .replySent s = .next t ∧
    t.op = .closing ∧ t.path = some .restart ∧ t.msg = ⟨[], none, false⟩ ∧ s.partialTaken t .restart ∧
    (s.tie.state = .pairedPrimary → t.tie.restartOpen = true) ∧
    (s.tie.state ≠ .pairedPrimary → t.tie.restartOpen = s.tie.restartOpen) ∧
    { t with
        op := s.op, path := s.path, accounts := s.accounts, queue := s.queue, clock := s.clock, notices := s.notices,
        tie := s.tie, archive := s.archive, msg := s.msg } = s) ∧
  ∀ s : State, s.stopped = false → s.op = .closing → s.path = some .restart →
    (s.archive.writing = false → (s.queue = [] ∨ s.archive.state = .stopped) → s.store = none →
      s.tie.restartOpen = false → ∃ u : State,
      exec .resetRelease { s with resetLine := true } = .next u ∧ exec .restartPathEnd s =
        .next { u with msg := if s.msg.reply = none then ⟨[], none, false⟩ else { s.msg with abandon := true } }) ∧
    (s.archive.writing = true ∨ s.store ≠ none ∨ s.tie.restartOpen = true → exec .restartPathEnd s = .next s)

/-! ### Lanes, trackers, windows -/

/-- A lane frame takes the empty place or is counted as an extra frame, a late one is counted, and nothing is received in
STARTING (R2, R8). An UP lane whose consecutive-bad count has reached 16 enters DOWN, with LANE_FAULT and its argument; a
DOWN lane whose consecutive-good count has reached 64 enters UP, with no notice; else nothing changes (R5, R6, R173, R174,
log 1). Which scales LANES_OK follows is the model's choice (log 65). -/
def Obligations.LanesTakeEvents : Prop :=
  ∀ (s : State) (l : Fin 4) (bytes : List Byte), s.stopped = false →
    (s.op ≠ .starting → bytes.length = 29 → (s.lanes.get l).place = none → exec (.laneFrameComplete l bytes) s =
      .next { s with lanes := s.lanes.put l { s.lanes.get l with place := some bytes } }) ∧
    (s.op ≠ .starting → bytes.length = 29 → (s.lanes.get l).place ≠ none → exec (.laneFrameComplete l bytes) s =
      .next { s with notices := { s.notices with
        laneErrors := s.notices.laneErrors.put l (min 65535 (s.notices.laneErrors.get l + 1)) } }) ∧
    (s.op ≠ .starting → exec (.laneFrameTimeout l) s =
      .next { s with notices := { s.notices with
        laneErrors := s.notices.laneErrors.put l (min 65535 (s.notices.laneErrors.get l + 1)) } }) ∧
    (s.op = .starting → exec (.laneFrameComplete l bytes) s = .next s ∧ exec (.laneFrameTimeout l) s = .next s) ∧
    ((s.lanes.get l).up = true → (s.lanes.get l).bad = 16 → ∃ t : State, exec (.laneEnterDown l) s = .next t ∧
      t.lanes = s.lanes.put l { s.lanes.get l with up := false } ∧ t.notices.latched.getLsbD 0 = true ∧
      t.notices.laneMask = s.notices.laneMask ||| BitVec.ofNat 4 (2 ^ l.val) ∧
      (s.laneUsed l = true → t.notices.lows.getLsbD 2 = true) ∧
      { t with lanes := s.lanes, notices := s.notices } = s) ∧
    ((s.lanes.get l).up = false ∨ (s.lanes.get l).bad ≠ 16 → exec (.laneEnterDown l) s = .next s) ∧
    ((s.lanes.get l).up = false → (s.lanes.get l).good = 64 → exec (.laneEnterUp l) s =
      .next { s with lanes := s.lanes.put l { s.lanes.get l with up := true } }) ∧
    ((s.lanes.get l).up = true ∨ (s.lanes.get l).good ≠ 64 → exec (.laneEnterUp l) s = .next s)

/-- A raw-sample instant at the lanes: every place is emptied; a good frame sets the expected counter and the counts and
delivers its codes, those marked held aside; any other place delivers the last good code with HELD and raises the lane's
frame error counter; an extreme code of a used channel sets the clip latch, and latches CLIP with the channel's bit where the
latch was clear (R1 to R5, R173, R175). Which scale makes a channel used for the clip test is the model's reading (log 50);
the premise on `settleSample` says that no event of the last raw sample is still due (log 3). -/
def Obligations.RawSampleLanes : Prop :=
  ∀ s : State, s.stopped = false → s.op ≠ .starting → ∃ t : State, exec .rawSampleInstant s = .next t ∧
    (∀ l, (t.lanes.get l).place = none) ∧
    (∀ l f, (s.lanes.get l).holdsGood f →
      (t.lanes.get l).expected = some (byteAt f 1 + 1) ∧ (t.lanes.get l).bad = 0 ∧
      (t.lanes.get l).good = min 64 ((s.lanes.get l).good + 1)) ∧
    (∀ l f, (s.lanes.get l).holdsSound f → ¬ (s.lanes.get l).holdsGood f →
      (t.lanes.get l).expected = some (byteAt f 1 + 1) ∧ (t.lanes.get l).good = 0 ∧
      (t.lanes.get l).bad = min 16 ((s.lanes.get l).bad + 1)) ∧
    (∀ l, (∀ f, ¬ (s.lanes.get l).holdsSound f) →
      (t.lanes.get l).expected = (s.lanes.get l).expected ∧ (t.lanes.get l).good = 0 ∧
      (t.lanes.get l).bad = min 16 ((s.lanes.get l).bad + 1)) ∧
    (∀ c l j f, channelPlace c = (l, j) → (s.lanes.get l).holdsGood f → (byteAt f 26).getLsbD j.val = false →
      (t.channels.get c).last = ofLeInt (slice f (2 + 3 * j.val) 3) ∧ (t.channels.get c).held = false ∧
      (((t.channels.get c).last = -8388608 ∨ (t.channels.get c).last = 8388607) → s.settings.scale.get c ≠ 0 →
        (t.channels.get c).clip = true)) ∧
    (∀ c l j, channelPlace c = (l, j) →
      (∀ f, (s.lanes.get l).holdsGood f → (byteAt f 26).getLsbD j.val = true) →
      (t.channels.get c).last = (s.channels.get c).last ∧ (t.channels.get c).held = true) ∧
    (∀ l f, (s.lanes.get l).holdsGood f → t.notices.laneErrors.get l = s.notices.laneErrors.get l) ∧
    (∀ l, (∀ f, ¬ (s.lanes.get l).holdsGood f) →
      t.notices.laneErrors.get l = min 65535 (s.notices.laneErrors.get l + 1)) ∧
    (let clips (c : Fin 30) : Prop := s.settings.scale.get c ≠ 0 ∧ ∃ l j f, channelPlace c = (l, j) ∧
       (s.lanes.get l).holdsGood f ∧ (byteAt f 26).getLsbD j.val = false ∧
       (ofLeInt (slice f (2 + 3 * j.val) 3) = -8388608 ∨ ofLeInt (slice f (2 + 3 * j.val) 3) = 8388607)
     (∀ c, clips c → (s.channels.get c).clip = false →
       t.notices.latched.getLsbD 2 = true ∧ t.notices.clipMask.getLsbD c.val = true) ∧
     (s.settleSample = s →
       (∀ c, (t.channels.get c).clip = true ↔ (s.channels.get c).clip = true ∨ clips c) ∧
       (∀ c : Fin 30, t.notices.clipMask.getLsbD c.val = true ↔
         s.notices.clipMask.getLsbD c.val = true ∨ ((s.channels.get c).clip = false ∧ clips c)) ∧
       (t.notices.latched.getLsbD 2 = true ↔
         s.notices.latched.getLsbD 2 = true ∨ ∃ c, (s.channels.get c).clip = false ∧ clips c)))

/-- A raw-sample instant at the interval clock and the windows: the position rises by 1, up to L, where a paired secondary
stays; a clock-made close still due is taken first (log 3); a position found at L after the link has left PAIRED_SECONDARY
is closed at this raw sample, to position 0; a window in progress takes the sample, and a timebase that cuts windows and
has none starts one. The sample's row holds each channel's delivered code; the held-so-far mark of a channel delivered as
HELD is set, and the lanes-down-so-far mark of a lane that is DOWN; the window's tracking mark stands while its pacing
tracker is LOCKED at every raw sample. With no event of the last raw sample still due (log 3), the new window takes the
pacing tracker's tracked frequency and whether it is LOCKED, owns its channels by the arrangement and the bindings, fixes
scales, delays and bindings, and has each channel's last delivered code at position −1 (R16, R18, R19, R22, R25, R26, R30,
R95, R98, R110). The model's: the frequency and LOCKED are those before this instant's lanes and trackers act (log 10),
arrangement, bindings, scales and delays those of this moment (log 31), a tap that both timebases could take at one start
is log 52, and the raw-sample index wraps after 2^64 − 1 (log 66). -/
def Obligations.RawSampleClock : Prop :=
  ∀ s : State, s.stopped = false →
    (s.op = .starting → exec .rawSampleInstant s = .next s) ∧
    (s.op ≠ .starting → ∃ t : State, exec .rawSampleInstant s = .next t ∧
      t.sampleIndex = (s.sampleIndex + 1) % 2 ^ 64 ∧
      (s.clock.position < s.clock.samples → t.clock = { s.clock with
        position := s.clock.position + 1
        lateOpen := s.clock.lateOpen && decide (s.clock.position < s.settings.syncWindow * 32000)
        closeReady := decide (s.clock.samples = s.clock.position + 1) && s.tie.state != .pairedSecondary }) ∧
      (s.clock.samples ≤ s.clock.position → s.tie.state = .pairedSecondary → t.clock.closeReady = false ∧
        t.clock.position = s.clock.samples ∧ t.clock.index = s.clock.index ∧ t.clock.part = s.clock.part) ∧
      (s.clock.samples ≤ s.clock.position → s.tie.state ≠ .pairedSecondary → s.clock.closeReady = false →
        s.clock.index < Config.max32 → t.clock.position = s.clock.samples ∧ t.clock.index = s.clock.index ∧
        t.clock.part = s.clock.part ∧ ∃ u, exec .clockMadeClose t = .next u ∧ u.clock.position = 0 ∧
          u.clock.index = s.clock.index + 1 ∧ u.clock.part = 0) ∧
      (s.clock.samples ≤ s.clock.position → s.tie.state ≠ .pairedSecondary → s.clock.closeReady = true →
        s.clock.index < Config.max32 → 0 < s.clock.pendingLength.getD s.clock.length →
        t.clock.position = 1 ∧ t.clock.index = s.clock.index + 1) ∧
      ((∀ v w, (s.timebases.get v).window = some w → w.rows.length < w.n) →
        (∀ v w, (s.timebases.get v).window = some w → ∃ x row, (t.timebases.get v).window = some x ∧
          x.rows = row :: w.rows ∧ (∀ c, row.get c = (t.channels.get c).last) ∧
          (∀ c, x.held.get c = true ↔ w.held.get c = true ∨ (t.channels.get c).held = true) ∧
          (∀ l, x.lanesDown.get l = true ↔ w.lanesDown.get l = true ∨ (t.lanes.get l).downAt) ∧
          (x.locked = true → w.locked = true ∧ (t.trackers.get (w.joined.getD v)).state = .locked) ∧
          (w.locked = true → (s.trackers.get (w.joined.getD v)).state = .locked →
            (t.trackers.get (w.joined.getD v)).state = .locked → x.locked = true) ∧
          { x with rows := w.rows, held := w.held, lanesDown := w.lanesDown, locked := w.locked } = w) ∧
        ∀ v, (s.timebases.get v).window = none → s.arrangement.cuts v = true →
          ∃ x, (t.timebases.get v).window = some x ∧ x.rows.length = 1 ∧ x.number = (s.timebases.get v).number ∧
            x.start = s.sampleIndex ∧ x.n = (2 * 256000000 + x.freq) / (2 * x.freq) ∧
            (∀ c, (x.rows.getD 0 (Table.all 0)).get c = (t.channels.get c).last) ∧
            (∀ l, x.lanesDown.get l = true ↔ (t.lanes.get l).downAt) ∧
            (x.locked = true ↔
              x.lockedAtStart = true ∧ (t.trackers.get (s.arrangement.pacer v)).state = .locked) ∧
            (s.settleSample = s → x.freq = s.trackedFreq (s.arrangement.pacer v) ∧
              (x.lockedAtStart = true ↔ (s.trackers.get (s.arrangement.pacer v)).state = .locked) ∧
              (∀ c, x.prior.get c = (s.channels.get c).last ∧
                (x.held.get c = true ↔ (t.channels.get c).held = true ∨
                  (s.settings.delay.get c < 0 ∧ (s.channels.get c).held = true))) ∧
              x.binding = s.settings.binding ∧ x.scale = s.settings.scale ∧ x.delay = s.settings.delay ∧
              (s.arrangement = .separate → x.joined = none ∧ (∀ u, x.ownsSet.get u = true ↔ u = v) ∧
                ∀ k, x.ownsTap.get k = true ↔ s.settings.binding.get k = v ∧
                  ∀ w, (s.timebases.get (other v)).window = some w → w.ownsTap.get k = false) ∧
              ∀ l, s.arrangement = .common l → x.joined = some l ∧ (∀ u, x.ownsSet.get u = true) ∧
                ∀ k, x.ownsTap.get k = true)) ∧
      { t with
          lanes := s.lanes, channels := s.channels, trackers := s.trackers, timebases := s.timebases,
          sampleIndex := s.sampleIndex, selector := s.selector, accounts := s.accounts, clock := s.clock,
          queue := s.queue, tie := s.tie, notices := s.notices } = s)

/-- The trackers' own events: the abandonment of a cycle 760 raw samples after its crossing, the end of a presence run of
640, and FREE_RUN after 25 windows of HOLDOVER; not due, they change nothing (R9, R10, R12, R13, log 1). Presence compares
exact values, which is the model's reading (log 13). -/
def Obligations.TrackersTakeEvents : Prop :=
  ∀ (s : State) (v : Fin 2), s.stopped = false →
    ((s.trackers.get v).opened ≠ none → 760 ≤ (s.trackers.get v).since → ∃ t : State,
      exec (.cycleAbandon v) s = .next t ∧ (t.trackers.get v).opened = none ∧ (t.trackers.get v).ref = none ∧
      (t.trackers.get v).run = [] ∧ (t.trackers.get v).count = 0 ∧ (t.trackers.get v).freq = (s.trackers.get v).freq ∧
      ((s.trackers.get v).state = .locked → (t.trackers.get v).state = .holdover ∧ (t.trackers.get v).holdover = 0 ∧
        t.notices.latched.getLsbD 1 = true ∧ t.notices.setMask.getLsbD v.val = true ∧
        t.notices.lows.getLsbD v.val = true) ∧
      ((s.trackers.get v).state ≠ .locked → (t.trackers.get v).state = (s.trackers.get v).state ∧
        (t.trackers.get v).holdover = (s.trackers.get v).holdover) ∧
      (∀ u, u ≠ v → t.trackers.get u = s.trackers.get u) ∧
      { t with trackers := s.trackers, timebases := s.timebases, notices := s.notices } = s) ∧
    ((s.trackers.get v).opened = none ∨ (s.trackers.get v).since < 760 → exec (.cycleAbandon v) s = .next s) ∧
    ((s.trackers.get v).ref = none → 640 ≤ (s.trackers.get v).count → ∃ t : State,
      exec (.presenceRunEnd v) s = .next t ∧ (t.trackers.get v).count = 0 ∧
      (∀ p, (t.trackers.get v).present.get p = true ↔
        (s.trackers.get v).laneDown = false ∧ s.settings.scale.get (voltageChannel v p) ≠ 0 ∧
        (s.trackers.get v).count * 8388607 ^ 2 * s.settings.presence.get v ^ 2 * s.settings.nominalVoltage.get v ^ 2 ≤
          (s.trackers.get v).sumSq.get p * 2 * s.settings.scale.get (voltageChannel v p) ^ 2 * 10000) ∧
      (∀ p, (t.trackers.get v).ref = some p ↔ (t.trackers.get v).present.get p = true ∧
        ∀ q, q < p → (t.trackers.get v).present.get q = false) ∧
      (t.trackers.get v).state = (s.trackers.get v).state ∧ (t.trackers.get v).run = (s.trackers.get v).run ∧
      (t.trackers.get v).freq = (s.trackers.get v).freq ∧
      (∀ u, u ≠ v → t.trackers.get u = s.trackers.get u) ∧
      { t with trackers := s.trackers, timebases := s.timebases, notices := s.notices } = s) ∧
    ((s.trackers.get v).ref ≠ none ∨ (s.trackers.get v).count < 640 → exec (.presenceRunEnd v) s = .next s) ∧
    ((s.trackers.get v).state = .holdover → (s.trackers.get v).holdover = 25 → ∃ t : State,
      exec (.trackerEnterFreeRun v) s = .next t ∧
      t.trackers = s.trackers.put v { s.trackers.get v with state := .freeRun, holdover := 0 } ∧
      t.trackedFreq v = s.settings.nominalHz * 1000 ∧
      { t with trackers := s.trackers, timebases := s.timebases, notices := s.notices } = s) ∧
    ((s.trackers.get v).state ≠ .holdover ∨ (s.trackers.get v).holdover < 25 →
      exec (.trackerEnterFreeRun v) s = .next s)

/-- The cycles of a tracker. A crossing of the reference channel closes the open cycle and opens the next; a cycle fails
outside 42 500 to 69 000 mHz, without presence, with a HELD sample, or in LOCKED more than 1 000 mHz off; a failing cycle
empties the run and turns LOCKED into HOLDOVER with its frequency kept; a good one joins the run of at most four, moves the
frequency of LOCKED, and locks a run of four within 50 mHz (R9 to R12). An arrangement made active puts its follower into
FOLLOWING, and the tracker that leaves it into LOCKED or ACQUIRING, with no TRACK_LOST (R15). The first two parts are about
the tracker's own functions, the last says that a raw sample with no event still due runs them. Which raw samples a cycle
holds is the model's reading (log 11), and presence compares exact values (log 13). -/
def Obligations.TrackersMeasureCycles : Prop :=
  (∀ (x : Tracker) (st : Settings) (v : Fin 2) (opening frac : Nat),
    let period := (x.since + 1) * 256 + frac - opening
    let f := (2 * 8192000000 + period) / (2 * period)
    let u := x.closeCycle st v opening frac
    let refPresent := ∃ p, x.ref = some p ∧ x.presentOver st v p
    let fails := f < 42500 ∨ 69000 < f ∨ ¬ refPresent ∨ x.heldRef = true ∨
      (x.state = .locked ∧ (x.freq + 1000 < f ∨ f + 1000 < x.freq))
    let run := (if 4 ≤ x.run.length then x.run.drop 1 else x.run) ++ [f]
    let mean := (2 * run.sum + run.length) / (2 * run.length)
    let close := run.length = 4 ∧ ∀ a ∈ run, ∀ b ∈ run, a ≤ b + 50
    (fails → u.run = [] ∧ u.freq = x.freq ∧
      (x.state = .locked → u.state = .holdover ∧ u.holdover = 0) ∧
      (x.state ≠ .locked → u.state = x.state ∧ u.holdover = x.holdover)) ∧
    (¬ fails → u.run = run ∧
      (x.state = .locked → u.state = .locked ∧ u.freq = mean ∧ u.holdover = x.holdover) ∧
      (x.state = .following → u.state = .following ∧ u.freq = x.freq ∧ u.holdover = x.holdover) ∧
      (x.state = .acquiring ∨ x.state = .holdover ∨ x.state = .freeRun →
        (close → u.state = .locked ∧ u.freq = mean ∧ u.holdover = 0) ∧
        (¬ close → u.state = x.state ∧ u.freq = x.freq ∧ u.holdover = x.holdover))) ∧
    (refPresent → u.ref = x.ref ∧ u.opened = some frac) ∧ (¬ refPresent → u.ref = none ∧ u.opened = none) ∧
    (∀ p, u.present.get p = true ↔ x.presentOver st v p) ∧ u.since = 0 ∧
    ∀ y : SetSample,
      (∀ p, x.ref = some p → y.before.get p < 0 → 0 ≤ y.now.get p → (x.opened = none ∨ 256 ≤ x.since) →
        ∃ at_ : Nat, at_ = (2 * (256 * (y.before.get p).natAbs) + (y.now.get p - y.before.get p).natAbs) /
            (2 * (y.now.get p - y.before.get p).natAbs) ∧
          let z := x.sample st v y
          z.count = 1 ∧ z.laneDown = y.laneDown ∧
          (∀ q, z.sumSq.get q = (y.now.get q * y.now.get q).natAbs) ∧
          (x.opened = none → z.opened = some at_ ∧ z.since = 0 ∧ z.state = x.state ∧ z.freq = x.freq ∧
            z.run = x.run ∧ z.ref = x.ref ∧ z.holdover = x.holdover ∧ z.present = x.present) ∧
          ∀ o, x.opened = some o → let u := x.closeCycle st v o at_
            z.opened = u.opened ∧ z.since = 0 ∧ z.state = u.state ∧ z.freq = u.freq ∧ z.run = u.run ∧
            z.ref = u.ref ∧ z.holdover = u.holdover ∧ z.present = u.present) ∧
      ((∀ p, x.ref = some p → 0 ≤ y.before.get p ∨ y.now.get p < 0 ∨ (x.opened ≠ none ∧ x.since < 256)) →
        let z := x.sample st v y
        z = { x with
          since := if x.opened = none then 0 else x.since + 1
          count := x.count + 1, sumSq := z.sumSq, laneDown := x.laneDown || y.laneDown, heldRef := z.heldRef } ∧
        (∀ q, z.sumSq.get q = x.sumSq.get q + (y.now.get q * y.now.get q).natAbs) ∧
        (z.heldRef = true ↔ x.heldRef = true ∨ ∃ p, x.ref = some p ∧ y.held.get p = true))) ∧
  (∀ (s : State) (a : Arrangement) (v : Fin 2),
    let t := s.arrangeTrackers a
    let x := s.trackers.get v
    let mean := (2 * x.run.sum + x.run.length) / (2 * x.run.length)
    let close := x.run.length = 4 ∧ ∀ f ∈ x.run, ∀ g ∈ x.run, f ≤ g + 50
    (a = .common (other v) → t.trackers.get v = { x with state := .following, holdover := 0 } ∧
      t.trackedFreq v = t.trackedFreq (other v)) ∧
    (a ≠ .common (other v) → x.state = .following →
      (close → t.trackers.get v = { x with state := .locked, freq := mean, holdover := 0 }) ∧
      (¬ close → t.trackers.get v = { x with state := .acquiring, holdover := 0 } ∧
        t.trackedFreq v = s.settings.nominalHz * 1000)) ∧
    (a ≠ .common (other v) → x.state ≠ .following → t.trackers.get v = x) ∧
    { t.notices with lows := s.notices.lows } = s.notices) ∧
  ∀ s : State, s.stopped = false → s.op ≠ .starting → s.settleSample = s → ∃ t : State,
    exec .rawSampleInstant s = .next t ∧ ∀ v, ∃ y : SetSample,
      (∀ p, y.before.get p = (s.channels.get (voltageChannel v p)).last ∧
        y.now.get p = (t.channels.get (voltageChannel v p)).last ∧
        y.held.get p = (t.channels.get (voltageChannel v p)).held) ∧
      y.laneDown = (t.lanes.get 0).downNow ∧ t.trackers.get v = (s.trackers.get v).sample s.settings v y ∧
      ((s.trackers.get v).state = .locked → (t.trackers.get v).state = .holdover →
        t.notices.latched.getLsbD 1 = true ∧ t.notices.setMask.getLsbD v.val = true ∧
        t.notices.lows.getLsbD v.val = true)

/-- A window that has its n samples completes: its table replaces the timebase's with the number, start, n, frequency and
window flags fixed with it, the entries of owned channels marked, an unused channel zero; the clip latches of owned channels
are read and cleared; the pacing tracker counts it in HOLDOVER; the number rises by 1 modulo 2^32. Short of n samples
nothing happens (R13, R18 to R20, R25 to R28, log 1). The premise of the last clause says that no plan switch is applied. -/
def Obligations.WindowCompletes : Prop :=
  (∀ (s : State) (v : Fin 2) (w : Window), s.stopped = false → (s.timebases.get v).window = some w →
    w.n ≤ w.rows.length → ∃ (t : State) (p : PhasorTable), exec (.windowComplete v) s = .next t ∧
    t.timebases.get v = ⟨(w.number + 1) % 2 ^ 32, none, some p⟩ ∧
    p.number = w.number ∧ p.start = w.start ∧ p.n = w.n ∧ p.freq = w.freq ∧ p.joined = w.joined ∧
    (p.track = false ↔ w.lockedAtStart = true ∧ w.locked = true) ∧ p.lanesDown = w.lanesDown ∧
    (∀ c, (p.entries.get c).owned = ownsChannel w.ownsSet w.ownsTap c) ∧
    (∀ c, (p.entries.get c).owned = true → (p.entries.get c).held = w.held.get c ∧
      (p.entries.get c).clip = (s.channels.get c).clip ∧ ((p.entries.get c).unused = true ↔ w.scale.get c = 0) ∧
      (t.channels.get c).clip = false) ∧
    (∀ c, (p.entries.get c).owned = false ∨ w.scale.get c = 0 → (p.entries.get c).rms = 0 ∧
      ∀ i, (p.entries.get c).phasors.get i = ⟨0, 0⟩) ∧
    (∀ c, (t.channels.get c).last = (s.channels.get c).last ∧ (t.channels.get c).held = (s.channels.get c).held) ∧
    (s.arrangement.governing ≠ v ∨ s.selector.pendingPlan = none ∨ s.op ≠ .running →
      (∀ c, (p.entries.get c).owned = false → t.channels.get c = s.channels.get c) ∧
      t.timebases.get (other v) = s.timebases.get (other v) ∧
      (∀ u, t.trackers.get u =
        if u = w.joined.getD v ∧ (s.trackers.get u).state = .holdover then
          { s.trackers.get u with holdover := min 25 ((s.trackers.get u).holdover + 1) }
        else s.trackers.get u) ∧
      { t with
          timebases := s.timebases, channels := s.channels, trackers := s.trackers, accounts := s.accounts,
          notices := s.notices, tie := s.tie } = s)) ∧
  ∀ (s : State) (v : Fin 2), s.stopped = false →
    (∀ w, (s.timebases.get v).window = some w → w.rows.length < w.n) → exec (.windowComplete v) s = .next s

/-- The values of a completed window. The resampled points interpolate the delivered codes at m·n/1024 + d/256, position −1
included; the total RMS is the root of their mean square in mV or mA, rounded half up; each phasor part lies within half a
unit of the exact part, and is held at ±2 147 483 647 beyond it (R21 to R24). The codes and the scale are within their
ranges. How a part that falls on the bound of a rounding is rounded is log 12, and is left open here. -/
def Obligations.PhasorsAreFormed : Prop :=
  ∀ (s : State) (v : Fin 2) (w : Window), s.stopped = false → (s.timebases.get v).window = some w →
    w.n ≤ w.rows.length → ∃ (t : State) (p : PhasorTable), exec (.windowComplete v) s = .next t ∧
    (t.timebases.get v).table = some p ∧
    ∀ c, ownsChannel w.ownsSet w.ownsTap c = true → w.scale.get c ≠ 0 →
      let code (j : Int) : ℝ := (((w.prior.get c :: w.rows.reverse.map (·.get c)).getD (j + 1).toNat 0 : Int) : ℝ)
      let place (m : Nat) : ℝ := m * w.n / 1024 + w.delay.get c / 256
      let x (m : Nat) : ℝ := code ⌊place m⌋ + Int.fract (place m) * (code (⌊place m⌋ + 1) - code ⌊place m⌋)
      let unit : ℝ := w.scale.get c * Real.sqrt 2 / 8388607
      (p.entries.get c).rms = ⌊unit * Real.sqrt ((∑ m ∈ Finset.range 1024, x m ^ 2) / 1024) + 1 / 2⌋₊ ∧
      ((∀ j, |code j| ≤ 8388608) → w.scale.get c ≤ 2000000000 → ∀ i : Fin 40,
        let angle (m : Nat) : ℝ := 2 * Real.pi * (8 * (i.val + 1)) * m / 1024
        let re : ℝ := unit * (Real.sqrt 2 / 1024 * ∑ m ∈ Finset.range 1024, x m * Real.cos (angle m))
        let im : ℝ := unit * -(Real.sqrt 2 / 1024 * ∑ m ∈ Finset.range 1024, x m * Real.sin (angle m))
        let rounded (part : Int) (exact : ℝ) : Prop :=
          (|exact| ≤ 2147483647 → |(part : ℝ) - exact| ≤ 1 / 2 + 1 / 2 ^ 1000) ∧
          (2147483648 ≤ exact → part = 2147483647) ∧ (exact ≤ -2147483648 → part = -2147483647)
        rounded ((p.entries.get c).phasors.get i).re re ∧ rounded ((p.entries.get c).phasors.get i).im im)

/-- A completed window is accounted once, whole, under the active plan: every enabled account with a tap member on it
takes one contribution formed from those members, every other account none; while no plan is active no account takes any
(R35, R50, R51, R56, R57). The members are those of the account with a TAP point whose tap the window owned, each with its
sign (`memberTaps`); the contribution is formed over the completed window's table, which is the one left as the timebase's
phasor table, with the window's ownership and bindings (R27, R28; NetPowerOfWindow says what it is). The premise says that
no plan switch is applied. -/
def Obligations.WindowIsAccounted : Prop :=
  ∀ (s : State) (v : Fin 2) (w : Window), s.stopped = false → (s.timebases.get v).window = some w →
    w.n ≤ w.rows.length → (s.arrangement.governing ≠ v ∨ s.selector.pendingPlan = none ∨ s.op ≠ .running) →
    ∃ (t : State) (table : PhasorTable), exec (.windowComplete v) s = .next t ∧
    (t.timebases.get v).table = some table ∧
    (s.selector.active = none → t.accounts = s.accounts) ∧
    ∀ p c, s.selector.active = some p → s.selector.content = some c → ∀ a,
      let taps := c.memberTaps a w
      let ev : CompletedWindow := ⟨v, table, w.ownsSet, w.ownsTap, w.binding⟩
      t.accounts.get a =
        if s.isEnabled a = true ∧ taps ≠ [] then (s.accounts.get a).contribute (ev.contribution taps) p
        else s.accounts.get a

/-- The net power of a local contribution is the exact signed sum over its present member taps and their three phases of
Vr·Ir + Vi·Ii, and of Vi·Ir − Vr·Ii for the reactive power, clamped at 10^15 and times n, with CLAMPED set where a clamp
acts; a tap on a lane that was DOWN is absent; its current at each order is the largest of the three phase magnitudes of the
signed current sums, rounded half up; TRACK, HELD and CLIP come from the window and the used channels (R52, R58, R60 to R62,
R73). -/
def Obligations.NetPowerOfWindow : Prop :=
  ∀ (ev : CompletedWindow) (taps : List ExportMember),
    let here := taps.filter fun m => !ev.tapAbsent m.tap
    let v (k : Fin 8) (p : Fin 3) (i : Fin 40) : Phasor :=
      (ev.table.entries.get (voltageChannel (ev.binding.get k) p)).phasors.get i
    let c (k : Fin 8) (p : Fin 3) (i : Fin 40) : Phasor := (ev.table.entries.get (currentChannel k p)).phasors.get i
    let P (i : Fin 40) (k : Fin 8) (p : Fin 3) : Int := (v k p i).re * (c k p i).re + (v k p i).im * (c k p i).im
    let Q (k : Fin 8) (p : Fin 3) : Int := (v k p 0).im * (c k p 0).re - (v k p 0).re * (c k p 0).im
    let net (f : Fin 8 → Fin 3 → Int) : Int :=
      (here.map fun m => (if m.plus then 1 else -1) * (f m.tap 0 + f m.tap 1 + f m.tap 2)).sum
    let energy (z : Int) : Int := max (-1000000000000000) (min 1000000000000000 z) * ev.table.n
    (ev.contribution taps).p1n = energy (net (P 0)) ∧ (ev.contribution taps).q1n = energy (net Q) ∧
    (∀ i : Fin 39, (ev.contribution taps).phn.get i = energy (net (P (order40 i)))) ∧
    ((ev.contribution taps).clamped = true ↔ 1000000000000000 < (net (P 0)).natAbs ∨
      1000000000000000 < (net Q).natAbs ∨ ∃ i : Fin 39, 1000000000000000 < (net (P (order40 i))).natAbs) ∧
    ((ev.contribution taps).absent = true ↔ ∃ m ∈ taps, ∃ l ∈ tapLanes m.tap, ev.table.lanesDown.get l = true) ∧
    (let part (p : Fin 3) (i : Fin 40) (f : Phasor → Int) : Int :=
       (here.map fun m => (if m.plus then 1 else -1) * f (c m.tap p i)).sum
     let size (p : Fin 3) (i : Fin 40) : Nat :=
       min 4294967295 ⌊Real.sqrt ((part p i (·.re) ^ 2 + part p i (·.im) ^ 2 : Int) : ℝ) + 1 / 2⌋₊
     ∀ i, (ev.contribution taps).currents.get i = max (size 0 i) (max (size 1 i) (size 2 i))) ∧
    (let used (ch : Fin 30) : Prop := ∃ m ∈ here, ∃ p : Fin 3,
       ch = currentChannel m.tap p ∨ ch = voltageChannel (ev.binding.get m.tap) p
     (ev.contribution taps).track = ev.table.track ∧
     ((ev.contribution taps).held = true ↔ ∃ ch, used ch ∧ (ev.table.entries.get ch).held = true ∧
       (ev.table.entries.get ch).unused = false) ∧
     ((ev.contribution taps).clip = true ↔ ∃ ch, used ch ∧ (ev.table.entries.get ch).clip = true ∧
       (ev.table.entries.get ch).unused = false)) ∧
    (ev.contribution taps).windows = 1 ∧ (ev.contribution taps).incomplete = false

/-- A completion of the governing timebase in RUNNING applies the pending switch: the target becomes the active plan with
its content, marker and replacement mark are cleared, one TOPOLOGY record is placed below 32 records or dropped and
counted, PLAN_SWITCHED is latched; where the arrangement differs the other timebase's window is abandoned and counted, in
the notice unit and in each enabled account that had a member on it under the old content; its number, which the next
window carries, and its phasor table stay; the clip latches of the channels it owned are cleared, as are those of the
completed window, and the others stand; the trackers take the states that the new arrangement gives them; an account of
the new content with peer-slot members at a unit that is not primary is INCOMPLETE; the governing window itself is
accounted under the old content; after a content replacement of the active slot selection runs on the present switch word,
which may set the marker anew or find no match and latch UNMATCHED (R15, R20, R25, R28, R29, R37, R41 to R43, R54). The
model's own: the other timebase's window is abandoned also where its last sample came at the same raw sample and its
completion has not been taken (log 72). -/
def Obligations.PlanSwitchApplies : Prop :=
  ∀ (s : State) (v : Fin 2) (w : Window) (p : Fin 8) (sl : PlanSlot), s.stopped = false → s.op = .running →
    (s.timebases.get v).window = some w → w.n ≤ w.rows.length → s.arrangement.governing = v →
    s.selector.pendingPlan = some p → s.selector.slots.get p = some sl →
    ∃ (t : State) (table : PhasorTable), exec (.windowComplete v) s = .next t ∧
    (t.timebases.get v).table = some table ∧
    t.selector.active = some p ∧ t.selector.content = some sl.content ∧ t.selector.replacement = false ∧
    t.selector.slots = s.selector.slots ∧ t.notices.latched.getLsbD 4 = true ∧
    (let x : Selector := { s.selector with
       active := some p, content := some sl.content, pendingPlan := none, replacement := false }
     (s.selector.active ≠ some p ∨ s.selector.word = none → t.selector = x) ∧
     ∀ word, s.selector.active = some p → s.selector.word = some word → x.selected t.selector word ∧
       ((∀ q, ¬ x.matches word q) → t.notices.latched.getLsbD 3 = true)) ∧
    (s.queue.length < 32 → t.queue = s.queue ++ [.topology
      ⟨s.selector.active, p, s.selector.word.getD 0, s.clock.index, s.clock.part, w.number,
        decide (sl.content.arrangement ≠ s.arrangement) && (s.timebases.get (other v)).window.isSome⟩]) ∧
    (32 ≤ s.queue.length → t.queue = s.queue ∧
      t.notices.droppedTopology = min 65535 (s.notices.droppedTopology + 1)) ∧
    (sl.content.arrangement = s.arrangement → t.timebases.get (other v) = s.timebases.get (other v) ∧
      t.notices.abandoned = s.notices.abandoned) ∧
    (sl.content.arrangement ≠ s.arrangement →
      t.timebases.get (other v) = { s.timebases.get (other v) with window := none } ∧
      ((s.timebases.get (other v)).window ≠ none → t.notices.abandoned = min 65535 (s.notices.abandoned + 1)) ∧
      ((s.timebases.get (other v)).window = none → t.notices.abandoned = s.notices.abandoned)) ∧
    (∀ ch, let cleared := ownsChannel w.ownsSet w.ownsTap ch = true ∨ (sl.content.arrangement ≠ s.arrangement ∧
        ∃ ow, (s.timebases.get (other v)).window = some ow ∧ ownsChannel ow.ownsSet ow.ownsTap ch = true)
      (cleared → t.channels.get ch = { s.channels.get ch with clip := false }) ∧
      (¬ cleared → t.channels.get ch = s.channels.get ch)) ∧
    (∀ u, let x := s.trackers.get u
      let y := if u = w.joined.getD v ∧ x.state = .holdover then { x with holdover := min 25 (x.holdover + 1) } else x
      t.trackers.get u =
        if sl.content.arrangement = s.arrangement then y else y.arrange u sl.content.arrangement) ∧
    (∀ a, let x := s.accounted v w table a
      let y := t.accounts.get a
      let lost := sl.content.arrangement ≠ s.arrangement ∧ s.isEnabled a = true ∧
        ∃ c ow, s.selector.content = some c ∧ (s.timebases.get (other v)).window = some ow ∧ c.loses a ow
      let peer := s.isEnabled a = true ∧ s.tie.state ≠ .pairedPrimary ∧
        ∃ m ∈ sl.content.members, m.account = a ∧ ∃ j, m.point = .peer j
      (lost → y.abandoned = min 65535 (x.abandoned + 1)) ∧ (¬ lost → y.abandoned = x.abandoned) ∧
      (peer → y.flags = { x.flags with incomplete := true }) ∧ (¬ peer → y.flags = x.flags) ∧
      { y with abandoned := x.abandoned, flags := x.flags } = x) ∧
    { t with
        timebases := s.timebases, channels := s.channels, trackers := s.trackers, selector := s.selector,
        accounts := s.accounts, queue := s.queue, notices := s.notices, tie := s.tie } = s

/-! ### Accounting arithmetic -/

/-- The accumulators of a contribution: no energy is lost below the maximum, the residue stays below M, the order of two
products does not matter, above the maximum the whole count stays there while the residue goes on (R66, R67); the products
go to IMPORT, EXPORT and the quadrants by the table of R64, row by row, and at each order to ABS and HABS or to EMI and HEMI
by its sign (R65); SATURATED is set where a whole count is held, CLAMPED and INCOMPLETE by the contribution's flags, the
other interval flags stand; the counts rise by its windows and the plan's bit is set (R59, R69, R70). -/
def Obligations.EnergyIsAccumulated : Prop :=
  (∀ (a : Acc) (c d : Nat), let M := 115200000000000
    (a.add c).residue < M ∧
    (a.saturates c = false → (a.add c).whole * M + (a.add c).residue = a.whole * M + a.residue + c) ∧
    (a.saturates c = true ↔ 4294967295 < a.whole + (a.residue + c) / M) ∧
    (a.saturates c = true → (a.add c).whole = 4294967295 ∧ (a.add c).residue = (a.residue + c) % M) ∧
    (a.whole ≤ 4294967295 → a.residue < M → a.add 0 = a) ∧
    (a.add c).add d = (a.add d).add c ∧ (a.add c).add d = a.add (c + d)) ∧
  ∀ (acc : Account) (c : Contribution) (plan : Fin 8),
    let u := (acc.contribute c plan).mains
    let P := c.p1n.natAbs
    let Q := c.q1n.natAbs
    (0 < c.p1n → u.imp = acc.mains.imp.add P ∧ u.exp = acc.mains.exp.add 0) ∧
    (c.p1n < 0 → u.imp = acc.mains.imp.add 0 ∧ u.exp = acc.mains.exp.add P) ∧
    (c.p1n = 0 → u.imp = acc.mains.imp.add 0 ∧ u.exp = acc.mains.exp.add 0) ∧
    (0 < c.p1n → 0 ≤ c.q1n → u.q1 = acc.mains.q1.add Q ∧ u.q2 = acc.mains.q2.add 0 ∧ u.q3 = acc.mains.q3.add 0 ∧
      u.q4 = acc.mains.q4.add 0) ∧
    (c.p1n ≤ 0 → 0 < c.q1n → u.q1 = acc.mains.q1.add 0 ∧ u.q2 = acc.mains.q2.add Q ∧ u.q3 = acc.mains.q3.add 0 ∧
      u.q4 = acc.mains.q4.add 0) ∧
    (c.p1n < 0 → c.q1n ≤ 0 → u.q1 = acc.mains.q1.add 0 ∧ u.q2 = acc.mains.q2.add 0 ∧ u.q3 = acc.mains.q3.add Q ∧
      u.q4 = acc.mains.q4.add 0) ∧
    (0 ≤ c.p1n → c.q1n < 0 → u.q1 = acc.mains.q1.add 0 ∧ u.q2 = acc.mains.q2.add 0 ∧ u.q3 = acc.mains.q3.add 0 ∧
      u.q4 = acc.mains.q4.add Q) ∧
    (c.p1n = 0 → c.q1n = 0 → u.q1 = acc.mains.q1.add 0 ∧ u.q2 = acc.mains.q2.add 0 ∧ u.q3 = acc.mains.q3.add 0 ∧
      u.q4 = acc.mains.q4.add 0) ∧
    (let y := acc.contribute c plan
     let up (i : Fin 39) : Nat := if 0 < c.phn.get i then (c.phn.get i).natAbs else 0
     let down (i : Fin 39) : Nat := if c.phn.get i < 0 then (c.phn.get i).natAbs else 0
     (∀ i, y.absorbed.get i = (acc.absorbed.get i).add (up i) ∧ y.emitted.get i = (acc.emitted.get i).add (down i)) ∧
     u.habs = acc.mains.habs.add ((List.finRange 39).map up).sum ∧
     u.hemi = acc.mains.hemi.add ((List.finRange 39).map down).sum ∧
     (y.flags.saturated = true ↔ acc.flags.saturated = true ∨
       acc.mains.imp.saturates (if 0 < c.p1n then P else 0) = true ∨
       acc.mains.exp.saturates (if c.p1n < 0 then P else 0) = true ∨
       acc.mains.q1.saturates (if 0 < c.p1n ∧ 0 ≤ c.q1n then Q else 0) = true ∨
       acc.mains.q2.saturates (if c.p1n ≤ 0 ∧ 0 < c.q1n then Q else 0) = true ∨
       acc.mains.q3.saturates (if c.p1n < 0 ∧ c.q1n ≤ 0 then Q else 0) = true ∨
       acc.mains.q4.saturates (if 0 ≤ c.p1n ∧ c.q1n < 0 then Q else 0) = true ∨
       acc.mains.habs.saturates ((List.finRange 39).map up).sum = true ∨
       acc.mains.hemi.saturates ((List.finRange 39).map down).sum = true ∨
       ∃ i, (acc.absorbed.get i).saturates (up i) = true ∨ (acc.emitted.get i).saturates (down i) = true) ∧
     y.flags = { acc.flags with
       saturated := y.flags.saturated
       clamped := acc.flags.clamped || c.clamped
       incomplete := acc.flags.incomplete || c.absent || c.incomplete } ∧
     y.windows = min 4294967295 (acc.windows + c.windows) ∧
     ((c.track || c.held || c.clip || c.absent || c.clamped || c.incomplete) = true →
       y.degraded = min 4294967295 (acc.degraded + c.windows)) ∧
     ((c.track || c.held || c.clip || c.absent || c.clamped || c.incomplete) = false → y.degraded = acc.degraded) ∧
     (∀ q : Fin 8, y.plansUsed.getLsbD q.val = true ↔ acc.plansUsed.getLsbD q.val = true ∨ q = plan) ∧
     y.abandoned = acc.abandoned)

/-- The limit check of a contribution, order by order (R85, R86): the exceedance counter and the consecutive count, with
LIMIT_EXCEEDED and, as the count reaches 10, LIMIT_SUSTAINED; an order without a limit is not tested; peaks take the
maximum (R75, R90). -/
def Obligations.LimitsAreChecked : Prop :=
  ∀ (s : State) (a : Fin 16) (c : Contribution) (plan : Fin 8) (i : Fin 39),
    let acc := s.accounts.get a
    let t := s.contribute a c plan
    let u := t.accounts.get a
    let current := c.currents.get ⟨i.val + 1, by omega⟩
    (acc.limits.get i ≠ 0 → acc.limits.get i < current →
      u.exceed.get i = min 65535 (acc.exceed.get i + 1) ∧ u.consecutive.get i = min 10 (acc.consecutive.get i + 1) ∧
      t.notices.latched.getLsbD 10 = true ∧ t.notices.exceedMask.getLsbD a.val = true ∧
      (acc.consecutive.get i = 9 → t.notices.latched.getLsbD 11 = true ∧
        (t.notices.sustained.get a).getLsbD i.val = true)) ∧
    (acc.limits.get i ≠ 0 → current ≤ acc.limits.get i →
      u.exceed.get i = acc.exceed.get i ∧ u.consecutive.get i = 0) ∧
    (acc.limits.get i = 0 → u.exceed.get i = acc.exceed.get i ∧ u.consecutive.get i = acc.consecutive.get i) ∧
    (acc.limits.get i = 0 ∨ current ≤ acc.limits.get i ∨ acc.consecutive.get i ≠ 9 →
      (t.notices.sustained.get a).getLsbD i.val = (s.notices.sustained.get a).getLsbD i.val) ∧
    (∀ j, u.peaks.get j = max (acc.peaks.get j) (c.currents.get j) ∧
      u.periodPeaks.get j = max (acc.periodPeaks.get j) (c.currents.get j)) ∧
    (∀ b, b ≠ a → t.accounts.get b = s.accounts.get b) ∧
    { t with accounts := s.accounts, notices := s.notices } = s

/-! ### Switch inputs and plans -/

/-- A millisecond sample starts, runs, restarts or stops each input's debounce timer; a completed debounce takes the sampled
level and runs selection; the first switch word takes every level and runs selection; selection chooses the lowest-numbered
matching slot (R34, R35, R37 to R39, log 1). The premises on `switchSample` say that no completion is still due (log 3). A
timer that restarts takes the debounce time in force at the restart, which is the model's reading (log 32). -/
def Obligations.SwitchInputsAreDebounced : Prop :=
  (∀ (s : State) (levels : BitVec 8), s.stopped = false → s.op ≠ .starting →
    (∀ i, (s.selector.inputs.get i).due = false) → s.selector.firstDue = false →
    ∃ t : State, exec (.switchSample levels) s = .next t ∧
    (∀ i, let x := s.selector.inputs.get i
      let y := t.selector.inputs.get i
      let level := levels.getLsbD i.val
      y.level = x.level ∧ y.sampled = some level ∧
      (x.timer = none → x.level = some level → y.timer = none) ∧
      (x.timer = none → x.level ≠ some level → y.timer = some ⟨0, s.settings.debounceTime⟩) ∧
      (∀ d, x.timer = some d → x.sampled = some level → y.timer = some ⟨min d.limit (d.ran + 1), d.limit⟩) ∧
      (∀ d, x.timer = some d → x.sampled ≠ some level → x.level = some level → y.timer = none) ∧
      (∀ d, x.timer = some d → x.sampled ≠ some level → x.level ≠ some level →
        y.timer = some ⟨0, s.settings.debounceTime⟩)) ∧
    { t.selector with inputs := s.selector.inputs } = s.selector ∧ { t with selector := s.selector } = s) ∧
  (∀ (s : State) (levels : BitVec 8), s.op = .starting → exec (.switchSample levels) s = .next s) ∧
  (∀ (s : State) (i : Fin 8) (d : Debounce), s.stopped = false → (s.selector.inputs.get i).level ≠ none →
    (s.selector.inputs.get i).timer = some d → d.limit ≤ d.ran → ∃ t : State, exec (.debounceComplete i) s = .next t ∧
    (let x := s.selector.inputs.get i
     let y := { s.selector with inputs := s.selector.inputs.put i { x with level := x.sampled, timer := none } }
     (∀ w, y.word = some w → y.selected t.selector w) ∧ (y.word = none → t.selector = y)) ∧
    (t.selector.unmatched = true → t.selector.word ≠ none → t.notices.latched.getLsbD 3 = true) ∧
    { t with selector := s.selector, notices := s.notices } = s) ∧
  (∀ (s : State) (i : Fin 8), (∀ d, (s.selector.inputs.get i).timer = some d → d.ran < d.limit) →
    exec (.debounceComplete i) s = .next s) ∧
  (∀ s : State, s.stopped = false → (∀ i, (s.selector.inputs.get i).level = none) →
    (∀ i, ∃ d, (s.selector.inputs.get i).timer = some d ∧ d.limit ≤ d.ran) → ∃ t : State,
    exec .firstSwitchWord s = .next t ∧
    (∀ i, (t.selector.inputs.get i).level = (s.selector.inputs.get i).sampled ∧
      (t.selector.inputs.get i).timer = none) ∧
    (∀ w, t.selector.word = some w → ({ s.selector with inputs := t.selector.inputs }).selected t.selector w) ∧
    { t with selector := s.selector, notices := s.notices } = s) ∧
  ∀ s : State, (∃ i, (s.selector.inputs.get i).level ≠ none) → exec .firstSwitchWord s = .next s

/-- PLAN_OPEN: RANGE above slot 7, SEQUENCE with a buffer present, else an empty pending buffer for the slot, and nothing else
(R44). PLAN_DROP: the buffer is discarded with DONE, or SEQUENCE without one; a buffer discarded by it, by a failed PLAN_ADD or
by a failed PLAN_CONFIRM leaves every plan slot and the switch-pending marker as they were (R47). -/
def Obligations.PlanOpenAndDropAnswer : Prop :=
  (∀ (s : State) (tag b : Byte), s.ready →
    (7 < b.toNat → exec (.planOpen tag [b]) s = .next (s.replied 0x20 tag [b] .range [])) ∧
    (b.toNat ≤ 7 → s.selector.buffer ≠ none →
      exec (.planOpen tag [b]) s = .next (s.replied 0x20 tag [b] .sequence [])) ∧
    ∀ p : Fin 8, b.toNat = p.val → s.selector.buffer = none → exec (.planOpen tag [b]) s =
      .next (({ s with selector := { s.selector with buffer := some ⟨p, []⟩ } }).replied 0x20 tag [b] .done [])) ∧
  ∀ (s : State) (tag : Byte), s.ready →
    (s.selector.buffer ≠ none → exec (.planDrop tag []) s =
      .next (({ s with selector := { s.selector with buffer := none } }).replied 0x23 tag [] .done [])) ∧
    (s.selector.buffer = none → exec (.planDrop tag []) s = .next (s.replied 0x23 tag [] .sequence [])) ∧
    ∀ (c : Instr) (body : List Byte) (t : State) (r : Reply), c = .planAdd tag body ∨ c = .planConfirm tag body →
      exec c s = .next t → t.msg.reply = some r → r.status ≠ .done →
      t.selector.slots = s.selector.slots ∧ t.selector.pendingPlan = s.selector.pendingPlan

/-- PLAN_ADD: its tests in their order, the members appended in the order given with the buffer's count as reply, and the
buffer discarded with RANGE where it would pass 32 members (R45, R165). -/
def Obligations.PlanAddAnswers : Prop :=
  ∀ (s : State) (tag n : Byte) (rest : List Byte), s.ready →
    let body := n :: rest
    let refuse (x : Status) : Host.Outcome State Fault Refusal := .next (s.replied 0x21 tag body x [])
    (s.selector.buffer = none → exec (.planAdd tag body) s = refuse .sequence) ∧
    ∀ buf, s.selector.buffer = some buf →
      (n.toNat = 0 ∨ 8 < n.toNat → exec (.planAdd tag body) s = refuse .range) ∧
      (1 ≤ n.toNat → n.toNat ≤ 8 → rest.length ≠ 4 * n.toNat → exec (.planAdd tag body) s = refuse .length) ∧
      (∀ (good : List Member) (a kind number sign : Byte) (tail : List Byte), n.toNat ≤ 8 →
        rest = good.flatMap Member.bytes ++ [a, kind, number, sign] ++ tail → rest.length = 4 * n.toNat →
        (1 < kind.toNat → exec (.planAdd tag body) s = refuse .field) ∧
        (kind.toNat ≤ 1 → 15 < a.toNat ∨ (kind.toNat = 0 ∧ 7 < number.toNat) ∨ (kind.toNat = 1 ∧ 3 < number.toNat) ∨
          (sign ≠ 0x01 ∧ sign ≠ 0xFF) → exec (.planAdd tag body) s = refuse .range)) ∧
      ∀ ms : List Member, 1 ≤ ms.length → ms.length ≤ 8 → n.toNat = ms.length → rest = ms.flatMap Member.bytes →
        (buf.members.length + ms.length ≤ 32 → exec (.planAdd tag body) s = .next
          (({ s with selector := { s.selector with buffer := some ⟨buf.slot, buf.members ++ ms⟩ } }).replied
            0x21 tag body .done [BitVec.ofNat 8 (buf.members.length + ms.length)])) ∧
        (32 < buf.members.length + ms.length → exec (.planAdd tag body) s = .next
          (({ s with selector := { s.selector with buffer := none } }).replied 0x21 tag body .range []))

/-- PLAN_CONFIRM: SEQUENCE without a buffer, BUSY for a persist during a store write, RANGE with the buffer discarded for
each validation failure; else the slot becomes VALID with the buffer's content, selection runs or, for the active slot, the
replacement becomes pending, and a persist begins a store write (R46, R166). The slot's stored mark is the persist flag of
the confirm, which is the model's reading (log 14). -/
def Obligations.PlanConfirmAnswers : Prop :=
  ∀ (s : State) (tag mask value kind leader flags : Byte), s.ready → (flags = 0 ∨ flags = 1) →
    (kind ≠ 0 ∨ leader = 0) →
    let body := [mask, value, kind, leader, flags]
    (s.selector.buffer = none →
      exec (.planConfirm tag body) s = .next (s.replied 0x22 tag body .sequence [])) ∧
    ∀ buf, s.selector.buffer = some buf →
      (flags = 1 → s.store ≠ none → exec (.planConfirm tag body) s = .next (s.replied 0x22 tag body .busy [])) ∧
      (flags = 0 ∨ s.store = none →
        (buf.members = [] ∨ ¬ (buf.members.map fun m => (m.account, m.point)).Nodup ∨ 1 < kind.toNat ∨
            value &&& ~~~mask ≠ 0 ∨ (kind = 1 ∧ 1 < leader.toNat) →
          exec (.planConfirm tag body) s =
            .next (({ s with selector := { s.selector with buffer := none } }).replied 0x22 tag body .range [])) ∧
        ∀ a : Arrangement, buf.members ≠ [] → (buf.members.map fun m => (m.account, m.point)).Nodup →
          value &&& ~~~mask = 0 →
          ((kind = 0 ∧ a = .separate) ∨ (kind = 1 ∧ ∃ v : Fin 2, leader.toNat = v.val ∧ a = .common v)) →
          ∃ t : State, exec (.planConfirm tag body) s = .next t ∧
          t.msg = (s.replied 0x22 tag body .done []).msg ∧
          (let c : PlanContent := ⟨mask, value, a, buf.members⟩
           let x := { s.selector with
             slots := s.selector.slots.put buf.slot (some ⟨c, flags == 1⟩), buffer := none }
           (s.selector.active = some buf.slot →
             t.selector = { x with replacement := true, pendingPlan := some buf.slot }) ∧
           (s.selector.active ≠ some buf.slot →
             (∀ w, s.selector.word = some w → x.selected t.selector w) ∧ (s.selector.word = none → t.selector = x)) ∧
           (flags = 0 → t.store = s.store) ∧
           (flags = 1 → t.store = some (.image { s.storedImage with
             plans := s.storedImage.plans.put buf.slot (some c) }))) ∧
          { t with selector := s.selector, notices := s.notices, store := s.store, msg := s.msg } = s)

/-- PLAN_CLEAR: IN_USE for the active slot, BUSY for a stored slot during a store write, else the named slots EMPTY, the
stored ones removed by one store write, and selection run where a named slot was VALID (R48). -/
def Obligations.PlanClearAnswers : Prop :=
  ∀ (s : State) (tag mask : Byte), s.ready →
    let named (p : Fin 8) : Prop := mask.getLsbD p.val = true
    let stored (p : Fin 8) : Prop := ∃ c, s.selector.slots.get p = some ⟨c, true⟩
    ((∃ p, named p ∧ s.selector.active = some p) →
      exec (.planClear tag [mask]) s = .next (s.replied 0x24 tag [mask] .inUse [])) ∧
    ((∀ p, named p → s.selector.active ≠ some p) →
      ((∃ p, named p ∧ stored p) → s.store ≠ none →
        exec (.planClear tag [mask]) s = .next (s.replied 0x24 tag [mask] .busy [])) ∧
      ((∀ p, named p → ¬ stored p) ∨ s.store = none → ∃ t : State, exec (.planClear tag [mask]) s = .next t ∧
        t.msg = (s.replied 0x24 tag [mask] .done []).msg ∧
        (∀ p, named p → t.selector.slots.get p = none) ∧
        (∀ p, ¬ named p → t.selector.slots.get p = s.selector.slots.get p) ∧
        (∀ w, (∃ p, named p ∧ s.selector.slots.get p ≠ none) → s.selector.word = some w →
          ({ s.selector with slots := t.selector.slots }).selected t.selector w) ∧
        ((∀ p, named p → s.selector.slots.get p = none) ∨ s.selector.word = none →
          t.selector = { s.selector with slots := t.selector.slots }) ∧
        ((∀ p, named p → ¬ stored p) → t.store = s.store) ∧
        ((∃ p, named p ∧ stored p) → ∃ im, t.store = some (.image im) ∧
          (∀ p, named p ∧ stored p → im.plans.get p = none) ∧
          (∀ p, ¬ (named p ∧ stored p) → im.plans.get p = s.storedImage.plans.get p) ∧
          { im with plans := s.storedImage.plans } = s.storedImage) ∧
        { t with selector := s.selector, notices := s.notices, store := s.store, msg := s.msg } = s))

/-! ### Requests that read -/

/-- IDENT: DONE in every operating state with the same 25 bytes, and no state changes (R167). STATE: DONE in every operating
state with 47 bytes, the items in the table's order at their offsets, and no state changes (R168, R169). The model's own: all
items are those of one moment (log 46), and in STARTING the archive state reads IDLE or STOPPED once the scan has ended
(log 73). -/
def Obligations.IdentAndStateAnswer : Prop :=
  (∀ (s : State) (tag : Byte), s.free → exec (.ident tag []) s = .next (s.replied 0x01 tag [] .done
    [0x40, 0x08, 1, 0x00, 0x7D, 30, 4, 2, 8, 2, 40, 16, 8, 32, 4, 48, 32, 0x00, 0x01, 0x00, 0x80, 4, 0x00, 0x04, 2])) ∧
  ∀ (s : State) (tag : Byte), s.free → ∃ b : List Byte,
    exec (.stateRequest tag []) s = .next (s.replied 0x02 tag [] .done b) ∧ b.length = 47 ∧
    field b 0 1 = s.op.code ∧
    (∀ v : Fin 2, field b (1 + 7 * v.val) 1 = (s.trackers.get v).state.code ∧
      field b (2 + 7 * v.val) 4 = s.trackedFreq v % 2 ^ 32 ∧
      field b (6 + 7 * v.val) 1 = (s.trackers.get v).holdover % 256 ∧
      field b (7 + 7 * v.val) 1 = (match (s.trackers.get v).ref with | some p => p.val | none => 255)) ∧
    (∀ l : Fin 4, (byteAt b 15).getLsbD l.val = (s.lanes.get l).up) ∧
    byteAt b 16 = s.selector.word.getD 0 ∧ (byteAt b 17 = 1 ↔ s.selector.word ≠ none) ∧
    field b 18 1 = (match s.selector.active with | some p => p.val | none => 255) ∧
    field b 19 1 = (match s.selector.pendingPlan with | some p => p.val | none => 255) ∧
    (byteAt b 20).getLsbD 0 = s.selector.replacement ∧ (byteAt b 20).getLsbD 1 = s.selector.unmatched ∧
    field b 21 1 = s.tie.state.code ∧ field b 22 1 = s.archive.state.code ∧ field b 23 1 = s.archive.error.code ∧
    (byteAt b 24 = 1 ↔ s.archive.heldInd = true) ∧ field b 25 1 = s.queue.length % 256 ∧
    field b 26 4 = s.clock.index % 2 ^ 32 ∧ field b 30 1 = s.clock.part % 256 ∧
    field b 31 4 = s.clock.position % 2 ^ 32 ∧ (byteAt b 35 = 1 ↔ s.clock.aligned = true) ∧
    field b 36 4 = s.archive.mark % 2 ^ 32 ∧
    (s.archive.state = .scanning → field b 40 2 = 0xFFFF ∧ field b 42 2 = 0xFFFF ∧ field b 44 2 = 0) ∧
    (s.archive.state ≠ .scanning →
      field b 40 2 = (match s.archive.head with | some g => g.val | none => 0xFFFF) ∧
      field b 42 2 = (match s.tail with | some g => g.val | none => 0xFFFF) ∧ field b 44 2 = s.erasedCount) ∧
    (byteAt b 46 = 1 ↔ s.store ≠ none)

/-- TIE_STATUS, ACCOUNT_READ, LIMIT_GET, PLAN_GET and GET: the refusals in their order, and DONE with the items of the reply
table at their places; none of them changes any state (R49, R76 to R78, R84, R157, R180). The model's choices for
ACCOUNT_READ are the bit order of the interval flags byte (log 55) and FIELD for a quantity mask with bit 7 alone (log 62);
for TIE_STATUS, zeros behind an empty holding slot and behind no last close pair (log 67), and the seeds of the two ROLE
pages, not those of the partner's confirm (log 68). -/
def Obligations.ReadsAnswer : Prop :=
  ∀ (s : State) (tag : Byte), s.ready →
    (∃ b, exec (.tieStatus tag []) s = .next (s.replied 0x62 tag [] .done b) ∧ b.length = 35 ∧
      field b 0 1 = s.tie.state.code ∧ field b 1 1 = s.settings.preference.code ∧ field b 2 1 = s.tie.attempt % 256 ∧
      field b 3 2 = s.tie.ownSeed % 65536 ∧ field b 5 2 = s.tie.partnerSeed % 65536 ∧
      field b 7 1 = s.tie.sendToggle.toNat ∧
      field b 8 1 = (match s.tie.partnerToggle with | some x => x.toNat | none => 255) ∧
      field b 9 1 = (match s.tie.inFlight with | some x => x.code | none => 255) ∧
      field b 10 1 = s.tie.sendCount % 256 ∧
      field b 11 4 = (match s.tie.holding with | some x => x.count % 2 ^ 32 | none => 0) ∧
      field b 15 4 = (match s.tie.holding with | some x => x.first % 2 ^ 32 | none => 0) ∧
      field b 19 1 = s.tie.closeList.length % 256 ∧
      field b 20 1 = (match s.tie.exportBase with | some v => v.val | none => 255) ∧
      field b 21 2 = s.tie.sent % 65536 ∧ field b 23 2 = s.tie.accepted % 65536 ∧ field b 25 2 = s.tie.lost % 65536 ∧
      field b 27 2 = s.tie.merged % 65536 ∧ (byteAt b 29 = 1 ↔ s.tie.lastPair ≠ none) ∧ field b 29 1 ≤ 1 ∧
      field b 30 4 = (match s.tie.lastPair with | some p => p.1 % 2 ^ 32 | none => 0) ∧
      field b 34 1 = (match s.tie.lastPair with | some p => p.2 % 256 | none => 0)) ∧
    (∀ body : List Byte, body.length = 7 →
      let groups := field body 1 1
      let orders := field body 2 5
      let respond (x : Status) (b : List Byte) : Host.Outcome State Fault Refusal :=
        .next (s.replied 0x40 tag body x b)
      (15 < field body 0 1 ∨ groups = 0 → exec (.accountRead tag body) s = respond .range []) ∧
      (field body 0 1 ≤ 15 → 128 ≤ groups → exec (.accountRead tag body) s = respond .field []) ∧
      (field body 0 1 ≤ 15 → 0 < groups → groups < 128 → orders = 0 →
        (groups.testBit 2 || groups.testBit 3 || groups.testBit 4 || groups.testBit 5) = true →
        exec (.accountRead tag body) s = respond .range []) ∧
      ∀ a : Fin 16, field body 0 1 = a.val → 0 < groups → groups < 128 →
        (orders ≠ 0 ∨ (groups.testBit 2 || groups.testBit 3 || groups.testBit 4 || groups.testBit 5) = false) →
        (1024 < accountReadSize groups orders → exec (.accountRead tag body) s = respond .tooLarge []) ∧
        (accountReadSize groups orders ≤ 1024 → ∃ b, exec (.accountRead tag body) s = respond .done b ∧
          ((s.settings.name.get a).length = 8 → b.length = accountReadSize groups orders) ∧ field b 0 1 = a.val ∧
          field b 1 1 = groups ∧ field b 2 5 = orders ∧ field b 7 4 = s.clock.index % 2 ^ 32 ∧
          field b 11 1 = s.clock.part % 256 ∧
          (let acc := s.accounts.get a
           let room (i n : Nat) : Nat := if groups.testBit i then n else 0
           let below (i : Nat) : Nat := ((List.range i).filter fun h => orders.testBit h).length
           let above (i : Nat) : Nat := ((List.range i).filter fun h => orders.testBit (h + 1)).length
           let at2 := 12 + room 0 72
           let at3 := at2 + room 1 24
           let at4 := at3 + room 2 (12 * above 39)
           let at5 := at4 + room 3 (12 * above 39)
           let at6 := at5 + room 4 (4 * below 40)
           let at7 := at6 + room 5 (2 * above 39)
           let entry (off : Nat) (x : Acc) : Prop := field b off 4 = x.whole % 2 ^ 32 ∧ field b (off + 4) 8 = x.residue % 2 ^ 64
           (groups.testBit 0 = true → entry 12 acc.mains.imp ∧ entry 24 acc.mains.exp ∧ entry 36 acc.mains.q1 ∧
             entry 48 acc.mains.q2 ∧ entry 60 acc.mains.q3 ∧ entry 72 acc.mains.q4) ∧
           (groups.testBit 1 = true → entry at2 acc.mains.habs ∧ entry (at2 + 12) acc.mains.hemi) ∧
           (∀ i : Fin 39, orders.testBit (i.val + 1) = true →
             (groups.testBit 2 = true → entry (at3 + 12 * above i.val) (acc.absorbed.get i)) ∧
             (groups.testBit 3 = true → entry (at4 + 12 * above i.val) (acc.emitted.get i)) ∧
             (groups.testBit 5 = true → field b (at6 + 2 * above i.val) 2 = acc.exceed.get i % 65536)) ∧
           (∀ i : Fin 40, orders.testBit i.val = true → groups.testBit 4 = true →
             field b (at5 + 4 * below i.val) 4 = acc.peaks.get i % 2 ^ 32) ∧
           (groups.testBit 6 = true → (s.settings.name.get a).length = 8 →
             field b at7 1 = (s.isEnabled a).toNat ∧ slice b (at7 + 1) 8 = s.settings.name.get a ∧
             field b (at7 + 9) 4 = acc.windows % 2 ^ 32 ∧ field b (at7 + 13) 4 = acc.degraded % 2 ^ 32 ∧
             field b (at7 + 17) 2 = acc.abandoned % 65536 ∧
             (byteAt b (at7 + 19)).getLsbD 0 = acc.flags.saturated ∧
             (byteAt b (at7 + 19)).getLsbD 1 = acc.flags.clamped ∧
             (byteAt b (at7 + 19)).getLsbD 2 = acc.flags.incomplete ∧
             (byteAt b (at7 + 19)).getLsbD 3 = acc.flags.extended ∧
             (byteAt b (at7 + 19)).getLsbD 4 = acc.flags.unaligned ∧
             (byteAt b (at7 + 19)).toNat < 32 ∧ byteAt b (at7 + 20) = acc.plansUsed ∧
             field b (at7 + 21) 1 = acc.span % 256)))) ∧
    (∀ account : Byte,
      (15 < account.toNat →
        exec (.limitGet tag [account]) s = .next (s.replied 0x31 tag [account] .range [])) ∧
      ∀ a : Fin 16, account.toNat = a.val → ∃ b,
        exec (.limitGet tag [account]) s = .next (s.replied 0x31 tag [account] .done b) ∧ b.length = 196 ∧
        byteAt b 0 = account ∧ ∀ i : Fin 39,
          field b (1 + 5 * i.val) 4 = (s.accounts.get a).limits.get i % 2 ^ 32 ∧
          field b (5 + 5 * i.val) 1 = (s.accounts.get a).consecutive.get i % 256) ∧
    (∀ slot : Byte,
      (7 < slot.toNat → exec (.planGet tag [slot]) s = .next (s.replied 0x25 tag [slot] .range [])) ∧
      ∀ p : Fin 8, slot.toNat = p.val →
        (s.selector.slots.get p = none → exec (.planGet tag [slot]) s =
          .next (s.replied 0x25 tag [slot] .done [slot, 0, 0, 0, 0, 0, 0, 0])) ∧
        ∀ sl, s.selector.slots.get p = some sl → ∃ flags : Byte, exec (.planGet tag [slot]) s =
            .next (s.replied 0x25 tag [slot] .done ([slot, 1, flags, sl.content.mask, sl.content.value] ++
              sl.content.arrangement.bytes ++ [BitVec.ofNat 8 sl.content.members.length] ++
              sl.content.members.flatMap Member.bytes)) ∧
          flags.getLsbD 0 = sl.stored ∧ flags.getLsbD 1 = decide (s.selector.active = some p) ∧
          flags.getLsbD 2 = decide (s.selector.pendingPlan = some p) ∧
          flags.getLsbD 3 = (decide (s.selector.active = some p) && s.selector.replacement) ∧ flags.toNat < 16) ∧
    ∀ body : List Byte, body.length = 2 →
      (∀ i : SettingId, field body 0 2 = i.id → exec (.getSetting tag body) s =
        .next (s.replied 0x11 tag body .done (body ++ i.bytes s.settings ++ i.bytes s.storedImage.settings))) ∧
      ((∀ i : SettingId, field body 0 2 ≠ i.id) →
        exec (.getSetting tag body) s = .next (s.replied 0x11 tag body .range []))

/-- SNAPSHOT: the refusals in their order, and DONE with the last completed window's header and one entry per selected
channel with its flags, its total RMS and its phasor parts, in 24 + channels × (8 + 8 × orders) bytes; no state changes (R32,
R33). That a mask with bits 30 and 31 alone counts as no empty mask is the model's choice (log 53). -/
def Obligations.SnapshotAnswers : Prop :=
  ∀ (s : State) (tag : Byte) (body : List Byte), s.ready → body.length = 10 →
    let channels := field body 1 4
    let orders := field body 5 5
    let size := 24 + countBits 30 channels * (8 + 8 * countBits 40 orders)
    let refuse (x : Status) : Host.Outcome State Fault Refusal := .next (s.replied 0x42 tag body x [])
    (1 < field body 0 1 ∨ channels = 0 ∨ orders = 0 → exec (.snapshot tag body) s = refuse .range) ∧
    (field body 0 1 ≤ 1 → orders ≠ 0 → 2 ^ 30 ≤ channels → exec (.snapshot tag body) s = refuse .field) ∧
    ∀ v : Fin 2, field body 0 1 = v.val → orders ≠ 0 → channels ≠ 0 → channels < 2 ^ 30 →
      ((s.timebases.get v).table = none → exec (.snapshot tag body) s = refuse .refusedState) ∧
      ∀ p, (s.timebases.get v).table = some p →
        (1024 < size → exec (.snapshot tag body) s = refuse .tooLarge) ∧
        (size ≤ 1024 → ∃ b, exec (.snapshot tag body) s = .next (s.replied 0x42 tag body .done b) ∧
          b.length = size ∧ field b 0 1 = v.val ∧ field b 1 4 = p.number % 2 ^ 32 ∧ field b 5 8 = p.start % 2 ^ 64 ∧
          field b 13 2 = p.n % 2 ^ 16 ∧ field b 15 4 = p.freq % 2 ^ 32 ∧
          (byteAt b 19).getLsbD 0 = p.track ∧ (byteAt b 19).getLsbD 1 = p.joined.isSome ∧
          (∀ l : Fin 4, (byteAt b 19).getLsbD (2 + l.val) = p.lanesDown.get l) ∧ (byteAt b 19).toNat < 64 ∧
          field b 20 4 = 0 ∧
          ∀ c : Fin 30, channels.testBit c.val = true →
            let e := p.entries.get c
            let off := 24 + countBits c.val channels * (8 + 8 * countBits 40 orders)
            field b off 1 = c.val ∧ (byteAt b (off + 1)).getLsbD 0 = (!e.owned) ∧
            (byteAt b (off + 1)).getLsbD 1 = e.unused ∧ (byteAt b (off + 1)).getLsbD 2 = e.held ∧
            (byteAt b (off + 1)).getLsbD 3 = e.clip ∧ (byteAt b (off + 1)).toNat < 16 ∧
            field b (off + 2) 4 = e.rms % 2 ^ 32 ∧ field b (off + 6) 2 = 0 ∧
            ∀ i : Fin 40, orders.testBit i.val = true →
              (field b (off + 8 + 8 * countBits i.val orders) 4 : Int) = (e.phasors.get i).re % 2 ^ 32 ∧
              (field b (off + 12 + 8 * countBits i.val orders) 4 : Int) = (e.phasors.get i).im % 2 ^ 32)

/-! ### Notices -/

/-- NOTICE_TAKE copies every item into 114 bytes and clears notices, arguments and counters, each latched-low condition
taking its present condition, in every operating state; NOTICE_RAISE latches TEST; the pulse's end ends it. A latching pulses
the line in PULSE_CLOSE where it is CLOSED, latched and masked or not, and in PULSE_ANY where an unmasked notice was not
latched; a CLOSE_NOW that forms records pulses it in PULSE_CLOSE, and one that forms none does not (R174 to R177). -/
def Obligations.NoticesAreTaken : Prop :=
  (∀ (s : State) (tag : Byte), s.free → ∃ b : List Byte, exec (.noticeTake tag []) s = .next
    (({ s with notices :=
        { latched := 0, laneMask := 0, setMask := 0, clipMask := 0, exceedMask := 0, sustained := Table.all 0
          lows := s.presentBad, laneErrors := Table.all 0, discarded := 0, overruns := 0, resent := 0, badPages := 0
          abandoned := 0, syncFaults := 0, droppedTopology := 0, pulse := s.notices.pulse } }).replied
      0x70 tag [] .done b) ∧ b.length = 114 ∧
    field b 0 3 = s.notices.latched.toNat ∧ field b 3 1 = s.notices.laneMask.toNat ∧
    field b 4 1 = s.notices.setMask.toNat ∧ field b 5 4 = s.notices.clipMask.toNat ∧
    field b 9 2 = s.notices.exceedMask.toNat ∧
    (∀ a : Fin 16, field b (11 + 5 * a.val) 5 = (s.notices.sustained.get a).toNat) ∧
    field b 91 1 = s.notices.lows.toNat ∧
    (∀ l : Fin 4, field b (92 + 2 * l.val) 2 = s.notices.laneErrors.get l % 65536) ∧
    field b 100 2 = s.notices.discarded % 65536 ∧ field b 102 2 = s.notices.overruns % 65536 ∧
    field b 104 2 = s.notices.resent % 65536 ∧ field b 106 2 = s.notices.badPages % 65536 ∧
    field b 108 2 = s.notices.abandoned % 65536 ∧ field b 110 2 = s.notices.syncFaults % 65536 ∧
    field b 112 2 = s.notices.droppedTopology % 65536) ∧
  (∀ (s : State) (tag : Byte), s.ready → ∃ t : State, exec (.noticeRaise tag []) s = .next t ∧
    t.msg = (s.replied 0x71 tag [] .done []).msg ∧ t.notices.latched = s.notices.latched ||| 0x20000#18 ∧
    (s.settings.attentionMode = .level → s.settings.noticeMask.getLsbD 17 = false → t.attentionLine = true) ∧
    (s.settings.attentionMode = .pulseAny → s.settings.noticeMask.getLsbD 17 = false →
      s.notices.latched.getLsbD 17 = false → t.attentionLine = true) ∧
    (s.settings.attentionMode ≠ .pulseAny → t.notices.pulse = s.notices.pulse) ∧
    { t.notices with latched := s.notices.latched, pulse := s.notices.pulse } = s.notices ∧
    { t with notices := s.notices, msg := s.msg } = s) ∧
  (∀ (s : State) (x : Notice),
    (s.settings.attentionMode = .level → (s.latch x).notices.pulse = s.notices.pulse) ∧
    (s.settings.attentionMode = .pulseClose →
      ((s.latch x).notices.pulse = true ↔ s.notices.pulse = true ∨ x = .closed)) ∧
    (s.settings.attentionMode = .pulseAny → ((s.latch x).notices.pulse = true ↔ s.notices.pulse = true ∨
      (s.notices.latched.getLsbD x.bit = false ∧ s.settings.noticeMask.getLsbD x.bit = false)))) ∧
  (∀ (s : State) (tag : Byte), s.ready → s.settings.attentionMode = .pulseClose → s.tie.state ≠ .pairedSecondary →
    s.clock.index < Config.max32 → ∃ t : State, exec (.closeNow tag []) s = .next t ∧
    (s.enabledAccounts ≠ [] → s.queue.length + s.enabledAccounts.length ≤ 32 →
      t.notices.latched.getLsbD 16 = true ∧ t.notices.pulse = true ∧ t.attentionLine = true) ∧
    (s.enabledAccounts = [] ∨ 32 < s.queue.length + s.enabledAccounts.length →
      t.notices.pulse = s.notices.pulse)) ∧
  ∀ s : State, s.stopped = false →
    exec .attentionPulseEnd s = .next { s with notices := { s.notices with pulse := false } }

/-! ### Limits, peaks, intervals -/

/-- LIMIT_LOAD: RANGE, LENGTH and BUSY in their order with nothing changed; else the loaded orders take their limits and
their consecutive counts become 0, the rest of the account stands, and a persist begins a store write of the account's
limits (R82, R83, R165). PEAK_SWAP returns old stamp, new stamp and the selected period peaks, and clears all 40 (R91 to
R93). The model's readings: an order that the request does not load is stored at its value when the write begins (log 15);
the new stamp pairs the clock's index with the account's part (log 56) and takes the number of the governing timebase's phasor
table, 0 where it has none (log 40); that timebase is the leader of the active content's COMMON arrangement, else timebase 0
(R40). -/
def Obligations.LimitLoadAndPeakSwapAnswer : Prop :=
  (∀ (s : State) (tag account first count flags : Byte) (limits : List Byte), s.ready → (flags = 0 ∨ flags = 1) →
    let body := [account, first, count, flags, 0, 0, 0, 0] ++ limits
    let refuse (x : Status) : Host.Outcome State Fault Refusal := .next (s.replied 0x30 tag body x [])
    (15 < account.toNat ∨ first.toNat < 2 ∨ 40 < first.toNat ∨ count.toNat = 0 ∨ 39 < count.toNat ∨
      40 < first.toNat + count.toNat - 1 → exec (.limitLoad tag body) s = refuse .range) ∧
    ∀ a : Fin 16, account.toNat = a.val → 2 ≤ first.toNat → first.toNat ≤ 40 → 1 ≤ count.toNat → count.toNat ≤ 39 →
      first.toNat + count.toNat - 1 ≤ 40 →
      (limits.length ≠ 4 * count.toNat → exec (.limitLoad tag body) s = refuse .length) ∧
      (limits.length = 4 * count.toNat →
        (flags = 1 → s.store ≠ none → exec (.limitLoad tag body) s = refuse .busy) ∧
        (flags = 0 ∨ s.store = none → ∃ t : State, exec (.limitLoad tag body) s = .next t ∧
          t.msg = (s.replied 0x30 tag body .done []).msg ∧
          (∀ i : Fin 39,
            (first.toNat ≤ i.val + 2 → i.val + 2 < first.toNat + count.toNat →
              (t.accounts.get a).limits.get i = field limits (4 * (i.val + 2 - first.toNat)) 4 ∧
              (t.accounts.get a).consecutive.get i = 0) ∧
            (i.val + 2 < first.toNat ∨ first.toNat + count.toNat ≤ i.val + 2 →
              (t.accounts.get a).limits.get i = (s.accounts.get a).limits.get i ∧
              (t.accounts.get a).consecutive.get i = (s.accounts.get a).consecutive.get i)) ∧
          { t.accounts.get a with
            limits := (s.accounts.get a).limits
            consecutive := (s.accounts.get a).consecutive } = s.accounts.get a ∧
          (∀ b, b ≠ a → t.accounts.get b = s.accounts.get b) ∧
          (flags = 0 → t.store = s.store) ∧
          (flags = 1 → t.store = some (.image { s.storedImage with
            limits := s.storedImage.limits.put a (t.accounts.get a).limits })) ∧
          { t with accounts := s.accounts, store := s.store, msg := s.msg } = s))) ∧
  ∀ (s : State) (tag account : Byte) (mask : List Byte), s.ready → mask.length = 5 →
    (15 < account.toNat → exec (.peakSwap tag (account :: mask)) s =
      .next (s.replied 0x41 tag (account :: mask) .range [])) ∧
    ∀ a : Fin 16, account.toNat = a.val →
      let acc := s.accounts.get a
      let governing : Fin 2 := match s.selector.content with
        | some c => (match c.arrangement with | .common leader => leader | .separate => 0)
        | none => 0
      let number := match (s.timebases.get governing).table with | some p => p.number | none => 0
      let now : Stamp := ⟨s.clock.index, acc.part, number⟩
      exec (.peakSwap tag (account :: mask)) s = .next (({ s with
        accounts := s.accounts.put a { acc with periodPeaks := Table.all 0, stamp := now } }).replied
          0x41 tag (account :: mask) .done
          ([account] ++ mask ++ acc.stamp.bytes ++ now.bytes ++
            ((List.finRange 40).filter fun i : Fin 40 => (ofLe mask).testBit i.val).flatMap
              fun i => leBytes 4 (acc.periodPeaks.get i)))

/-- The normal closes: the clock-made close when the position has reached L, the sync-made close for a pulse in the early
window of an aligned interval, and CLOSE_NOW, which leaves the clock UNALIGNED and whose reply gives the new index and
whether there was room. Not due, nothing happens (log 1); a paired secondary takes none of them (R95, R97, R102 to R106,
R110). The model's choices: a close at index 4 294 967 295 raises the part, with or without room (log 21), and a pulse at a
position that stands at L after PAIRED_SECONDARY makes the close at once (log 63). -/
def Obligations.NormalClosesAreTaken : Prop :=
  (∀ s : State, s.stopped = false → s.op ≠ .starting → s.tie.state ≠ .pairedSecondary → s.clock.index ≤ Config.max32 →
    (s.clock.samples ≤ s.clock.position → s.clock.closeReady = true → ∃ t : State, exec .clockMadeClose s = .next t ∧
      s.normalTaken t .clockMade s.clock.aligned s.clock.aligned) ∧
    (s.clock.position < s.clock.samples ∨ s.clock.closeReady = false → exec .clockMadeClose s = .next s) ∧
    (s.clock.aligned = true → s.clock.samples ≤ s.clock.position + s.settings.syncWindow * 32000 →
      ∃ t : State, exec .syncPulse s = .next t ∧ s.normalTaken t .syncMade true false)) ∧
  (∀ s : State, s.tie.state = .pairedSecondary →
    exec .clockMadeClose s = .next s ∧ exec .syncPulse s = .next s) ∧
  ∀ (s : State) (tag : Byte), s.ready → s.clock.index ≤ Config.max32 →
    (s.tie.state = .pairedSecondary →
      exec (.closeNow tag []) s = .next (s.replied 0x61 tag [] .refusedState [])) ∧
    (s.tie.state ≠ .pairedSecondary → ∃ t : State,
      exec (.closeNow tag []) s = .next (t.replied 0x61 tag [] .done (leBytes 4 t.clock.index ++
        [if s.enabledAccounts = [] ∨ s.queue.length + s.enabledAccounts.length ≤ 32 then 1 else 0])) ∧
      s.normalTaken t .closeNow false false)

/-- The other sync pulses and the end of the late allowance: a late pulse restarts the interval without a close, an
outside pulse is a SYNC_FAULT, latched and counted, that changes nothing else but a pulse of the line in PULSE_ANY (R177),
an unaligned clock without content is aligned where it stands, and with content is closed as PARTIAL with reason sync and
advances, at any index with the span of each account not formed raised (R98 to R100, R103, R104, R107; index and part at
the greatest index are log 21). LATE_ALLOWANCE_EXPIRE not due changes nothing (log 1). -/
def Obligations.SyncPulsesAlign : Prop :=
  ∀ s : State, s.stopped = false → s.op ≠ .starting → s.tie.state ≠ .pairedSecondary →
    let w := s.settings.syncWindow * 32000
    (s.clock.aligned = true → s.clock.position + w < s.clock.samples → s.clock.lateOpen = true →
      s.clock.position < w →
      exec .syncPulse s = .next { s with clock := { s.clock with position := 0, lateOpen := false } }) ∧
    (s.clock.aligned = true → s.clock.position + w < s.clock.samples →
      (s.clock.lateOpen = false ∨ w ≤ s.clock.position) → ∃ t : State, exec .syncPulse s = .next t ∧
      t.notices.latched = s.notices.latched ||| 0x00020#18 ∧
      t.notices.syncFaults = min 65535 (s.notices.syncFaults + 1) ∧
      (t.notices.pulse = true ↔ s.notices.pulse = true ∨ (s.settings.attentionMode = .pulseAny ∧
        s.notices.latched.getLsbD 5 = false ∧ s.settings.noticeMask.getLsbD 5 = false)) ∧
      { t.notices with
          latched := s.notices.latched, syncFaults := s.notices.syncFaults, pulse := s.notices.pulse } = s.notices ∧
      { t with notices := s.notices } = s) ∧
    (s.clock.aligned = false → s.hasContent = false → ∃ t : State, exec .syncPulse s = .next t ∧
      t.clock = ⟨s.clock.index, s.clock.part, 0, s.clock.pendingLength.getD s.clock.length, none, true, false, false⟩ ∧
      (∀ a, s.isEnabled a = true → t.accounts.get a =
        { s.accounts.get a with flags := { (s.accounts.get a).flags with unaligned := false } }) ∧
      (∀ a, s.isEnabled a = false → t.accounts.get a = s.accounts.get a) ∧
      { t with accounts := s.accounts, clock := s.clock } = s) ∧
    (s.clock.aligned = false → s.hasContent = true → ∃ t : State, exec .syncPulse s = .next t ∧
      (let formed := s.enabledAccounts.take s.partialCount
       let index := if s.clock.index < Config.max32 then s.clock.index + 1 else s.clock.index
       let part := if s.clock.index < Config.max32 then 0 else if formed = [] then s.clock.part else s.clock.part + 1
       t.clock = ⟨index, part, 0, s.clock.pendingLength.getD s.clock.length, none, true, false, false⟩ ∧
       s.closed t formed .localPartial (some .sync) index part true true) ∧
      (s.tie.state ≠ .pairedPrimary → t.tie = { s.tie with lastPair := some (s.clock.index, s.clock.part) }) ∧
      s.sameButClose t) ∧
    (s.clock.lateOpen = true → w ≤ s.clock.position →
      exec .lateAllowanceExpire s = .next { s with clock := { s.clock with lateOpen := false } }) ∧
    (s.clock.lateOpen = false ∨ s.clock.position < w → exec .lateAllowanceExpire s = .next s)

/-- ALIGN: RANGE for a lower index or a position at or above the length it brings into force, REFUSED_STATE at a paired
secondary; else a partial close of reason align where the interval has content, then the given index and position, ALIGNED,
and the reply with index, part and position; the part is raised only where a record is formed at the same index (R101, R103,
R104, R107). The model's readings: without content the UNALIGNED flags stand (log 23), and where the index then advances each
enabled account that stood at the clock's index takes the new index and part 0, the others keep their numbering (log 36). -/
def Obligations.AlignAnswers : Prop :=
  ∀ (s : State) (tag : Byte) (body : List Byte), s.ready → body.length = 8 →
    let index := field body 0 4
    let seconds := field body 4 4
    let length := s.clock.pendingLength.getD s.clock.length
    (index < s.clock.index ∨ length * 60 ≤ seconds →
      exec (.align tag body) s = .next (s.replied 0x60 tag body .range [])) ∧
    (s.clock.index ≤ index → seconds < length * 60 → s.tie.state = .pairedSecondary →
      exec (.align tag body) s = .next (s.replied 0x60 tag body .refusedState [])) ∧
    (s.clock.index ≤ index → seconds < length * 60 → s.tie.state ≠ .pairedSecondary → ∃ (t : State) (part : Nat),
      exec (.align tag body) s = .next (t.replied 0x60 tag body .done
        (leBytes 4 index ++ leBytes 1 part ++ leBytes 4 (seconds * 32000))) ∧
      t.clock = ⟨index, part, seconds * 32000, length, none, true, false, false⟩ ∧
      (s.clock.index < index → part = 0) ∧
      (index = s.clock.index → s.hasContent = false → part = s.clock.part) ∧
      (index = s.clock.index → s.hasContent = true → s.enabledAccounts.take s.partialCount ≠ [] →
        part = s.clock.part + 1) ∧
      (index = s.clock.index → s.hasContent = true → s.enabledAccounts.take s.partialCount = [] →
        part = s.clock.part) ∧
      (s.hasContent = true → s.closed t (s.enabledAccounts.take s.partialCount) .localPartial (some .align) index part
        true (decide (s.clock.index < index))) ∧
      (s.hasContent = false → t.queue = s.queue ∧ t.notices = s.notices ∧ t.tie = s.tie ∧
        ∀ a, t.accounts.get a =
          if s.isEnabled a = true ∧ (s.accounts.get a).recordIndex = s.clock.index ∧ s.clock.index < index then
            { s.accounts.get a with recordIndex := index, part := 0 }
          else s.accounts.get a) ∧
      s.sameButClose t)

/-- At a PAIRED_PRIMARY unit each close of the clock makes a CLOSE page with the clock's pair before the close and its
reason: the clock-made close, the sync-made close, the partial close of an aligning pulse, of ALIGN, of the power-fail and of
the restart path, and CLOSE_NOW; with or without room. The page is in flight at once where nothing is in flight or listed,
else behind the others, the newest of four replaced. The close of a disabled account makes none (R101, R107, R108, R110, R153,
R155). The sync-made close at a position that stands at L is log 63. -/
def Obligations.ClosesAreHanded : Prop :=
  ∀ (s t : State) (c : Instr) (reason : Option CloseReason), s.stopped = false → s.tie.state = .pairedPrimary →
    (c = .clockMadeClose ∧ reason = none ∧ s.op ≠ .starting ∧ s.clock.closeReady = true ∧
        s.clock.samples ≤ s.clock.position ∨
      c = .syncPulse ∧ reason = none ∧ s.op ≠ .starting ∧ s.clock.aligned = true ∧
        s.clock.samples ≤ s.clock.position + s.settings.syncWindow * 32000 ∨
      c = .syncPulse ∧ reason = some .sync ∧ s.op ≠ .starting ∧ s.clock.aligned = false ∧ s.hasContent = true ∨
      (∃ tag body, c = .align tag body ∧ reason = some .align ∧ s.ready ∧ body.length = 8 ∧
        s.clock.index ≤ field body 0 4 ∧
        field body 4 4 < s.clock.pendingLength.getD s.clock.length * 60 ∧ s.hasContent = true) ∨
      (∃ tag, c = .closeNow tag [] ∧ reason = none ∧ s.ready) ∨
      c = .powerFailAssert ∧ reason = some .powerFail ∧ s.op = .running ∨
      (∃ f r, c = .replySent ∧ reason = some .restart ∧ s.op = .running ∧ s.msg = ⟨[f], some r, false⟩ ∧
        r.restart = true)) →
    exec c s = .next t →
    let page : CloseBody := ⟨s.clock.index, s.clock.part, reason⟩
    (s.tie.inFlight = none → s.tie.closeList = [] → t.tie.inFlight = some (.close page) ∧ t.tie.sendCount = 1 ∧
      t.tie.closeList = [] ∧
      t.tie.lastSent = some (Page.bytes ⟨.close page, s.tie.sendToggle, s.tie.partnerToggle⟩)) ∧
    (s.tie.inFlight ≠ none → s.tie.closeList.length < 4 → t.tie.inFlight = s.tie.inFlight ∧
      t.tie.closeList = s.tie.closeList ++ [page] ∧ t.tie.merged = s.tie.merged) ∧
    (s.tie.inFlight ≠ none → s.tie.closeList.length = 4 → t.tie.inFlight = s.tie.inFlight ∧
      t.tie.closeList = s.tie.closeList.take 3 ++ [page] ∧ t.tie.merged = min 65535 (s.tie.merged + 1)) ∧
    t.tie.lastPair = some (s.clock.index, s.clock.part) ∧ t.tie.holding = s.tie.holding ∧
    ∀ (tag : Byte) (a : Fin 16) (u : State), s.ready → s.isEnabled a = true → s.queue.length < 48 → s.clock.part < 255 →
      exec (.setSetting tag (leBytes 2 (SettingId.enabled a).id ++ [0, 0, 0])) s = .next u →
      u.isEnabled a = false ∧ u.tie = { s.tie with lastPair := some (s.clock.index, s.clock.part) }

/-- The records. An interval record that a close forms has the items of the account record as it stands, the account's name,
the clock's length, the active plan and the close's cause and reason, at the places of the layout; its order list holds the
orders of the account's archive order mask, ascending; a topology record has 20 bytes; each ends with the check over the
bytes before it (R43, R103, R114, R115). A reason byte that no table lists is log 35. -/
def Obligations.RecordsAreFormed : Prop :=
  (∀ (s : State) (a : Fin 16) (cause : CloseCause) (reason : Option CloseReason), (s.settings.name.get a).length = 8 →
    let b := (Record.interval (s.formRecord a cause reason)).bytes
    let acc := s.accounts.get a
    let m := acc.mains
    let ks := (List.finRange 39).filter fun i => acc.maskInForce.getLsbD i.val
    b.length = 128 + 14 * ks.length ∧ slice b 0 2 = [0x3C, 0xA5] ∧ field b 2 2 = 128 + 14 * ks.length ∧
    byteAt b 4 = (if reason = none then 0x11 else 0x12) ∧
    field b 5 1 = (match reason with
      | none => 0 | some .powerFail => 1 | some .restart => 2 | some .align => 3 | some .sync => 4
      | some .disable => 5
      | some (.other x) => x.toNat) ∧
    field b 6 1 = (match cause with
      | .localPartial => 0 | .clockMade => 1 | .syncMade => 2 | .closeNow => 3 | .closePage => 4) ∧
    field b 7 1 = a.val ∧ field b 8 4 = acc.recordIndex % 2 ^ 32 ∧ field b 12 1 = acc.part % 256 ∧
    field b 13 1 = acc.span % 256 ∧ (byteAt b 14).getLsbD 0 = acc.flags.saturated ∧
    (byteAt b 14).getLsbD 1 = acc.flags.clamped ∧ (byteAt b 14).getLsbD 2 = acc.flags.incomplete ∧
    (byteAt b 14).getLsbD 3 = acc.flags.extended ∧ (byteAt b 14).getLsbD 4 = acc.flags.unaligned ∧
    (byteAt b 14).toNat < 32 ∧ field b 15 1 = s.clock.length % 256 ∧ slice b 16 8 = s.settings.name.get a ∧
    field b 24 4 = acc.windows % 2 ^ 32 ∧ field b 28 4 = acc.degraded % 2 ^ 32 ∧
    field b 32 2 = acc.abandoned % 65536 ∧ byteAt b 34 = acc.plansUsed ∧
    field b 35 1 = (match s.selector.active with | some p => p.val | none => 255) ∧
    field b 36 4 = acc.peaks.get 0 % 2 ^ 32 ∧
    (∀ k : Fin 8, let x := [m.imp, m.exp, m.q1, m.q2, m.q3, m.q4, m.habs, m.hemi].getD k.val ⟨0, 0⟩
      field b (40 + 4 * k.val) 4 = x.whole % 2 ^ 32 ∧ field b (72 + 6 * k.val) 6 = x.residue % 2 ^ 48) ∧
    field b 120 5 = acc.maskInForce.toNat ∧ field b 125 1 = ks.length ∧
    (∀ (j : Nat) (i : Fin 39), ks[j]? = some i →
      field b (126 + 14 * j) 4 = (acc.absorbed.get i).whole % 2 ^ 32 ∧
      field b (130 + 14 * j) 4 = (acc.emitted.get i).whole % 2 ^ 32 ∧
      field b (134 + 14 * j) 4 = acc.peaks.get ⟨i.val + 1, by omega⟩ % 2 ^ 32 ∧
      field b (138 + 14 * j) 2 = acc.exceed.get i % 65536) ∧
    field b (126 + 14 * ks.length) 2 = (crc16 (b.take (126 + 14 * ks.length))).toNat ∧ crcOk b = true) ∧
  ∀ r : TopologyRecord, let b := (Record.topology r).bytes
    b.length = 20 ∧ slice b 0 2 = [0x3C, 0xA5] ∧ field b 2 2 = 20 ∧ byteAt b 4 = 0x21 ∧
    field b 5 1 = (match r.oldPlan with | some p => p.val | none => 255) ∧ field b 6 1 = r.newPlan.val ∧
    byteAt b 7 = r.word ∧ field b 8 4 = r.index % 2 ^ 32 ∧ field b 12 1 = r.part % 256 ∧
    field b 13 4 = r.window % 2 ^ 32 ∧ field b 17 1 = r.abandoned.toNat ∧
    field b 18 2 = (crc16 (b.take 18)).toNat ∧ crcOk b = true

/-! ### Archive -/

/-- The writer takes the oldest record into an OPEN head that has room. With no room, or with no segment OPEN, it programs an
OPEN head FULL and needs the next segment: an ERASED one is opened, and its failing header retires it and stops the archive;
for a FULL one the erase begins where reclaim is allowed, and else the archive is held, the record staying in the queue; for
the one under erase the writer waits, the erase running. With nothing queued, a write in progress or every segment RETIRED it
does nothing. The next segment is the first in ring order behind the head that is not RETIRED, with no head the lowest-numbered
one (R112, R113, R116, R121, R122, R124, R125, log 1, log 19). -/
def Obligations.WriterTakesRecord : Prop :=
  (∀ s : State,
    (∀ h (k : Fin 256), s.archive.head = some h → (s.nv.segments.get (h + 1 + k)).marker ≠ .retired →
      (∀ j, j < k → (s.nv.segments.get (h + 1 + j)).marker = .retired) → s.nextSegment = some (h + 1 + k)) ∧
    (∀ g, s.archive.head = none → (s.nv.segments.get g).marker ≠ .retired →
      (∀ x, x < g → (s.nv.segments.get x).marker = .retired) → s.nextSegment = some g) ∧
    ((∀ g, (s.nv.segments.get g).marker = .retired) → s.nextSegment = none)) ∧
  ∀ (s : State) (ok : Bool), s.stopped = false →
    (s.queue = [] ∨ s.archive.writing = true → exec (.writerTakeRecord ok) s = .next s) ∧
    (s.archive.state = .stopped ∨ s.archive.state = .scanning ∨ s.archive.state = .clearing ∨
      s.archive.state = .writing → exec (.writerTakeRecord ok) s = .next s) ∧
    ∀ (r : Record) (rest : List Record), s.archive.writing = false →
      (s.archive.state = .idle ∨ s.archive.state = .reclaiming ∨ s.archive.state = .suspended) →
      s.queue = r :: rest →
      (∀ h, s.openHead = some h → s.archive.writePos + r.bytes.length ≤ 32768 → exec (.writerTakeRecord ok) s = .next { s with
        archive := { s.archive with
          writing := true
          state := if s.archive.state = .idle then .writing else .suspended } }) ∧
      ((∀ h, s.openHead = some h → 32768 < s.archive.writePos + r.bytes.length) →
        (s.nextSegment = none → exec (.writerTakeRecord ok) s = .next s) ∧
        ∀ g, s.nextSegment = some g → s.openHead ≠ some g →
          ((s.nv.segments.get g).marker = .blank → ∃ t : State, exec (.writerTakeRecord ok) s = .next t ∧
            t.queue = s.queue ∧ s.filledExcept t (some g) ∧ t.archive.nextSeq = s.archive.nextSeq + 1 ∧
            (ok = true → t.nv.segments.get g = ⟨.opened, s.archive.nextSeq, []⟩ ∧ t.archive.head = some g ∧
              t.archive.writePos = 16 ∧ t.archive.writing = true ∧
              t.archive.state = if s.archive.state = .idle then .writing else .suspended) ∧
            (ok = false → t.nv.segments.get g = ⟨.retired, 0, []⟩ ∧ t.archive.state = .stopped ∧
              t.archive.error = .eraseFail ∧ t.archive.writing = false ∧ t.notices.latched.getLsbD 8 = true) ∧
            { t with
                nv := { t.nv with segments := s.nv.segments }, archive := s.archive, notices := s.notices } = s) ∧
          ((s.nv.segments.get g).marker = .full → s.archive.erase = none → s.archive.state = .idle →
            ∃ t : State, exec (.writerTakeRecord ok) s = .next t ∧ t.queue = s.queue ∧ t.archive.writing = false ∧
            t.archive.head = s.archive.head ∧
            (s.allowsReclaim g → s.eraseBegan t g ∧ s.filledExcept t (some g)) ∧
            (¬ s.allowsReclaim g → s.becameHeld t ∧ s.filledExcept t none ∧
              t.archive = { s.archive with heldInd := true }) ∧
            { t with
                nv := { t.nv with segments := s.nv.segments }, archive := s.archive, notices := s.notices } = s) ∧
          ((s.nv.segments.get g).marker = .reclaiming → s.archive.erase = some g →
            ∃ t : State, exec (.writerTakeRecord ok) s = .next t ∧ t.queue = s.queue ∧ s.filledExcept t none ∧
            t.archive = { s.archive with
              state := if s.archive.state = .suspended then .reclaiming else s.archive.state } ∧
            { t with nv := { t.nv with segments := s.nv.segments }, archive := s.archive } = s))

/-- A record write that verifies programs exactly the record's bytes at the write position, moves the write position to its
end and frees its place; no other byte of the archive changes. Past half full the reclaim test is made: where the next segment
is FULL, its erase begins if reclaim is allowed, and the archive becomes held if not, latching ARCHIVE_HELD as the indication
is set; where it is not FULL, the indication is clear (R117, R121, R122). In CLOSING and DORMANT the test begins no erase,
which is the model's reading for the indication (log 37). The completion for which an ARCHIVE_CLEAR waited begins the clear,
with the erase already running or suspended as its first, else with the lowest segment that holds records (R131). A completion
in SUSPENDED leaves the erase suspended while the oldest record left fits the head, and resumes it when the queue is empty or
that record does not fit (R124); in CLOSING and DORMANT it resumes for a record that needs the segment under erase alone (R138).
That a waiting clear makes no reclaim test before it, also past half full, is the model's choice (log 69). -/
def Obligations.RecordIsWritten : Prop :=
  (∀ (s : State) (ok : Bool) (h : Fin 256) (r : Record) (rest : List Record), s.stopped = false →
    s.archive.writing = true → s.archive.clear = .waiting → s.headOpen h r rest → ∃ t : State,
    exec (.recordWriteComplete [] ok) s = .next t ∧ t.queue = rest ∧
    (s.nv.segments.get h).programmed (t.nv.segments.get h) s.archive.writePos r.bytes ∧
    t.archive.state = .clearing ∧ t.archive.writing = false ∧ t.archive.cursor = none ∧ t.archive.heldInd = false ∧
    t.archive.mark = s.archive.mark ∧ t.archive.nextSeq = s.archive.nextSeq ∧ t.archive.error = s.archive.error ∧
    (∀ g, s.archive.erase = some g → t.archive.erase = some g ∧ s.segmentsKept t h ∧
      (t.nv.segments.get h).marker = .opened) ∧
    (s.archive.erase = none → ∃ g, t.archive.erase = some g ∧ (s.nv.segments.get g).marker.holds = true ∧
      (∀ x, x < g → (s.nv.segments.get x).marker.holds = false) ∧ (t.nv.segments.get g).marker = .reclaiming ∧
      ∀ x, x ≠ h → x ≠ g → t.nv.segments.get x = s.nv.segments.get x) ∧
    { t with nv := { t.nv with segments := s.nv.segments }, archive := s.archive, queue := s.queue } = s) ∧
  ∀ (s : State) (ok : Bool) (h : Fin 256) (r : Record) (rest : List Record), s.stopped = false →
    s.archive.writing = true → s.archive.clear ≠ .waiting → s.headOpen h r rest → ∃ t : State,
    exec (.recordWriteComplete [] ok) s = .next t ∧ t.queue = rest ∧
    (s.nv.segments.get h).programmed (t.nv.segments.get h) s.archive.writePos r.bytes ∧
    (∀ g, g ≠ h → (t.nv.segments.get g).area = (s.nv.segments.get g).area ∧
      (t.nv.segments.get g).seq = (s.nv.segments.get g).seq) ∧
    t.archive.writePos = s.archive.writePos + r.bytes.length ∧ t.archive.writing = false ∧
    t.archive.failedOnce = false ∧ t.archive.head = some h ∧ t.archive.error = s.archive.error ∧
    (s.archive.writePos + r.bytes.length ≤ 16384 → s.segmentsKept t h ∧ t.notices = s.notices ∧
      (t.nv.segments.get h).marker = .opened) ∧
    (t.nv.segments.get h).marker = .opened ∧
    (s.archive.state = .writing → s.archive.writePos + r.bytes.length ≤ 16384 → t.archive.state = .idle) ∧
    (∀ e, s.archive.state = .suspended → s.archive.erase = some e →
      t.archive.erase = some e ∧ s.segmentsKept t h ∧ t.notices = s.notices ∧
      t.archive.heldInd = (s.archive.heldInd && decide (s.archive.writePos + r.bytes.length ≤ 16384)) ∧
      (rest = [] → ¬ s.isClosing → t.archive.state = .reclaiming) ∧
      (rest = [] → s.isClosing → t.archive.state = .suspended) ∧
      ∀ r' more, rest = r' :: more →
        (s.archive.writePos + r.bytes.length + r'.bytes.length ≤ 32768 → t.archive.state = .suspended) ∧
        (32768 < s.archive.writePos + r.bytes.length + r'.bytes.length →
          (¬ s.isClosing ∨ s.nextSegment = some e → t.archive.state = .reclaiming) ∧
          (s.isClosing → s.nextSegment ≠ some e → t.archive.state = .suspended))) ∧
    (16384 < s.archive.writePos + r.bytes.length → s.archive.state = .writing → s.archive.erase = none →
      ((∀ g, s.nextSegment = some g → (s.nv.segments.get g).marker ≠ .full) → s.segmentsKept t h ∧
        t.archive.state = .idle ∧ t.archive.erase = none ∧ t.archive.heldInd = false ∧ t.notices = s.notices) ∧
      ∀ g, s.nextSegment = some g → (s.nv.segments.get g).marker = .full →
        (s.allowsReclaim g → ¬ s.isClosing → s.eraseBegan t g ∧
          ∀ x, x ≠ h → x ≠ g → t.nv.segments.get x = s.nv.segments.get x) ∧
        (s.allowsReclaim g → s.isClosing → s.segmentsKept t h ∧ t.archive.state = .idle ∧ t.archive.erase = none ∧
          t.archive.heldInd = false ∧ t.notices = s.notices) ∧
        (¬ s.allowsReclaim g → s.becameHeld t ∧ s.segmentsKept t h ∧ t.archive.state = .idle ∧
          t.archive.erase = none)) ∧
    { t with
        nv := { t.nv with segments := s.nv.segments }, archive := s.archive, queue := s.queue, notices := s.notices } = s

/-- Verify failures: the first one makes the slot DEAD behind its length and writes the record once more behind it; where the
mismatch lies in the first four bytes, or the record finds no room behind the DEAD slot, the head becomes FULL and the second
write goes into the next segment; the second failure loses the record, stops the archive with WRITE_FAIL and latches
ARCHIVE_ERROR, and leaves the segment FULL where its mismatch lies in the first four bytes (R118, R119, R125). That a first
failure makes no reclaim test is the model's reading (log 43). -/
def Obligations.VerifyFailuresAreTaken : Prop :=
  (∀ (s : State) (ok : Bool) (h : Fin 256) (r : Record) (rest : List Record) (k : Nat) (b : Byte), s.stopped = false →
    s.archive.writing = true → s.archive.clear = .idle → s.headOpen h r rest → k < 4 →
    r.bytes.getD k 0 ≠ b → s.archive.failedOnce = true → ∃ t : State,
    exec (.recordWriteComplete [(k, b)] ok) s = .next t ∧ t.queue = rest ∧ (t.nv.segments.get h).marker = .full ∧
    (t.nv.segments.get h).readByte (s.archive.writePos + 4) = 0x00 ∧ t.archive.state = .stopped ∧
    t.archive.error = .writeFail ∧ t.archive.writing = false ∧ t.notices.latched.getLsbD 8 = true ∧
    s.segmentsKept t h ∧
    { t with
        nv := { t.nv with segments := s.nv.segments }, archive := s.archive, queue := s.queue, notices := s.notices } = s) ∧
  (∀ (s : State) (h g : Fin 256) (r : Record) (rest : List Record) (k : Nat) (b : Byte), s.stopped = false →
    s.archive.writing = true → s.archive.state = .writing → s.archive.erase = none → s.archive.clear = .idle →
    s.headOpen h r rest → s.archive.failedOnce = false → k < r.bytes.length → r.bytes.getD k 0 ≠ b →
    k < 4 ∨ 32768 < s.archive.writePos + 2 * r.bytes.length → s.nextSegment = some g → g ≠ h →
    (s.nv.segments.get g).marker = .blank → ∃ t : State, exec (.recordWriteComplete [(k, b)] true) s = .next t ∧
    t.queue = s.queue ∧ t.notices = s.notices ∧ (t.nv.segments.get h).marker = .full ∧
    (t.nv.segments.get h).readByte (s.archive.writePos + 4) = 0x00 ∧
    t.nv.segments.get g = ⟨.opened, s.archive.nextSeq, []⟩ ∧
    (∀ x, x ≠ h → x ≠ g → t.nv.segments.get x = s.nv.segments.get x) ∧
    t.archive = { s.archive with
      failedOnce := true, head := some g, writePos := 16, nextSeq := s.archive.nextSeq + 1 } ∧
    { t with nv := { t.nv with segments := s.nv.segments }, archive := s.archive } = s) ∧
  ∀ (s : State) (ok : Bool) (h : Fin 256) (r : Record) (rest : List Record) (k : Nat) (b : Byte), s.stopped = false →
    s.archive.writing = true → s.archive.clear = .idle → s.headOpen h r rest → 4 ≤ k → k < r.bytes.length →
    r.bytes.getD k 0 ≠ b → ∃ t : State, exec (.recordWriteComplete [(k, b)] ok) s = .next t ∧
    (t.nv.segments.get h).readByte (s.archive.writePos + 4) = 0x00 ∧
    (∀ i, i < r.bytes.length → i ≠ k → i ≠ 4 →
      (t.nv.segments.get h).readByte (s.archive.writePos + i) = r.bytes.getD i 0) ∧
    (∀ off, 16 ≤ off → off < s.archive.writePos →
      (t.nv.segments.get h).readByte off = (s.nv.segments.get h).readByte off) ∧
    (s.archive.failedOnce = false → s.archive.writePos + 2 * r.bytes.length ≤ 32768 →
      (s.archive.state = .writing ∨ s.archive.state = .suspended) →
      t.queue = s.queue ∧ t.archive.failedOnce = true ∧ t.archive.writing = true ∧
      t.archive.state = s.archive.state ∧ t.archive.writePos = s.archive.writePos + r.bytes.length ∧
      s.segmentsKept t h ∧ t.notices = s.notices) ∧
    (s.archive.failedOnce = true → t.queue = rest ∧ t.archive.state = .stopped ∧ t.archive.error = .writeFail ∧
      t.archive.writing = false ∧ t.notices.latched.getLsbD 8 = true ∧ s.segmentsKept t h) ∧
    { t with
        nv := { t.nv with segments := s.nv.segments }, archive := s.archive, queue := s.queue, notices := s.notices } = s

/-- An erase completes: a blank segment is ERASED and the archive IDLE, a failing one RETIRED with the archive STOPPED on
ERASE_FAIL; the writer that waits for the segment opens it and takes its record; in a clear the next segment of the list
follows, and after the last one the first mark write begins, for the copy that holds the lower value, unless a store write is
in progress; with no erase running nothing happens (R123, R125, R131, log 1; log 16 for two copies of one value). -/
def Obligations.EraseCompletes : Prop :=
  ∀ (s : State) (blank ok : Bool), s.stopped = false →
    (s.archive.erase = none → exec (.eraseComplete blank ok) s = .next s) ∧
    (s.archive.state = .suspended ∨ s.archive.state = .stopped → exec (.eraseComplete blank ok) s = .next s) ∧
    ∀ g : Fin 256, s.archive.erase = some g →
      (s.archive.state = .reclaiming → s.archive.writing = false →
        (s.queue = [] ∨ ∃ h, s.openHead = some h ∧ h ≠ g) →
        (s.nv.segments.get g).marker = .reclaiming → blank = true →
        ∃ t : State, exec (.eraseComplete blank ok) s = .next t ∧ t.nv.segments.get g = ⟨.blank, 0, []⟩ ∧
        s.segmentsKept t g ∧ t.archive.erase = none ∧ t.archive.state = .idle ∧
        { t with nv := { t.nv with segments := s.nv.segments }, archive := s.archive } = s) ∧
      (s.archive.state = .reclaiming ∨ s.archive.state = .clearing → blank = false →
        ∃ t : State, exec (.eraseComplete blank ok) s = .next t ∧ t.nv.segments.get g = ⟨.retired, 0, []⟩ ∧
        s.segmentsKept t g ∧ t.archive.erase = none ∧ t.archive.state = .stopped ∧ t.archive.error = .eraseFail ∧
        t.archive.clear = .idle ∧ t.notices.latched.getLsbD 8 = true ∧ t.archive.mark = s.archive.mark ∧
        { t with nv := { t.nv with segments := s.nv.segments }, archive := s.archive, notices := s.notices } = s) ∧
      (∀ r rest h, s.archive.state = .reclaiming → s.archive.writing = false → s.queue = r :: rest →
        s.archive.head = some h → h ≠ g → (s.nv.segments.get h).marker = .full → s.nextSegment = some g → blank = true →
        ∃ t : State, exec (.eraseComplete blank ok) s = .next t ∧ t.queue = s.queue ∧ s.segmentsKept t g ∧
        t.archive.erase = none ∧ t.archive.nextSeq = s.archive.nextSeq + 1 ∧
        (ok = true → t.nv.segments.get g = ⟨.opened, s.archive.nextSeq, []⟩ ∧ t.archive.head = some g ∧
          t.archive.writePos = 16 ∧ t.archive.writing = true ∧ t.archive.state = .writing) ∧
        (ok = false → t.nv.segments.get g = ⟨.retired, 0, []⟩ ∧ t.archive.state = .stopped ∧
          t.archive.error = .eraseFail ∧ t.archive.writing = false ∧ t.notices.latched.getLsbD 8 = true) ∧
        { t with nv := { t.nv with segments := s.nv.segments }, archive := s.archive, notices := s.notices } = s) ∧
      (s.archive.state = .clearing → s.archive.clear = .erasing [] → blank = true →
        ∃ t : State, exec (.eraseComplete blank ok) s = .next t ∧ t.nv.segments.get g = ⟨.blank, 0, []⟩ ∧
        s.segmentsKept t g ∧ t.archive = { s.archive with erase := none, clear := .marking 2 } ∧
        (s.store ≠ none → t.store = s.store) ∧
        (s.store = none → ∃ copy : Fin 2, t.store = some (.mark 0 copy) ∧
          ∀ m n, s.nv.marks.get copy = some m → s.nv.marks.get (1 - copy) = some n → m ≤ n) ∧
        { t with nv := { t.nv with segments := s.nv.segments }, archive := s.archive, store := s.store } = s) ∧
      ∀ (g' : Fin 256) (todo : List (Fin 256)), s.archive.state = .clearing → s.archive.clear = .erasing (g' :: todo) →
        g' ≠ g → blank = true →
        ∃ t : State, exec (.eraseComplete blank ok) s = .next t ∧ t.nv.segments.get g = ⟨.blank, 0, []⟩ ∧
        (t.nv.segments.get g').marker = .reclaiming ∧ t.archive.erase = some g' ∧
        t.archive.clear = .erasing todo ∧ t.archive.state = .clearing ∧
        (∀ x, x ≠ g → x ≠ g' → t.nv.segments.get x = s.nv.segments.get x) ∧
        { t with nv := { t.nv with segments := s.nv.segments }, archive := s.archive } = s

/-- ERROR_CLEAR returns the error as it stood; outside STOPPED nothing changes, in STOPPED the archive leaves it with the
error NONE: to IDLE with no erase pending, and the reclaim test is made; with an erase suspended to SUSPENDED, which stands
while the oldest record fits the OPEN head and else becomes RECLAIMING, and the test finds reclaim not wanted (R121, R124,
R126). ARCHIVE_CLEAR is refused by the first condition of its table, HELD under HOLD where an OPEN or FULL segment holds a
record with an index above the mark; else it begins at once or after the write in progress, with the erase pending as its
first, or the lowest segment that is OPEN, FULL or RECLAIMING, or, with none of them, the first mark write (R120, R130,
R131). Which copy that is where both hold one value is log 16. -/
def Obligations.ErrorAndClearAnswer : Prop :=
  ∀ (s : State) (tag : Byte), s.ready →
    (s.archive.state ≠ .stopped → exec (.errorClear tag []) s =
      .next (s.replied 0x03 tag [] .done [BitVec.ofNat 8 s.archive.error.code])) ∧
    (s.archive.state = .stopped → ∃ t : State, exec (.errorClear tag []) s = .next t ∧
      t.msg = (s.replied 0x03 tag [] .done [BitVec.ofNat 8 s.archive.error.code]).msg ∧ t.archive.error = .none ∧
      (s.archive.erase = none →
        ({ s with archive := { s.archive with error := .none, state := .idle } }).reclaimTested t) ∧
      (∀ g, s.archive.erase = some g → t.nv = s.nv ∧ t.notices = s.notices ∧
        (let fits := s.openHead ≠ none ∧
           ∃ r, s.queue.head? = some r ∧ s.archive.writePos + r.bytes.length ≤ 32768
         (s.archive.writing = true ∨ fits → t.archive = { s.archive with
           error := .none, heldInd := false, state := .suspended }) ∧
         (s.archive.writing = false → ¬ fits → t.archive = { s.archive with
           error := .none, heldInd := false, state := .reclaiming }))) ∧
      { t with nv := s.nv, archive := s.archive, notices := s.notices, msg := s.msg } = s) ∧
    (s.archive.error ≠ .none →
      exec (.archiveClear tag []) s = .next (s.replied 0x55 tag [] .stopped [])) ∧
    (s.archive.error = .none → s.archive.state = .clearing →
      exec (.archiveClear tag []) s = .next (s.replied 0x55 tag [] .busy [])) ∧
    (s.archive.error = .none → s.archive.state ≠ .clearing →
      let uncollected := ∃ g, ((s.nv.segments.get g).marker = .opened ∨ (s.nv.segments.get g).marker = .full) ∧
        ∃ i ∈ (s.nv.segments.get g).indices, s.archive.mark < i
      let holds (g : Fin 256) := (s.nv.segments.get g).marker = .opened ∨ (s.nv.segments.get g).marker = .full ∨
        (s.nv.segments.get g).marker = .reclaiming
      ((∃ p, s.archive.pins.get p ≠ none) →
        exec (.archiveClear tag []) s = .next (s.replied 0x55 tag [] .pinned [])) ∧
      ((∀ p, s.archive.pins.get p = none) → s.settings.overwrite = false → uncollected →
        exec (.archiveClear tag []) s = .next (s.replied 0x55 tag [] .held [])) ∧
      ((∀ p, s.archive.pins.get p = none) → s.settings.overwrite = true ∨ ¬ uncollected →
        (s.archive.writing = true → exec (.archiveClear tag []) s =
          .next (({ s with archive := { s.archive with clear := .waiting } }).replied 0x55 tag [] .done [])) ∧
        (s.archive.writing = false → ∃ t : State, exec (.archiveClear tag []) s = .next t ∧
          t.msg = (s.replied 0x55 tag [] .done []).msg ∧ t.archive.state = .clearing ∧ t.archive.cursor = none ∧
          t.archive.heldInd = false ∧ t.queue = s.queue ∧
          (∀ g, s.archive.erase = some g → t.archive.erase = some g ∧ t.nv = s.nv ∧ t.store = s.store) ∧
          (s.archive.erase = none → (∃ g, holds g) →
            ∃ g, t.archive.erase = some g ∧ holds g ∧ (∀ x, x < g → ¬ holds x) ∧
              (t.nv.segments.get g) = { s.nv.segments.get g with marker := .reclaiming } ∧ s.segmentsKept t g ∧
              t.store = s.store) ∧
          (s.archive.erase = none → (∀ g, ¬ holds g) → t.nv = s.nv ∧
            t.archive = { s.archive with state := .clearing, cursor := none, heldInd := false, clear := .marking 2 } ∧
            (s.store ≠ none → t.store = s.store) ∧
            (s.store = none → ∃ copy : Fin 2, t.store = some (.mark 0 copy) ∧
              ∀ m n, s.nv.marks.get copy = some m → s.nv.marks.get (1 - copy) = some n → m ≤ n)) ∧
          { t with
              nv := { t.nv with segments := s.nv.segments }, archive := s.archive, store := s.store,
              msg := s.msg } = s)))

/-- ARCHIVE_COLLECTED begins a mark write for a higher index, and the mark takes it when the store write completes, which
leaves the other copy as it was; the reclaim test made then begins the erase that the higher mark allows, or leaves the
archive held (R121, R122; none in CLOSING is log 37); a write of the image replaces the stored image; the first mark write
of a clear that waited for either begins when it completes; a clear's second mark write ends the clear (R127, R131, R181).
The model's: which copy is written where the values do not tell (log 16), what is written is fixed when the write begins
(log 15), and a completion with no write running changes nothing (log 1). -/
def Obligations.CollectedMarkIsWritten : Prop :=
  (∀ (s : State) (tag : Byte) (body : List Byte), s.ready → body.length = 4 →
    let index := field body 0 4
    let mark := s.archive.mark
    (s.archive.state = .clearing ∨ s.store ≠ none →
      exec (.archiveCollected tag body) s = .next (s.replied 0x52 tag body .busy [])) ∧
    (s.archive.state ≠ .clearing → s.store = none →
      (index ≤ mark → exec (.archiveCollected tag body) s =
        .next (s.replied 0x52 tag body .done (leBytes 4 mark ++ leBytes 4 mark))) ∧
      (mark < index → ∃ copy : Fin 2, exec (.archiveCollected tag body) s =
          .next (({ s with store := some (.mark index copy) }).replied 0x52 tag body .done
            (leBytes 4 mark ++ leBytes 4 index)) ∧
        ∀ m n, s.nv.marks.get copy = some m → s.nv.marks.get (1 - copy) = some n → m ≤ n))) ∧
  ∀ s : State, s.stopped = false →
    (s.store = none → exec .storeWriteComplete s = .next s) ∧
    (∀ im, s.store = some (.image im) → s.archive.clear ≠ .marking 2 → exec .storeWriteComplete s =
      .next { s with store := none, nv := { s.nv with image := some im } }) ∧
    (∀ im, s.store = some (.image im) → s.archive.clear = .marking 2 → ∃ copy : Fin 2, exec .storeWriteComplete s =
      .next { s with store := some (.mark 0 copy), nv := { s.nv with image := some im } } ∧
      ∀ m n, s.nv.marks.get copy = some m → s.nv.marks.get (1 - copy) = some n → m ≤ n) ∧
    (∀ m copy, s.store = some (.mark m copy) → m ≠ 0 → s.archive.clear ≠ .marking 2 → ∃ t : State,
      exec .storeWriteComplete s = .next t ∧ t.store = none ∧ t.archive.mark = m ∧
      ({ s with
        archive := { s.archive with mark := m }
        nv := { s.nv with marks := s.nv.marks.put copy (some m) } }).reclaimTested t ∧
      { t with store := s.store, nv := s.nv, archive := s.archive, notices := s.notices } = s) ∧
    (∀ m copy, s.store = some (.mark m copy) → m ≠ 0 → s.archive.clear = .marking 2 → s.archive.state = .clearing →
      let marks := s.nv.marks.put copy (some m)
      ∃ next : Fin 2, exec .storeWriteComplete s = .next { s with
        store := some (.mark 0 next), nv := { s.nv with marks := marks }
        archive := { s.archive with mark := m, heldInd := false } } ∧
      ∀ i j, marks.get next = some i → marks.get (1 - next) = some j → i ≤ j) ∧
    ∀ copy, s.store = some (.mark 0 copy) →
      (s.archive.clear = .marking 2 → exec .storeWriteComplete s = .next { s with
        store := some (.mark 0 (1 - copy))
        nv := { s.nv with marks := s.nv.marks.put copy (some 0) }
        archive := { s.archive with clear := .marking 1 } }) ∧
      (s.archive.clear = .marking 1 → exec .storeWriteComplete s = .next { s with
        store := none
        nv := { s.nv with marks := s.nv.marks.put copy (some 0) }
        archive := { s.archive with clear := .idle, mark := 0, head := none, state := .idle } })

/-- PIN_ADD and PIN_REMOVE: the refusals in their order, and else the pin in the lowest free place, or the place freed, with
a store write of the pins; PIN_REMOVE makes the reclaim test without that pin, which begins the erase that the pin alone
withheld, or leaves the archive held; a pinned record's segment is not erased by a reclaim (R121, R122, R128, R129). -/
def Obligations.PinsAnswer : Prop :=
  ∀ (s : State) (tag : Byte), s.ready →
    (∀ body : List Byte, body.length = 8 →
      let lo := field body 0 4
      let hi := field body 4 4
      let refuse (x : Status) : Host.Outcome State Fault Refusal := .next (s.replied 0x53 tag body x [])
      (s.archive.state = .clearing → exec (.pinAdd tag body) s = refuse .busy) ∧
      (s.archive.state ≠ .clearing → (hi < lo ∨ ∀ p, s.archive.pins.get p ≠ none) →
        exec (.pinAdd tag body) s = refuse .range) ∧
      ∀ p : Fin 4, s.archive.state ≠ .clearing → lo ≤ hi → s.archive.pins.get p = none →
        (∀ q, q < p → s.archive.pins.get q ≠ none) →
        (s.store ≠ none → exec (.pinAdd tag body) s = refuse .busy) ∧
        (s.store = none → (∃ g, (s.nv.segments.get g).marker = .reclaiming ∧
          ∃ i ∈ (s.nv.segments.get g).indices, lo ≤ i ∧ i ≤ hi) → exec (.pinAdd tag body) s = refuse .conflict) ∧
        (s.store = none → (∀ g, (s.nv.segments.get g).marker = .reclaiming →
          ∀ i ∈ (s.nv.segments.get g).indices, i < lo ∨ hi < i) → exec (.pinAdd tag body) s =
            .next (({ s with
              archive := { s.archive with pins := s.archive.pins.put p (some (lo, hi)) }
              store := some (.image { s.storedImage with pins := s.archive.pins.put p (some (lo, hi)) }) }).replied
              0x53 tag body .done [BitVec.ofNat 8 p.val]))) ∧
    (∀ place : Byte,
      let refuse (x : Status) : Host.Outcome State Fault Refusal := .next (s.replied 0x54 tag [place] x [])
      (3 < place.toNat → exec (.pinRemove tag [place]) s = refuse .range) ∧
      ∀ p : Fin 4, place.toNat = p.val →
        (s.archive.pins.get p = none → exec (.pinRemove tag [place]) s = refuse .range) ∧
        (s.archive.pins.get p ≠ none → s.store ≠ none → exec (.pinRemove tag [place]) s = refuse .busy) ∧
        (s.archive.pins.get p ≠ none → s.store = none → ∃ t : State, exec (.pinRemove tag [place]) s = .next t ∧
          t.msg = (s.replied 0x54 tag [place] .done []).msg ∧ t.archive.pins = s.archive.pins.put p none ∧
          t.store = some (.image { s.storedImage with pins := s.archive.pins.put p none }) ∧
          ({ s with archive := { s.archive with pins := s.archive.pins.put p none } }).reclaimTested t ∧
          (∀ g i, i ∈ (s.nv.segments.get g).indices → t.archive.pinned i = true →
            t.nv.segments.get g = s.nv.segments.get g) ∧
          { t with nv := s.nv, archive := s.archive, store := s.store, notices := s.notices, msg := s.msg } = s))

/-- ARCHIVE_READ and ARCHIVE_MORE: the refusals in their order; the reply's records are the matching ones of the OPEN and
FULL segments in archive order, for ARCHIVE_MORE those from the cursor on, the longest prefix of them that fits 1 016 bytes,
with the more flag for a rest, and the cursor left stands before that rest; only the cursor changes (R113, R132, R133).
The model's: the header's byte order (log 17), and FIELD for a kind mask byte with none of its three bits but a higher one
(log 64). The premise on open sequence numbers holds of every ring that the writer made; that every cursor stands at offset
16 or later is kept by every step (RangesAreKept). -/
def Obligations.ArchiveReadsAnswer : Prop :=
  ∀ (s : State) (tag : Byte), s.ready →
    (∀ body : List Byte, body.length = 7 →
      let kinds := field body 6 1
      let accounts := field body 4 2
      let refuse (x : Status) : Host.Outcome State Fault Refusal := .next (s.replied 0x50 tag body x [])
      (s.archive.state = .scanning ∨ s.archive.state = .clearing → exec (.archiveRead tag body) s = refuse .busy) ∧
      (s.archive.state ≠ .scanning → s.archive.state ≠ .clearing →
        (kinds = 0 → exec (.archiveRead tag body) s = refuse .range) ∧
        (7 < kinds → exec (.archiveRead tag body) s = refuse .field) ∧
        (kinds = 1 ∨ kinds = 2 ∨ kinds = 3 ∨ (5 ≤ kinds ∧ kinds ≤ 7) → accounts = 0 →
          exec (.archiveRead tag body) s = refuse .range) ∧
        (1 ≤ kinds → kinds ≤ 7 → accounts ≠ 0 ∨ kinds = 4 →
          (s.tail = none → exec (.archiveRead tag body) s =
            .next (({ s with archive := { s.archive with cursor := none } }).replied 0x50 tag body .done
              [0, 0, 0, 0, 0, 0, 0, 0])) ∧
          (s.tail ≠ none → (∀ g h, (s.nv.segments.get g).marker.holds = true →
              (s.nv.segments.get h).marker.holds = true → (s.nv.segments.get g).seq = (s.nv.segments.get h).seq →
              g = h) →
            ∃ (c : Cursor) (k : Nat) (more : Byte),
            let found := (((s.segmentsWith Marker.served).flatMap fun g =>
              (s.nv.segments.get g).walk.records.map (·.2)).filter
                (ReadFilter.fits ⟨field body 0 4, BitVec.ofNat 16 accounts, BitVec.ofNat 3 kinds⟩))
            exec (.archiveRead tag body) s = .next
              (({ s with archive := { s.archive with cursor := some c } }).replied 0x50 tag body .done
                ([BitVec.ofNat 8 k, more, BitVec.ofNat 8 c.segment.val] ++ leBytes 4 c.offset ++ [0] ++
                  (found.take k).flatten)) ∧
            k ≤ found.length ∧ (found.take k).flatten.length ≤ 1016 ∧
            (more = 1 ↔ k < found.length) ∧ (k < found.length → 1016 < (found.take (k + 1)).flatten.length ∧
              s.recordsFrom c.filter c.segment c.offset = found.drop k ∧ (s.nv.segments.get c.segment).seq = c.seq ∧
              (s.nv.segments.get c.segment).marker.served = true) ∧ 16 ≤ c.offset ∧
            c.filter = ⟨field body 0 4, BitVec.ofNat 16 accounts, BitVec.ofNat 3 kinds⟩)))) ∧
    (let refuse (x : Status) : Host.Outcome State Fault Refusal := .next (s.replied 0x51 tag [] x [])
     (s.archive.state = .scanning ∨ s.archive.state = .clearing → exec (.archiveMore tag []) s = refuse .busy) ∧
     (s.archive.state ≠ .scanning → s.archive.state ≠ .clearing →
       (s.archive.cursor = none → exec (.archiveMore tag []) s = refuse .sequence) ∧
       ∀ c, s.archive.cursor = some c →
         ((s.nv.segments.get c.segment).marker.served = false ∨ (s.nv.segments.get c.segment).seq ≠ c.seq →
           exec (.archiveMore tag []) s = .next
             (({ s with archive := { s.archive with cursor := none } }).replied 0x51 tag [] .cursorLost [])) ∧
         ((s.nv.segments.get c.segment).marker.served = true → (s.nv.segments.get c.segment).seq = c.seq →
           16 ≤ c.offset → (∀ g h, (s.nv.segments.get g).marker.served = true → (s.nv.segments.get h).marker.served = true →
              (s.nv.segments.get g).seq = (s.nv.segments.get h).seq → g = h) →
           ∃ (d : Cursor) (k : Nat) (more : Byte),
           let found := s.recordsFrom c.filter c.segment c.offset
           exec (.archiveMore tag []) s = .next
             (({ s with archive := { s.archive with cursor := some d } }).replied 0x51 tag [] .done
               ([BitVec.ofNat 8 k, more, BitVec.ofNat 8 d.segment.val] ++ leBytes 4 d.offset ++ [0] ++
                 (found.take k).flatten)) ∧
           k ≤ found.length ∧ (found.take k).flatten.length ≤ 1016 ∧ (more = 1 ↔ k < found.length) ∧
           (k < found.length → 1016 < (found.take (k + 1)).flatten.length ∧
             s.recordsFrom d.filter d.segment d.offset = found.drop k ∧ (s.nv.segments.get d.segment).seq = d.seq ∧
             (s.nv.segments.get d.segment).marker.served = true) ∧ 16 ≤ d.offset ∧
           d.filter = c.filter)))

/-! ### Settings -/

/-- The table of 11.1: the size of each setting, the range of its value, and that a value written reads back as it was
given, an export slot padded with zeros to 17 bytes, while every other setting stands; an export slot with more than 8
members, a tap above 7, another sign than +1 and −1, or a tap twice is outside its range (R50, R150, R179 (2) to (4),
R180). -/
def Obligations.SettingsFollowTable : Prop :=
  ∀ (value : List Byte) (x : Settings), let n := ofLe value
    let fits (i : SettingId) (size : Nat) (ok : Prop) : Prop :=
      (∀ v, i.size v = size) ∧ (value.length = size → i.badBits value = false → ((i.write value x).isSome = true ↔ ok))
    fits .nominalHz 1 (n = 50 ∨ n = 60) ∧
    (∀ v, fits (.nominalVoltage v) 4 (1000 ≤ n ∧ n ≤ 2000000000)) ∧
    (∀ v, fits (.presence v) 1 (1 ≤ n ∧ n ≤ 100)) ∧
    fits .intervalLength 1 (n = 5 ∨ n = 10 ∨ n = 15 ∨ n = 30 ∨ n = 60) ∧
    fits .syncWindow 1 (1 ≤ n ∧ n ≤ 120) ∧ fits .debounceTime 2 (10 ≤ n ∧ n ≤ 1000) ∧
    (∀ c, fits (.scale c) 4 (n ≤ 2000000000)) ∧
    (∀ c, fits (.delay c) 2 (-256 ≤ ofLeInt value ∧ ofLeInt value ≤ 256)) ∧
    (∀ k, fits (.binding k) 1 (n ≤ 1)) ∧ (∀ a, fits (.enabled a) 1 (n ≤ 1)) ∧
    (∀ a, fits (.name a) 8 (∀ b ∈ value, 0x20 ≤ b.toNat ∧ b.toNat ≤ 0x7E)) ∧
    (∀ a, fits (.orderMask a) 5 True) ∧ (∀ a, (SettingId.orderMask a).badBits value = true ↔ 2 ^ 39 ≤ n) ∧
    fits .exportSet 1 (n ≤ 1) ∧ fits .tieEnable 1 (n ≤ 1) ∧ fits .preference 1 (1 ≤ n ∧ n ≤ 3) ∧
    fits .attentionMode 1 (n ≤ 2) ∧ fits .noticeMask 3 True ∧
    (SettingId.noticeMask.badBits value = true ↔ 2 ^ 18 ≤ n) ∧ fits .reclaim 1 (n ≤ 1) ∧
    (∀ j, (SettingId.exportSlot j).size value = 1 + 2 * field value 0 1 ∧
      ∀ ms : List ExportMember, ms.length ≤ 8 → (ms.map (·.tap)).Nodup →
        (SettingId.exportSlot j).write ([BitVec.ofNat 8 ms.length] ++ ms.flatMap ExportMember.bytes) x =
          some { x with exportSlots := x.exportSlots.put j ms }) ∧
    (∀ (j : Fin 4) (ps : List (Byte × Byte)), ps.length ≤ 255 →
      let given := [BitVec.ofNat 8 ps.length] ++ ps.flatMap fun p => [p.1, p.2]
      given.length = (SettingId.exportSlot j).size given ∧
      (8 < ps.length ∨ (∃ p ∈ ps, 7 < p.1.toNat ∨ (p.2 ≠ 0x01 ∧ p.2 ≠ 0xFF)) ∨ ¬ (ps.map (·.1)).Nodup →
        (SettingId.exportSlot j).write given x = none)) ∧
    ∀ (i : SettingId) (y : Settings), value.length = i.size value → i.badBits value = false →
      i.write value x = some y → i.changesOnly x y ∧ i.bytes y = value ++
        (match i with | .exportSlot _ => List.replicate (17 - value.length) 0 | _ => [])

/-- SET: its tests in their order, each refusal changing nothing; else the volatile image takes the value, a persist begins a
store write of it beside the stored values, and a setting that no block takes over at the SET changes nothing else; a channel's
scale changes besides only the latched-low conditions that it makes bad (R174, R179, R181); that LANES_OK follows the scale at
the SET itself is the model's choice (log 65). -/
def Obligations.SetAnswers : Prop :=
  ∀ (s : State) (tag flags : Byte) (value : List Byte), s.ready → (flags = 0 ∨ flags = 1) →
    (∀ id : Nat, id < 65536 → (∀ i : SettingId, i.id ≠ id) →
      exec (.setSetting tag (leBytes 2 id ++ [flags, 0] ++ value)) s =
        .next (s.replied 0x10 tag (leBytes 2 id ++ [flags, 0] ++ value) .range [])) ∧
    ∀ i : SettingId,
      let body := leBytes 2 i.id ++ [flags, 0] ++ value
      let refuse (x : Status) : Host.Outcome State Fault Refusal := .next (s.replied 0x10 tag body x [])
      (value.length ≠ i.size value → exec (.setSetting tag body) s = refuse .length) ∧
      (value.length = i.size value → i.badBits value = true → exec (.setSetting tag body) s = refuse .field) ∧
      (value.length = i.size value → i.badBits value = false →
        (i.write value s.settings = none → exec (.setSetting tag body) s = refuse .range) ∧
        ∀ x, i.write value s.settings = some x →
          (flags = 1 → s.store ≠ none → exec (.setSetting tag body) s = refuse .busy) ∧
          (flags = 0 ∨ s.store = none →
            (∀ a, i = .enabled a → s.isEnabled a = true → x.enabled.get a = false →
              48 ≤ s.queue.length ∨ s.clock.part = 255 → exec (.setSetting tag body) s = refuse .busy) ∧
            ((∀ a, i = .enabled a → s.isEnabled a = true → x.enabled.get a = false →
                s.queue.length < 48 ∧ s.clock.part ≠ 255) →
              ∃ t : State, exec (.setSetting tag body) s = .next t ∧ t.msg = (s.replied 0x10 tag body .done []).msg ∧
              t.settings = x ∧ (flags = 0 → t.store = s.store) ∧
              (flags = 1 → ∃ im, t.store = some (.image im) ∧ im.plans = s.storedImage.plans ∧
                im.limits = s.storedImage.limits ∧ im.pins = s.storedImage.pins ∧
                i.write value s.storedImage.settings = some im.settings) ∧
              i.changesOnly s.settings t.settings ∧
              (i.quiet → { t with settings := s.settings, store := s.store, msg := s.msg } = s) ∧
              (∀ c, i = .scale c → t.notices = { s.notices with lows := s.notices.lows ||| t.presentBad } ∧
                { t with settings := s.settings, store := s.store, notices := s.notices, msg := s.msg } = s))))

/-- The settings that act at the SET, persisting or not: the interval length becomes pending, or clears the pending one; an
account is closed as PARTIAL with reason disable, or numbered by the clock where it is enabled; the tie link enters OFF, which
does not make LINK_OK bad, or DOWN, which does, or resolves anew after a new preference; LEVEL ends a running pulse, a pulse
mode entered from LEVEL begins with the line deasserted, and a pulse runs on from one pulse mode to the other; a change of the
policy makes the reclaim test, OVERWRITE beginning the erase that HOLD kept (R72, R108, R109, R120, R145, R149, R177). A
persisting SET begins besides the store write of the stored image with that one value (R179, R181). The new seed is a free
value (log 9). -/
def Obligations.SettingsActAtOnce : Prop :=
  ∀ (s : State) (tag flags v : Byte), s.ready → flags = 0 ∨ (flags = 1 ∧ s.store = none) →
    let body (i : SettingId) : List Byte := leBytes 2 i.id ++ [flags, 0] ++ [v]
    let stored (i : SettingId) (t : State) : Prop :=
      (flags = 0 → t.store = s.store) ∧
      (flags = 1 → ∃ im, t.store = some (.image im) ∧ i.write [v] s.storedImage.settings = some im.settings ∧
        { im with settings := s.storedImage.settings } = s.storedImage)
    let sets (i : SettingId) (t : State) : Prop := exec (.setSetting tag (body i)) s = .next t ∧ stored i t ∧
      t.msg = (s.replied 0x10 tag (body i) .done []).msg ∧ i.write [v] s.settings = some t.settings
    ((v = 5 ∨ v = 10 ∨ v = 15 ∨ v = 30 ∨ v = 60) → ∃ t : State, sets .intervalLength t ∧
      t.clock = { s.clock with pendingLength := if v.toNat = s.clock.length then none else some v.toNat } ∧
      { t with settings := s.settings, clock := s.clock, store := s.store, msg := s.msg } = s) ∧
    (∀ a, v = 0 → s.isEnabled a = true → s.queue.length < 48 → s.clock.part < 255 → ∃ t : State,
      sets (.enabled a) t ∧ t.isEnabled a = false ∧
      t.queue = s.queue ++ [.interval (s.formRecord a .localPartial (some .disable))] ∧
      (s.accounts.get a).resetTo (t.accounts.get a) s.clock.index (s.clock.part + 1)
        (s.startFlags a s.clock.aligned) (s.settings.orderMask.get a) ∧
      (∀ b, b ≠ a → t.accounts.get b = s.accounts.get b) ∧ t.clock = { s.clock with part := s.clock.part + 1 } ∧
      t.notices.latched.getLsbD 16 = true ∧
      t.tie = { s.tie with lastPair := some (s.clock.index, s.clock.part) } ∧
      { t with
          settings := s.settings, accounts := s.accounts, queue := s.queue, clock := s.clock, notices := s.notices,
          tie := s.tie, store := s.store, msg := s.msg } = s) ∧
    (∀ a, v = 1 → s.isEnabled a = false → ∃ t : State, sets (.enabled a) t ∧ t.isEnabled a = true ∧
      t.accounts = s.accounts.put a { s.accounts.get a with
        recordIndex := s.clock.index, part := s.clock.part, span := 1, flags := s.startFlags a s.clock.aligned } ∧
      { t with settings := s.settings, accounts := s.accounts, store := s.store, msg := s.msg } = s) ∧
    (v = 0 → s.settings.tieEnable = true → ∃ t u : State, sets .tieEnable t ∧
      s.tie.dropped t.tie .off ∧ t.settings = { s.settings with tieEnable := false } ∧
      t.notices.lows.getLsbD 3 = s.notices.lows.getLsbD 3 ∧
      u = { t with settings := s.settings, store := s.store, msg := s.msg } ∧ s.tieFollows u) ∧
    (v = 1 → s.settings.tieEnable = false → ∃ t u : State, sets .tieEnable t ∧
      s.tie.dropped t.tie .down ∧ t.settings = { s.settings with tieEnable := true } ∧
      t.notices.lows.getLsbD 3 = true ∧
      u = { t with settings := s.settings, store := s.store, msg := s.msg } ∧ s.tieFollows u) ∧
    (∀ p : Preference, v.toNat = p.code → s.settings.preference ≠ p →
      (s.tie.state = .resolving ∨ s.tie.state = .solo ∨ s.tie.state = .roleFault) → ∃ t : State,
      sets .preference t ∧ t.tie.state = .resolving ∧ t.tie.attempt = 1 ∧
      t.draws = s.draws + 1 ∧ t.tie.ownSeed = (Config.seedDraw s.draws).val + 1 ∧
      t.tie.ownRole = some ⟨p, (Config.seedDraw s.draws).val + 1, 1⟩ ∧ t.tie.partnerRole = none ∧
      (s.tie.inFlight = none → t.tie.inFlight = some (.role ⟨p, (Config.seedDraw s.draws).val + 1, 1⟩) ∧
        t.tie.sendCount = 1) ∧
      { t with
          settings := s.settings, tie := s.tie, accounts := s.accounts, notices := s.notices, draws := s.draws,
          store := s.store, msg := s.msg } = s) ∧
    (v.toNat ≤ 2 → ∃ t : State, sets .attentionMode t ∧
      (v = 0 → t.notices.pulse = false ∧
        (t.attentionLine = true ↔ s.notices.latched &&& ~~~s.settings.noticeMask ≠ 0)) ∧
      (v ≠ 0 → s.settings.attentionMode = .level → t.notices.pulse = false ∧ t.attentionLine = false) ∧
      (v ≠ 0 → s.settings.attentionMode ≠ .level →
        t.notices.pulse = s.notices.pulse ∧ t.attentionLine = s.notices.pulse) ∧
      { t.notices with pulse := s.notices.pulse } = s.notices ∧
      { t with settings := s.settings, notices := s.notices, store := s.store, msg := s.msg } = s) ∧
    (v.toNat ≤ 1 → ∃ t : State, sets .reclaim t ∧
      (s.settings.overwrite = decide (v = 1) →
        { t with settings := s.settings, store := s.store, msg := s.msg } = s) ∧
      (s.settings.overwrite ≠ decide (v = 1) → ({ s with settings := t.settings }).reclaimTested t ∧
        { t with
            settings := s.settings, nv := s.nv, archive := s.archive, notices := s.notices, store := s.store,
            msg := s.msg } = s))

/-! ### Message link -/

/-- The tests at dispatch, in their order: UNKNOWN_KIND for a kind outside the table, in every operating state; BUSY outside
RUNNING for every kind but IDENT, STATE and NOTICE_TAKE; LENGTH for a body of another length; FIELD for a nonzero reserved
field. Each leaves everything but the link's reply as it was (R164 to R166). -/
def Obligations.DispatchTestsRequests : Prop :=
  ∀ (c : Instr) (kind tag : Byte) (body : List Byte) (s : State), c.request = some (kind, tag, body) → s.free →
    let refuse (x : Status) : Host.Outcome State Fault Refusal := .next (s.replied kind tag body x [])
    (kindUnknown kind = true → exec c s = refuse .unknownKind) ∧
    (kind ∈ requestCodes → s.op ≠ .running → kind ≠ 0x01 → kind ≠ 0x02 → kind ≠ 0x70 → exec c s = refuse .busy) ∧
    (s.op = .running ∨ kind = 0x01 ∨ kind = 0x02 ∨ kind = 0x70 →
      (∀ n, (kind, n) ∈ fixedLengths → body.length ≠ n → exec c s = refuse .length) ∧
      (∀ n, (kind, n) ∈ fixedParts → body.length < n → exec c s = refuse .length)) ∧
    (s.op = .running →
      (kind = 0x10 → 4 ≤ body.length → (byteAt body 2 &&& 0xFE ≠ 0 ∨ byteAt body 3 ≠ 0) →
        exec c s = refuse .field) ∧
      (kind = 0x22 → body.length = 5 → (byteAt body 4 &&& 0xFE ≠ 0 ∨ (byteAt body 2 = 0 ∧ byteAt body 3 ≠ 0)) →
        exec c s = refuse .field) ∧
      (kind = 0x30 → 8 ≤ body.length → (byteAt body 3 &&& 0xFE ≠ 0 ∨ field body 4 4 ≠ 0) →
        exec c s = refuse .field))

/-- The receive buffer: a request behind one being answered waits, a third is an overrun, and the last byte of a reply frees
its place and dispatches the request behind, as if it arrived then; the reply of before a restart frees both (R162, R163,
R171, log 6). REPLY_SENT with no reply going out changes nothing (log 1); that the places freed include a frame that arrived
meanwhile is the model's reading (log 39). -/
def Obligations.BufferHoldsTwo : Prop :=
  (∀ (c : Instr) (kind tag : Byte) (body : List Byte) (s : State), c.request = some (kind, tag, body) →
    kind.toNat < 0x80 → s.stopped = false →
    (∀ f r, s.msg.places = [f] → s.msg.reply = some r →
      exec c s = .next { s with msg := { s.msg with places := [f, ⟨kind, tag, body⟩] } }) ∧
    (s.msg.places.length = 2 → exec c s =
      .next { s with notices := { s.notices with overruns := min 65535 (s.notices.overruns + 1) } }) ∧
    ∀ f r, s.msg = ⟨[f, ⟨kind, tag, body⟩], some r, false⟩ → r.restart = false →
      exec .replySent s = exec c { s with msg := ⟨[], none, false⟩ }) ∧
  ∀ s : State, s.stopped = false →
    (s.msg.reply = none → exec .replySent s = .next s) ∧
    (∀ f r, s.msg = ⟨[f], some r, false⟩ → r.restart = false →
      exec .replySent s = .next { s with msg := ⟨[], none, false⟩ }) ∧
    ∀ ps r, s.msg = ⟨ps, some r, true⟩ → exec .replySent s = .next { s with msg := ⟨[], none, false⟩ }

/-- A good frame of a reply kind, 0x80 to 0xFF, is discarded on completion and counted, and nothing else changes (R161). -/
def Obligations.ReplyKindIsDiscarded : Prop :=
  ∀ (s : State) (kind tag : Byte) (body noise line : List Byte), s.stopped = false → 0x80 ≤ kind.toNat →
    body.length ≤ 1024 → afterNoise 0xA5 noise (requestFrame kind tag body) line →
    exec (.hostFrameComplete line) s =
      .next { s with notices := { s.notices with discarded := min 65535 (s.notices.discarded + 1) } }

/-- Broken frames and pages: a bad check, a body length above 1 024 or a gap within a frame is counted as a discarded frame,
a lone 0xA5 before a gap is not; a page that fails its check, is of no type of the table, sets a bit marked zero, has a length
that its type does not give or a field out of its values (`pageInvalid`), is over-length or has a gap is counted as a bad
page, but not in OFF or before RUNNING; nothing else changes; exactly those whole pages are not read (R139, R145, R158, R159,
R160; log 48 for a STARTING part). A kind and reason that 8.1 does not list make a CLOSE page neither invalid nor counted
(log 35). -/
def Obligations.BrokenInputIsCounted : Prop :=
  (∀ (s : State) (noise f line : List Byte), s.stopped = false → f.take 2 = [0xA5, 0x5A] → afterNoise 0xA5 noise f line →
    let counted : Host.Outcome State Fault Refusal :=
      .next { s with notices := { s.notices with discarded := min 65535 (s.notices.discarded + 1) } }
    (f.length = 8 + field f 2 2 → field f 2 2 ≤ 1024 → crcOk f = false → exec (.hostFrameComplete line) s = counted) ∧
    (f.length = 4 → 1024 < field f 2 2 → exec (.hostFrameOverlength line) s = counted) ∧
    ((f.length < 4 ∨ (field f 2 2 ≤ 1024 ∧ f.length < 8 + field f 2 2)) →
      exec (.hostByteGapTimeout line) s = counted)) ∧
  (∀ (s : State) (noise : List Byte), (∀ x ∈ noise, x ≠ (0xA5 : Byte)) →
    exec (.hostByteGapTimeout (noise ++ [0xA5])) s = .next s) ∧
  ∀ (s : State) (noise p line : List Byte), s.stopped = false → p.take 1 = [0x96] → afterNoise 0x96 noise p line →
    let counted : Host.Outcome State Fault Refusal :=
      .next { s with notices := { s.notices with badPages := min 65535 (s.notices.badPages + 1) } }
    (s.tie.state ≠ .off → s.op ≠ .starting →
      (p.length = 7 + field p 3 2 → field p 3 2 ≤ 1970 → (readPage p = none ↔ pageInvalid p) ∧
        (pageInvalid p → exec (.tiePageArrive line) s = counted)) ∧
      (p.length = 5 → 1970 < field p 3 2 → exec (.tiePageOverlength line) s = counted) ∧
      ((p.length < 5 ∨ (field p 3 2 ≤ 1970 ∧ p.length < 7 + field p 3 2)) →
        exec (.tieByteGapTimeout line) s = counted)) ∧
    (s.tie.state = .off ∨ s.op = .starting → exec (.tiePageArrive line) s = .next s ∧
      exec (.tiePageOverlength line) s = .next s ∧ exec (.tieByteGapTimeout line) s = .next s)

/-- Frame and request agree: every request that can be sent, framed by 9.1 behind any bytes that the hunt passes over, has
exactly the effect of the request itself; no bit of kind, tag or body is lost (R159, R162, R163). That a request row is the
arrival of its frame (log 6), and what bytes the frame's command carries (log 5), are the model's choices. -/
def Obligations.FrameCarriesRequest : Prop :=
  ∀ (i : Instr) (kind tag : Byte) (body noise line : List Byte) (s : State), i.wf = true →
    i.request = some (kind, tag, body) → afterNoise 0xA5 noise (requestFrame kind tag body) line →
    exec (.hostFrameComplete line) s = exec i s

/-! ### Tie link -/

/-- Decoding a page that was encoded gives it back, for every page body and sequence byte that can be sent, and a page never
passes 1 977 bytes (8.1, R139). -/
def Obligations.PageCarriesBody : Prop :=
  ∀ p : Page, p.body.ranged → readPage p.bytes = some p ∧ p.bytes.length ≤ 1977

/-- The link's timers: the page in flight is sent again and counted, five times in all, and then the link enters DOWN; an
IDLE page goes out with the acknowledgement; silence enters DOWN; an attempt that times out is followed by the next, or by
SOLO after the third; the next attempt's ROLE page is in flight at once where nothing is, else due behind the page in flight
(R140, R143, R146, R149, R158). The model's: a timer not due changes nothing (log 1), the ROLE waits in a list and SOLO keeps
the page in flight (log 25), and a page sent again carries the acknowledgement of that moment (log 49). -/
def Obligations.TieTimersAct : Prop :=
  ∀ s : State, s.stopped = false →
    (∀ b, s.tie.inFlight = some b → 1 ≤ s.tie.sendCount → s.tie.sendCount ≤ 4 → exec .tieResendTimer s =
      .next { s with
        tie := { s.tie with
          sendCount := s.tie.sendCount + 1
          lastSent := some (Page.bytes ⟨b, s.tie.sendToggle, s.tie.partnerToggle⟩) }
        notices := { s.notices with resent := min 65535 (s.notices.resent + 1) } }) ∧
    (∀ b, s.tie.inFlight = some b → s.tie.sendCount = 5 → ∃ t : State, exec .tieResendTimer s = .next t ∧
      s.tie.dropped t.tie .down ∧ s.tieFollows t) ∧
    (s.tie.inFlight = none → exec .tieResendTimer s = .next s) ∧
    (s.tie.state ≠ .off → s.op ≠ .starting → exec .idlePageSend s = .next { s with tie := { s.tie with
      lastSent := some (Page.bytes ⟨.idle, false, s.tie.partnerToggle⟩) } }) ∧
    (s.tie.state = .off ∨ s.op = .starting → exec .idlePageSend s = .next s) ∧
    (s.tie.state ≠ .off → s.tie.state ≠ .down → s.op ≠ .starting → ∃ t : State, exec .silenceTimeout s = .next t ∧
      s.tie.dropped t.tie .down ∧ s.tieFollows t) ∧
    (s.tie.state = .off ∨ s.tie.state = .down → exec .silenceTimeout s = .next s) ∧
    (s.tie.state = .resolving → s.tie.attempt < 3 → ∃ t : State, exec .roleAttemptTimeout s = .next t ∧
      s.attemptBegan t (s.tie.attempt + 1) none none s.tie.inFlight s.tie.roleList ∧ t.draws = s.draws + 1 ∧
      (∀ b, s.tie.inFlight = some b → 0 < s.tie.sendCount → t.tie.sendCount = s.tie.sendCount) ∧
      s.tie.keepsRest t.tie ∧ { t with tie := s.tie, draws := s.draws } = s) ∧
    (s.tie.state = .resolving → s.tie.attempt = 3 → ∃ t : State, exec .roleAttemptTimeout s = .next t ∧
      t.tie.state = .solo ∧ t.tie.inFlight = s.tie.inFlight ∧ s.tieFollows t) ∧
    (s.tie.state ≠ .resolving → exec .roleAttemptTimeout s = .next s)

/-- A valid page: it takes the link from DOWN to RESOLVING at attempt 1 with a drawn seed, and its body is then taken there
(a ROLE of attempt 1 or a higher one, a ROLE_CONFIRM of attempt 1, a CLOSE or SUMMARY discarded); a cleared ack valid after a
set one, or a ROLE at a paired unit, enters DOWN; a ROLE in SOLO or ROLE_FAULT enters RESOLVING at its attempt; a matching ack
removes the page in flight, flips the toggle and counts a SUMMARY, and the next page is the oldest CLOSE, then the summary
held; the CLOSE page of a restart close is open no longer; another ack removes nothing (R141 to R144, R146, R149, R153, R185).
That a ROLE due behind a page in flight waits in a list is log 25; a seed is a free value, whatever it is (log 9). -/
def Obligations.ValidPagesAreTaken : Prop :=
  ∀ (s : State) (p : Page) (noise line : List Byte), s.stopped = false → s.op ≠ .starting → p.body.ranged →
    afterNoise 0x96 noise p.bytes line →
    (s.tie.state = .down → s.tie.inFlight = none → s.tie.roleList = [] →
      (p.body = .idle ∨ s.tie.partnerToggle ≠ some p.toggle) → ∃ t : State, exec (.tiePageArrive line) s = .next t ∧
      s.tieFollows t ∧ t.tie.sendCount = 1 ∧
      t.tie.partnerToggle = (if p.body = .idle then s.tie.partnerToggle else some p.toggle) ∧
      ((∀ x, p.body ≠ .summary x) → s.tie.keepsRest t.tie) ∧
      ((∀ r, p.body ≠ .role r) → (∀ c, p.body ≠ .confirm c) →
        s.attemptBegan t 1 none none none [] ∧ t.draws = s.draws + 1) ∧
      (∀ r, p.body = .role r → r.attempt = 1 → s.attemptBegan t 1 (some r) none none [] ∧ t.draws = s.draws + 1) ∧
      (∀ r, p.body = .role r → 1 < r.attempt → t.draws = s.draws + 2 ∧ ∃ first, 1 ≤ first ∧ first ≤ 65535 ∧
        s.attemptBegan t r.attempt (some r) none (some (.role ⟨s.settings.preference, first, 1⟩)) []) ∧
      ∀ c, p.body = .confirm c →
        s.attemptBegan t 1 none (if c.attempt = 1 then some c else none) none [] ∧ t.draws = s.draws + 1) ∧
    (∀ r, (s.tie.state = .solo ∨ s.tie.state = .roleFault) → p.body = .role r → s.tie.partnerToggle ≠ some p.toggle →
      (s.tie.inFlight = none ∨ p.ack ≠ some s.tie.sendToggle) → (s.tie.sawAck = false ∨ p.ack ≠ none) →
      ∃ t : State, exec (.tiePageArrive line) s = .next t ∧ s.tieFollows t ∧ t.tie.partnerToggle = some p.toggle ∧
      s.attemptBegan t r.attempt (some r) none s.tie.inFlight s.tie.roleList ∧ t.draws = s.draws + 1 ∧
      s.tie.keepsRest t.tie) ∧
    (s.tie.state ≠ .off → s.tie.state ≠ .down → s.tie.sawAck = true → p.ack = none → ∃ t : State,
      exec (.tiePageArrive line) s = .next t ∧ s.tie.dropped t.tie .down ∧ s.tieFollows t) ∧
    (∀ r, (s.tie.state = .pairedPrimary ∨ s.tie.state = .pairedSecondary) → p.body = .role r →
      s.tie.partnerToggle ≠ some p.toggle → (s.tie.inFlight = none ∨ p.ack ≠ some s.tie.sendToggle) →
      (s.tie.sawAck = false ∨ p.ack ≠ none) →
      ∃ t : State, exec (.tiePageArrive line) s = .next t ∧ s.tie.dropped t.tie .down ∧ s.tieFollows t) ∧
    ∀ a b, (s.tie.state = .pairedPrimary ∨ s.tie.state = .pairedSecondary) → p.body = .idle → p.ack = some a →
      s.tie.inFlight = some b → (∀ x, b ≠ .role x) → (∀ x, b ≠ .confirm x) → s.tie.roleList = [] →
      0 < s.tie.sendCount → ∃ t : State, exec (.tiePageArrive line) s = .next t ∧
      (a ≠ s.tie.sendToggle → t = { s with tie := { s.tie with sawAck := true } }) ∧
      (a = s.tie.sendToggle → t.tie.sendToggle = !s.tie.sendToggle ∧
        (∀ x, b = .summary x → t.tie.sent = min 65535 (s.tie.sent + x.count)) ∧
        (∀ x, b = .close x → s.tie.sent ≤ 65535 → t.tie.sent = s.tie.sent ∧
          t.tie.restartOpen = (s.tie.restartOpen && decide (x.reason ≠ some .restart))) ∧
        (∀ x xs, s.tie.closeList = x :: xs → t.tie.inFlight = some (.close x) ∧ t.tie.closeList = xs ∧
          t.tie.holding = s.tie.holding ∧ t.tie.sendCount = 1) ∧
        (∀ x, s.tie.closeList = [] → s.tie.holding = some x → t.tie.inFlight = some (.summary x) ∧
          t.tie.holding = none ∧ t.tie.sendCount = 1) ∧
        (s.tie.closeList = [] → s.tie.holding = none → t.tie.inFlight = none ∧ t.tie.sendCount = 0) ∧
        { t with tie := s.tie } = s)

/-- Role resolution: the attempt is resolved by the partner's ROLE or by the acknowledgement of the unit's own, whichever
comes second, with the result of the table of R147: the unit's ROLE_CONFIRM, ROLE_FAULT, or the next attempt, or SOLO after
the third; likewise the partner's confirm or the acknowledgement of the unit's own pairs it in its role with TIE_LINK_CHANGE,
or costs the attempt. What comes first is kept; a ROLE of a higher attempt is followed with a new seed, its own ROLE behind
any page in flight; a ROLE of a lower one, a confirm of another one and a CLOSE page are dropped (R141, R142, R146 to R148).
The page does not begin the session anew (R143 (3)). That the ROLE pages and seeds held are the attempt's (`rolesHeld`) is
kept by every step (RangesAreKept). The model's: pages due behind one in flight wait in a list (log 25), an attempt
resolved is not resolved again (log 61), and a further confirm of the attempt, accepted before the unit's own is acknowledged,
replaces the one kept (log 70). -/
def Obligations.RolesAreResolved : Prop :=
  ∀ (s : State) (p : Page) (line : List Byte), s.stopped = false → s.op ≠ .starting → s.tie.state = .resolving →
    p.body.ranged → afterNoise 0x96 [] p.bytes line → (s.tie.sawAck = false ∨ p.ack ≠ none) →
    let linkOnly (t : State) : Prop :=
      { t with tie := s.tie, accounts := s.accounts, notices := s.notices, draws := s.draws } = s
    (s.tie.partnerToggle ≠ some p.toggle → s.tie.inFlight = none → s.tie.roleList = [] →
      (∀ own r : RoleBody, p.body = .role r → s.tie.ownRole = some own → s.tie.ownRoleAcked = true →
        s.tie.resolved = none → r.attempt = s.tie.attempt → ∃ t : State, exec (.tiePageArrive line) s = .next t ∧
        linkOnly t ∧ s.attemptResolved t own r) ∧
      ∀ (r : Role) (c : ConfirmBody), p.body = .confirm c → s.tie.resolved = some r → s.tie.confirmAcked = true →
        c.attempt = s.tie.attempt → ∃ t : State, exec (.tiePageArrive line) s = .next t ∧
        linkOnly t ∧ s.pairingJudged t r c) ∧
    ((p.body = .idle ∨ s.tie.partnerToggle = some p.toggle) → p.ack = some s.tie.sendToggle → s.tie.roleList = [] →
      s.tie.closeList = [] → s.tie.holding = none → s.rolesHeld →
      (∀ own r : RoleBody, s.tie.inFlight = some (.role own) → s.tie.ownRole = some own → s.tie.partnerRole = some r →
        s.tie.resolved = none → ∃ t : State, exec (.tiePageArrive line) s = .next t ∧
        linkOnly t ∧ t.tie.sendToggle = !s.tie.sendToggle ∧ s.attemptResolved t own r) ∧
      ∀ (r : Role) (c : ConfirmBody) (seed : Nat), s.tie.resolved = some r → s.tie.partnerConfirm = some c →
        s.tie.inFlight = some (.confirm ⟨s.tie.attempt, r, s.tie.ownSeed, seed⟩) →
        ∃ t : State, exec (.tiePageArrive line) s = .next t ∧
        linkOnly t ∧ t.tie.sendToggle = !s.tie.sendToggle ∧ s.pairingJudged t r c) ∧
    (s.tie.partnerToggle ≠ some p.toggle →
      (s.tie.inFlight = none ∨ p.ack ≠ some s.tie.sendToggle ∧ 0 < s.tie.sendCount) →
      let taken : Tie := { s.tie with partnerToggle := some p.toggle, sawAck := s.tie.sawAck || p.ack.isSome }
      (∀ r, p.body = .role r → s.tie.attempt < r.attempt → ∃ t : State, exec (.tiePageArrive line) s = .next t ∧
        s.attemptBegan t r.attempt (some r) none s.tie.inFlight s.tie.roleList ∧ t.draws = s.draws + 1 ∧
        t.tie.partnerToggle = some p.toggle ∧ s.tie.keepsRest t.tie ∧ { t with tie := s.tie, draws := s.draws } = s) ∧
      (∀ r, p.body = .role r → r.attempt < s.tie.attempt →
        exec (.tiePageArrive line) s = .next { s with tie := taken }) ∧
      (∀ r, p.body = .role r → r.attempt = s.tie.attempt → s.tie.ownRoleAcked = false ∨ s.tie.resolved ≠ none →
        exec (.tiePageArrive line) s =
          .next { s with tie := { taken with partnerRole := some r, partnerSeed := r.seed } }) ∧
      (∀ c, p.body = .confirm c → c.attempt ≠ s.tie.attempt →
        exec (.tiePageArrive line) s = .next { s with tie := taken }) ∧
      (∀ c, p.body = .confirm c → c.attempt = s.tie.attempt → s.tie.confirmAcked = false →
        exec (.tiePageArrive line) s = .next { s with tie := { taken with partnerConfirm := some c } }) ∧
      ∀ b, p.body = .close b → exec (.tiePageArrive line) s = .next { s with tie := taken })

/-- A completed window of the export set at a paired unit makes a summary of it, its absent slots marked: in flight at once
where nothing is in flight or listed, else held, else coalesced with the one held; a window without the export set, or at an
unpaired unit, makes none. A slot's products are the exact signed sums of its present members times n, held at ±(2^63 − 1)
with the slot marked saturated, its currents those of R73; TRACK is the window's, HELD and CLIP those of the channels used, a
channel of scale 0 among them (log 41). Coalescing adds products and counts, takes the larger current and joins flags and
slots (R150 to R152). The premise on the plan says that no plan switch is applied. -/
def Obligations.SummariesAreMade : Prop :=
  ∀ (s : State) (v : Fin 2) (w : Window), s.stopped = false → (s.timebases.get v).window = some w →
    w.n ≤ w.rows.length → (s.arrangement.governing ≠ v ∨ s.selector.pendingPlan = none ∨ s.op ≠ .running) →
    ∃ t : State, exec (.windowComplete v) s = .next t ∧
    (s.tie.state ≠ .pairedPrimary ∧ s.tie.state ≠ .pairedSecondary ∨ w.ownsSet.get s.settings.exportSet = false ∨
      (∀ j, s.settings.exportSlots.get j = []) → t.tie = s.tie) ∧
    ((s.tie.state = .pairedPrimary ∨ s.tie.state = .pairedSecondary) → w.ownsSet.get s.settings.exportSet = true →
      (∃ j, s.settings.exportSlots.get j ≠ []) → ∃ x : Summary,
      x.first = w.number ∧ x.count = 1 ∧ x.n = w.n ∧ x.coalesced = false ∧ x.countSaturated = false ∧
      (∀ j, x.slots.get j = none ↔ s.settings.exportSlots.get j = []) ∧
      (∀ j sl, x.slots.get j = some sl → (sl.absent = true ↔ ∃ m ∈ s.settings.exportSlots.get j,
        w.ownsTap.get m.tap = false ∨ ∃ l ∈ tapLanes m.tap, w.lanesDown.get l = true)) ∧
      (∀ p, (t.timebases.get v).table = some p →
        let here (j : Fin 4) := (s.settings.exportSlots.get j).filter fun m =>
          w.ownsTap.get m.tap && (tapLanes m.tap).all fun l => !w.lanesDown.get l
        let u (k : Fin 8) (q : Fin 3) (i : Fin 40) : Phasor :=
          (p.entries.get (voltageChannel (w.binding.get k) q)).phasors.get i
        let c (k : Fin 8) (q : Fin 3) (i : Fin 40) : Phasor := (p.entries.get (currentChannel k q)).phasors.get i
        let P (i : Fin 40) (k : Fin 8) (q : Fin 3) : Int := (u k q i).re * (c k q i).re + (u k q i).im * (c k q i).im
        let Q (k : Fin 8) (q : Fin 3) : Int := (u k q 0).im * (c k q 0).re - (u k q 0).re * (c k q 0).im
        let product (j : Fin 4) (f : Fin 8 → Fin 3 → Int) : Int :=
          ((here j).map fun m => (if m.plus then 1 else -1) * (f m.tap 0 + f m.tap 1 + f m.tap 2)).sum * w.n
        let held64 (z : Int) : Int := max (-9223372036854775807) (min 9223372036854775807 z)
        let part (j : Fin 4) (q : Fin 3) (i : Fin 40) (f : Phasor → Int) : Int :=
          ((here j).map fun m => (if m.plus then 1 else -1) * f (c m.tap q i)).sum
        let size (j : Fin 4) (q : Fin 3) (i : Fin 40) : Nat :=
          min 4294967295 ⌊Real.sqrt ((part j q i (·.re) ^ 2 + part j q i (·.im) ^ 2 : Int) : ℝ) + 1 / 2⌋₊
        let used (ch : Fin 30) : Prop := ∃ j, ∃ m ∈ here j, ∃ q : Fin 3,
          ch = currentChannel m.tap q ∨ ch = voltageChannel (w.binding.get m.tap) q
        (∀ j sl, x.slots.get j = some sl →
          sl.p1n = held64 (product j (P 0)) ∧ sl.q1n = held64 (product j Q) ∧
          (∀ i, sl.phn.get i = held64 (product j (P (order40 i)))) ∧
          (sl.saturated = true ↔ 9223372036854775807 < (product j (P 0)).natAbs ∨
            9223372036854775807 < (product j Q).natAbs ∨
            ∃ i, 9223372036854775807 < (product j (P (order40 i))).natAbs) ∧
          ∀ i, sl.currents.get i = max (size j 0 i) (max (size j 1 i) (size j 2 i))) ∧
        x.track = p.track ∧ (x.held = true ↔ ∃ ch, used ch ∧ (p.entries.get ch).held = true) ∧
        (x.clip = true ↔ ∃ ch, used ch ∧ (p.entries.get ch).clip = true)) ∧
      t.tie.exportBase = some v ∧
      (s.tie.inFlight = none → s.tie.closeList = [] → t.tie.inFlight = some (.summary x) ∧ t.tie.sendCount = 1 ∧
        t.tie.holding = s.tie.holding ∧
        t.tie.lastSent = some (Page.bytes ⟨.summary x, s.tie.sendToggle, s.tie.partnerToggle⟩)) ∧
      (s.tie.inFlight ≠ none ∨ s.tie.closeList ≠ [] → s.tie.holding = none →
        t.tie.inFlight = s.tie.inFlight ∧ t.tie.holding = some x) ∧
      ∀ a, s.tie.inFlight ≠ none ∨ s.tie.closeList ≠ [] → s.tie.holding = some a → ∃ y : Summary,
        t.tie.inFlight = s.tie.inFlight ∧ t.tie.holding = some y ∧ y.first = a.first ∧
        y.count = min 4294967295 (a.count + 1) ∧ y.n = min 4294967295 (a.n + w.n) ∧ y.coalesced = true ∧
        (y.countSaturated = true ↔ a.countSaturated = true ∨ 4294967295 < a.count + 1 ∨ 4294967295 < a.n + w.n) ∧
        (∀ j, y.slots.get j = none ↔ a.slots.get j = none ∧ x.slots.get j = none) ∧
        (∀ j k l, a.slots.get j = some k → x.slots.get j = some l → ∃ z, y.slots.get j = some z ∧
          z.p1n = max (-9223372036854775807) (min 9223372036854775807 (k.p1n + l.p1n)) ∧
          z.q1n = max (-9223372036854775807) (min 9223372036854775807 (k.q1n + l.q1n)) ∧
          (∀ i, z.phn.get i =
            max (-9223372036854775807) (min 9223372036854775807 (k.phn.get i + l.phn.get i))) ∧
          (z.saturated = true ↔ k.saturated = true ∨ l.saturated = true ∨
            9223372036854775807 < (k.p1n + l.p1n).natAbs ∨ 9223372036854775807 < (k.q1n + l.q1n).natAbs ∨
            ∃ i, 9223372036854775807 < (k.phn.get i + l.phn.get i).natAbs) ∧
          (∀ i, z.currents.get i = max (k.currents.get i) (l.currents.get i)) ∧
          z.absent = (k.absent || l.absent)) ∧
        y.track = (a.track || x.track) ∧ y.held = (a.held || x.held) ∧ y.clip = (a.clip || x.clip) ∧
        ∀ j k, (a.slots.get j = some k ∧ x.slots.get j = none ∨ a.slots.get j = none ∧ x.slots.get j = some k) →
          y.slots.get j = some { k with absent := true })

/-- A SUMMARY accepted at a PAIRED_PRIMARY unit makes one PEER contribution to each enabled account with peer-slot members
in the active plan; one accepted in another state makes none; each raises the count of summaries accepted by its windows,
in DOWN too, where it begins the resolution; a duplicate makes and raises nothing (R53, R63, R74, R142, R154). INCOMPLETE
comes from the account's own member slots, which is the model's reading (log 24). The members are those of the account
with a PEER point, each with its sign (`memberPeers`); TRACK, HELD and CLIP are the summary's, no lane is absent, and
CLAMPED is set where a bound acts. The page, with any ack field, does not begin the session anew (R143 (3)) and resolves
no attempt. -/
def Obligations.SummariesAreAccounted : Prop :=
  ∀ (s : State) (x : Summary) (toggle : Bool) (ack : Option Bool) (line : List Byte), s.stopped = false →
    s.op ≠ .starting → (PageBody.summary x).ranged → afterNoise 0x96 [] (Page.bytes ⟨.summary x, toggle, ack⟩) line →
    (s.tie.state = .down → s.tie.partnerToggle ≠ some toggle → ∃ t : State, exec (.tiePageArrive line) s = .next t ∧
      t.tie.state = .resolving ∧ t.tie.accepted = min 65535 (s.tie.accepted + x.count) ∧ s.tieFollows t) ∧
    ((s.tie.sawAck = false ∨ ack ≠ none) →
      (s.tie.state ≠ .resolving ∨ s.tie.inFlight = none ∨ ack ≠ some s.tie.sendToggle) →
      s.tie.state ≠ .off → s.tie.state ≠ .down →
    ∃ t : State, exec (.tiePageArrive line) s = .next t ∧ t.tie.state = s.tie.state ∧
    { t with tie := s.tie, accounts := s.accounts, notices := s.notices } = s ∧
    (s.tie.state ≠ .pairedPrimary ∨ s.tie.partnerToggle = some toggle → t.accounts = s.accounts) ∧
    (s.tie.partnerToggle = some toggle → t.tie.accepted = s.tie.accepted) ∧
    (s.tie.partnerToggle ≠ some toggle → t.tie.partnerToggle = some toggle ∧
      t.tie.accepted = min 65535 (s.tie.accepted + x.count)) ∧
    (s.tie.state = .pairedPrimary → s.tie.partnerToggle ≠ some toggle →
      (s.selector.active = none → t.accounts = s.accounts) ∧
      ∀ p c, s.selector.active = some p → s.selector.content = some c → ∀ a,
        let peers := c.memberPeers a
        let net (f : SlotSummary → Int) : Int := (peers.map fun m =>
          match x.slots.get m.slot with | some sl => (if m.plus then 1 else -1) * f sl | none => 0).sum
        (s.isEnabled a = true → peers ≠ [] →
          t.accounts.get a = (s.accounts.get a).contribute (x.contribution peers) p ∧
          (t.accounts.get a).windows = min 4294967295 ((s.accounts.get a).windows + x.count) ∧
          (x.contribution peers).p1n = max (-6024000000000000000) (min 6024000000000000000 (net (·.p1n))) ∧
          (x.contribution peers).q1n = max (-6024000000000000000) (min 6024000000000000000 (net (·.q1n))) ∧
          (∀ i, (x.contribution peers).phn.get i =
            max (-6024000000000000000) (min 6024000000000000000 (net fun sl => sl.phn.get i))) ∧
          (∀ i, (∀ m ∈ peers, ∀ sl, x.slots.get m.slot = some sl →
              sl.currents.get i ≤ (x.contribution peers).currents.get i) ∧
            ((x.contribution peers).currents.get i = 0 ∨ ∃ m ∈ peers, ∃ sl, x.slots.get m.slot = some sl ∧
              sl.currents.get i = (x.contribution peers).currents.get i)) ∧
          ((x.contribution peers).incomplete = true ↔ x.countSaturated = true ∨ ∃ m ∈ peers,
            ∀ sl, x.slots.get m.slot = some sl → sl.absent = true ∨ sl.saturated = true) ∧
          (x.contribution peers).track = x.track ∧ (x.contribution peers).held = x.held ∧
          (x.contribution peers).clip = x.clip ∧ (x.contribution peers).absent = false ∧
          ((x.contribution peers).clamped = true ↔ 6024000000000000000 < (net (·.p1n)).natAbs ∨
            6024000000000000000 < (net (·.q1n)).natAbs ∨
            ∃ i : Fin 39, 6024000000000000000 < (net fun sl => sl.phn.get i).natAbs)) ∧
        (s.isEnabled a = false ∨ peers = [] → t.accounts.get a = s.accounts.get a)))

/-- A CLOSE page accepted at a PAIRED_SECONDARY unit: the pair of the page where it is above the last close pair, else the
last close pair with its part raised and PAIR_INDEX latched; the close of the page's kind taken at that pair, a normal one
whatever the reason byte, a partial one with the page's reason; the position 0, ALIGNED; each record carries close cause 4;
the accounts formed are reset, the others EXTENDED, with the span raised by a normal page that finds no room (R96, R104, R106,
R107, R110, R115, R156). Part 255 of the last close pair is log 22, the greatest index log 21. The model's: a reason of a
partial page that 8.1 does not list is taken as it is, and a page of a kind that 8.1 does not list makes no close (log 35).
The page, with any ack field, does not begin the session anew (R143 (3)). -/
def Obligations.SecondaryFollowsClosePages : Prop :=
  (∀ (s : State) (index part : Nat) (kind reason : Byte) (toggle : Bool) (ack : Option Bool) (line : List Byte),
    s.stopped = false → s.op ≠ .starting → index ≤ Config.max32 → part ≤ 255 → kind ≠ 1 → kind ≠ 2 →
    afterNoise 0x96 [] (closePage index part kind reason toggle ack) line → (s.tie.sawAck = false ∨ ack ≠ none) →
    s.tie.state = .pairedSecondary → s.tie.partnerToggle ≠ some toggle →
    (s.tie.inFlight = none ∨ ack ≠ some s.tie.sendToggle ∧ 0 < s.tie.sendCount) →
    exec (.tiePageArrive line) s = .next { s with tie := { s.tie with
      partnerToggle := some toggle, sawAck := s.tie.sawAck || ack.isSome } }) ∧
  ∀ (s : State) (b : CloseBody) (kind reason : Byte) (toggle : Bool) (ack : Option Bool) (line : List Byte),
    s.stopped = false → s.op ≠ .starting → (PageBody.close b).ranged →
    (kind = 1 ∧ b.reason = none ∨ kind = 2 ∧ b.reason ≠ none ∧ reasonCode b.reason = reason.toNat) →
    afterNoise 0x96 [] (closePage b.index b.part kind reason toggle ack) line →
    (s.tie.sawAck = false ∨ ack ≠ none) → s.tie.state = .pairedSecondary →
    s.tie.partnerToggle ≠ some toggle →
    ∀ pair : Nat × Nat, pair.1 < Config.max32 → pair.2 < 255 →
    (∀ last, s.tie.lastPair = some last →
      (last.1 < b.index ∨ (last.1 = b.index ∧ last.2 < b.part) → pair = (b.index, b.part)) ∧
      (b.index < last.1 ∨ (b.index = last.1 ∧ b.part ≤ last.2) → pair = (last.1, last.2 + 1))) →
    (s.tie.lastPair = none → pair = (b.index, b.part)) →
    let record (a : Fin 16) : Record := .interval
      { s.formRecord a .closePage b.reason with index := (s.numberedBy pair a).1, part := (s.numberedBy pair a).2 }
    let places := s.enabledAccounts.take (48 - s.queue.length)
    ∃ t : State, exec (.tiePageArrive line) s = .next t ∧ t.tie.lastPair = some pair ∧
    t.clock.position = 0 ∧ t.clock.aligned = true ∧ t.clock.lateOpen = false ∧ t.clock.pendingLength = none ∧
    t.clock.length = s.clock.pendingLength.getD s.clock.length ∧
    (∀ last, s.tie.lastPair = some last → pair = (last.1, last.2 + 1) →
      (b.index < last.1 ∨ (b.index = last.1 ∧ b.part ≤ last.2)) → t.notices.latched.getLsbD 14 = true) ∧
    (b.reason = none → t.clock.index = pair.1 + 1 ∧ t.clock.part = 0 ∧
      (s.queue.length + s.enabledAccounts.length ≤ 32 → t.queue = s.queue ++ s.enabledAccounts.map record ∧
        (s.renumberedBy pair).closed t s.enabledAccounts .closePage none (pair.1 + 1) 0 true true) ∧
      (32 < s.queue.length + s.enabledAccounts.length → s.enabledAccounts ≠ [] → t.queue = s.queue ∧
        (s.renumberedBy pair).closed t [] .closePage none (pair.1 + 1) 0 true true)) ∧
    (b.reason ≠ none → t.clock.index = pair.1 ∧ t.queue = s.queue ++ places.map record ∧
      (places ≠ [] → t.clock.part = pair.2 + 1) ∧ (places = [] → t.clock.part = pair.2) ∧
      (s.renumberedBy pair).closed t places .closePage b.reason pair.1
        (if places = [] then pair.2 else pair.2 + 1) true false) ∧
    s.sameButClose t

/-! ### Invariants -/

/-- Every step keeps the canonical form of the archive memory: no record area above 32 752 bytes, none that ends in an erased
byte, and an ERASED segment that holds nothing (7.1, R112, R135). -/
def Obligations.MemoryFormIsKept : Prop :=
  ∀ s t : State, Memory.wf s.nv.segments = true → step s = .next t → Memory.wf t.nv.segments = true

/-- Every step keeps the ranges that the spec names: 48 queue places, two receive places and 4 CLOSE pages (R105, R155,
R162); the clock's position within L, its part and index and the last close pair in their ranges (6.1); the counts of lanes
and trackers (R5, R6, R13); the sixteen-bit counters (R175); every whole count (R67); the read cursor at offset 16 or later (7.1,
R132); no write and no erase in SCANNING (R125, R136); and ROLE pages and seeds that are those of the link's attempt (R146). -/
def Obligations.RangesAreKept : Prop :=
  ∀ s t : State, step s = .next t →
    (s.bounded → t.bounded) ∧ (s.clockRanged → t.clockRanged) ∧ (s.countsRanged → t.countsRanged) ∧
    (s.notices.counted → t.notices.counted) ∧ (s.cursorRanged → t.cursorRanged) ∧
    (s.scanQuiet → t.scanQuiet) ∧ (s.rolesHeld → t.rolesHeld) ∧
    ((∀ a, (s.accounts.get a).wholesRanged) → ∀ a, (t.accounts.get a).wholesRanged)

/-- The state right after reset has the canonical form and every range that the steps keep. -/
def Obligations.ResetHasInvariants : Prop :=
  Memory.wf State.reset.nv.segments = true ∧ State.reset.bounded ∧ State.reset.clockRanged ∧
  State.reset.countsRanged ∧ State.reset.notices.counted ∧ State.reset.cursorRanged ∧ State.reset.scanQuiet ∧
  State.reset.rolesHeld ∧ ∀ a, (State.reset.accounts.get a).wholesRanged
end

