-- ==== Sys2Proof/Laws/Bytes.lean ====
section
/-! SUPPORT. What the shared byte and arithmetic operations do: little-endian fields, checks, saturating counts, rounding. -/

namespace Sys2Proof.Machine

/-! ### Little-endian fields -/

@[simp] theorem leBytes_length (k n : Nat) : (leBytes k n).length = k := by
  induction k generalizing n with
  | zero => rfl
  | succ k ih => simp [leBytes, ih]

theorem ofLe_leBytes (k n : Nat) : ofLe (leBytes k n) = n % 256 ^ k := by
  induction k generalizing n with
  | zero => simp [leBytes, ofLe, Nat.mod_one]
  | succ k ih =>
    simp only [leBytes, ofLe, ih, BitVec.toNat_ofNat]
    have h : (2 : Nat) ^ 8 = 256 := rfl
    rw [h, Nat.pow_succ', Nat.mod_mul]

theorem ofLe_lt (bs : List Byte) : ofLe bs < 256 ^ bs.length := by
  induction bs with
  | nil => simp [ofLe]
  | cons b bs ih =>
    have := b.isLt
    simp only [ofLe, List.length_cons, Nat.pow_succ]
    omega

theorem leBytes_ofLe (bs : List Byte) : leBytes bs.length (ofLe bs) = bs := by
  induction bs with
  | nil => rfl
  | cons b bs ih =>
    have hb := b.isLt
    have h1 : (b.toNat + 256 * ofLe bs) / 256 = ofLe bs := by omega
    have h2 : BitVec.ofNat 8 (b.toNat + 256 * ofLe bs) = b := by
      apply BitVec.eq_of_toNat_eq
      simp only [BitVec.toNat_ofNat]
      omega
    simp only [List.length_cons, ofLe, leBytes, h1, h2, ih]

/-- A field within a concatenation: what was written there, reduced to its width. -/
theorem field_append (a b : List Byte) (k n : Nat) :
    field (a ++ leBytes k n ++ b) a.length k = n % 256 ^ k := by
  have h : slice (a ++ leBytes k n ++ b) a.length k = leBytes k n := by
    simp [slice]
  rw [field, h, ofLe_leBytes]

theorem field_lt (bs : List Byte) (i k : Nat) : field bs i k < 256 ^ k := by
  have h := ofLe_lt (slice bs i k)
  have hl : (slice bs i k).length ≤ k := by simp [slice]
  exact Nat.lt_of_lt_of_le h (Nat.pow_le_pow_right (by decide) hl)

@[simp] theorem byte_length (n : Nat) : (byte n).length = 1 := by simp [byte]
@[simp] theorem boolByte_length (b : Bool) : (boolByte b).length = 1 := by simp [boolByte]
@[simp] theorem leInt_length (k : Nat) (z : Int) : (leInt k z).length = k := by simp [leInt]

theorem ofLeInt_leInt (k : Nat) (z : Int) (hk : 0 < k) (h1 : -(256 ^ k / 2 : Nat) ≤ z)
    (h2 : z < (256 ^ k / 2 : Nat)) : ofLeInt (leInt k z) = z := by
  obtain ⟨m, hm⟩ : ∃ m, 256 ^ k = 2 * m := by
    obtain ⟨j, rfl⟩ : ∃ j, k = j + 1 := ⟨k - 1, by omega⟩
    exact ⟨128 * 256 ^ j, by rw [Nat.pow_succ]; ring⟩
  have hpos : 0 < 256 ^ k := Nat.pow_pos (by decide)
  have hlt : (z % (256 ^ k : Nat)).toNat < 256 ^ k := by
    have := Int.emod_lt_of_pos z (b := (256 ^ k : Nat)) (by exact_mod_cast hpos)
    have := Int.emod_nonneg z (b := (256 ^ k : Nat)) (by omega)
    omega
  simp only [ofLeInt, leInt, ofLe_leBytes, leBytes_length, Nat.mod_eq_of_lt hlt]
  rw [hm] at h1 h2 ⊢
  have hd : 2 * m / 2 = m := by omega
  rw [hd] at h1 h2
  by_cases hz : 0 ≤ z
  · have : z % ((2 * m : Nat) : Int) = z := Int.emod_eq_of_lt hz (by omega)
    rw [this]
    split <;> omega
  · have : z % ((2 * m : Nat) : Int) = z + (2 * m : Nat) := by
      rw [← Int.add_emod_right, Int.emod_eq_of_lt] <;> omega
    rw [this]
    split <;> omega

/-! ### The check -/

/-- A list with its check appended passes the check. -/
theorem crcOk_withCrc (bs : List Byte) : crcOk (withCrc bs) = true := by
  simp [crcOk, withCrc]

@[simp] theorem withCrc_length (bs : List Byte) : (withCrc bs).length = bs.length + 2 := by simp [withCrc]

/-! ### Counts and rounding -/

theorem satAdd_le (cap a b : Nat) : satAdd cap a b ≤ cap := Nat.min_le_left _ _

theorem bump_le (c : Nat) : bump c ≤ 65535 := satAdd_le _ _ _

theorem clampInt_natAbs (bound : Nat) (z : Int) : (clampInt bound z).natAbs ≤ bound := by
  unfold clampInt
  omega

/-- Rounding half up: the nearest whole number, the higher of two. -/
theorem roundHalfUp_spec (num den : Nat) (h : 0 < den) :
    2 * den * roundHalfUp num den ≤ 2 * num + den ∧ 2 * num < 2 * den * roundHalfUp num den + den := by
  unfold roundHalfUp
  have h1 := Nat.div_mul_le_self (2 * num + den) (2 * den)
  have h2 := Nat.lt_div_mul_add (a := 2 * num + den) (b := 2 * den) (by omega)
  rw [Nat.mul_comm (_ / _)] at h1 h2
  constructor <;> omega

end Sys2Proof.Machine
end

