-- ==== Sys2Proof/Laws/State.lean ====
section
/-! SUPPORT. For each update of State, the fields it leaves and the value of those it sets: later proofs need not unfold the
record update. -/

namespace Sys2Proof.Machine

variable (s : State)

/-! `State.mapAccounts` -/

@[simp] theorem State.mapAccounts_pending (f : Fin 16 → Account → Account) : (s.mapAccounts f).pending = s.pending := by cases s; rfl
@[simp] theorem State.mapAccounts_resetLine (f : Fin 16 → Account → Account) : (s.mapAccounts f).resetLine = s.resetLine := by cases s; rfl
@[simp] theorem State.mapAccounts_unpowered (f : Fin 16 → Account → Account) : (s.mapAccounts f).unpowered = s.unpowered := by cases s; rfl
@[simp] theorem State.mapAccounts_warning (f : Fin 16 → Account → Account) : (s.mapAccounts f).warning = s.warning := by cases s; rfl
@[simp] theorem State.mapAccounts_op (f : Fin 16 → Account → Account) : (s.mapAccounts f).op = s.op := by cases s; rfl
@[simp] theorem State.mapAccounts_path (f : Fin 16 → Account → Account) : (s.mapAccounts f).path = s.path := by cases s; rfl
@[simp] theorem State.mapAccounts_nv (f : Fin 16 → Account → Account) : (s.mapAccounts f).nv = s.nv := by cases s; rfl
@[simp] theorem State.mapAccounts_settings (f : Fin 16 → Account → Account) : (s.mapAccounts f).settings = s.settings := by cases s; rfl
@[simp] theorem State.mapAccounts_store (f : Fin 16 → Account → Account) : (s.mapAccounts f).store = s.store := by cases s; rfl
@[simp] theorem State.mapAccounts_lanes (f : Fin 16 → Account → Account) : (s.mapAccounts f).lanes = s.lanes := by cases s; rfl
@[simp] theorem State.mapAccounts_channels (f : Fin 16 → Account → Account) : (s.mapAccounts f).channels = s.channels := by cases s; rfl
@[simp] theorem State.mapAccounts_trackers (f : Fin 16 → Account → Account) : (s.mapAccounts f).trackers = s.trackers := by cases s; rfl
@[simp] theorem State.mapAccounts_timebases (f : Fin 16 → Account → Account) : (s.mapAccounts f).timebases = s.timebases := by cases s; rfl
@[simp] theorem State.mapAccounts_sampleIndex (f : Fin 16 → Account → Account) : (s.mapAccounts f).sampleIndex = s.sampleIndex := by cases s; rfl
@[simp] theorem State.mapAccounts_selector (f : Fin 16 → Account → Account) : (s.mapAccounts f).selector = s.selector := by cases s; rfl
@[simp] theorem State.mapAccounts_accounts (f : Fin 16 → Account → Account) : (s.mapAccounts f).accounts = s.accounts.each f := by cases s; rfl
@[simp] theorem State.mapAccounts_clock (f : Fin 16 → Account → Account) : (s.mapAccounts f).clock = s.clock := by cases s; rfl
@[simp] theorem State.mapAccounts_queue (f : Fin 16 → Account → Account) : (s.mapAccounts f).queue = s.queue := by cases s; rfl
@[simp] theorem State.mapAccounts_archive (f : Fin 16 → Account → Account) : (s.mapAccounts f).archive = s.archive := by cases s; rfl
@[simp] theorem State.mapAccounts_tie (f : Fin 16 → Account → Account) : (s.mapAccounts f).tie = s.tie := by cases s; rfl
@[simp] theorem State.mapAccounts_msg (f : Fin 16 → Account → Account) : (s.mapAccounts f).msg = s.msg := by cases s; rfl
@[simp] theorem State.mapAccounts_notices (f : Fin 16 → Account → Account) : (s.mapAccounts f).notices = s.notices := by cases s; rfl
@[simp] theorem State.mapAccounts_draws (f : Fin 16 → Account → Account) : (s.mapAccounts f).draws = s.draws := by cases s; rfl
@[simp] theorem State.mapAccounts_stopped (f : Fin 16 → Account → Account) : (s.mapAccounts f).stopped = s.stopped := by simp [State.stopped]

/-! `State.latch` -/

@[simp] theorem State.latch_pending (x : Notice) : (s.latch x).pending = s.pending := by cases s; rfl
@[simp] theorem State.latch_resetLine (x : Notice) : (s.latch x).resetLine = s.resetLine := by cases s; rfl
@[simp] theorem State.latch_unpowered (x : Notice) : (s.latch x).unpowered = s.unpowered := by cases s; rfl
@[simp] theorem State.latch_warning (x : Notice) : (s.latch x).warning = s.warning := by cases s; rfl
@[simp] theorem State.latch_op (x : Notice) : (s.latch x).op = s.op := by cases s; rfl
@[simp] theorem State.latch_path (x : Notice) : (s.latch x).path = s.path := by cases s; rfl
@[simp] theorem State.latch_nv (x : Notice) : (s.latch x).nv = s.nv := by cases s; rfl
@[simp] theorem State.latch_settings (x : Notice) : (s.latch x).settings = s.settings := by cases s; rfl
@[simp] theorem State.latch_store (x : Notice) : (s.latch x).store = s.store := by cases s; rfl
@[simp] theorem State.latch_lanes (x : Notice) : (s.latch x).lanes = s.lanes := by cases s; rfl
@[simp] theorem State.latch_channels (x : Notice) : (s.latch x).channels = s.channels := by cases s; rfl
@[simp] theorem State.latch_trackers (x : Notice) : (s.latch x).trackers = s.trackers := by cases s; rfl
@[simp] theorem State.latch_timebases (x : Notice) : (s.latch x).timebases = s.timebases := by cases s; rfl
@[simp] theorem State.latch_sampleIndex (x : Notice) : (s.latch x).sampleIndex = s.sampleIndex := by cases s; rfl
@[simp] theorem State.latch_selector (x : Notice) : (s.latch x).selector = s.selector := by cases s; rfl
@[simp] theorem State.latch_accounts (x : Notice) : (s.latch x).accounts = s.accounts := by cases s; rfl
@[simp] theorem State.latch_clock (x : Notice) : (s.latch x).clock = s.clock := by cases s; rfl
@[simp] theorem State.latch_queue (x : Notice) : (s.latch x).queue = s.queue := by cases s; rfl
@[simp] theorem State.latch_archive (x : Notice) : (s.latch x).archive = s.archive := by cases s; rfl
@[simp] theorem State.latch_tie (x : Notice) : (s.latch x).tie = s.tie := by cases s; rfl
@[simp] theorem State.latch_msg (x : Notice) : (s.latch x).msg = s.msg := by cases s; rfl
@[simp] theorem State.latch_draws (x : Notice) : (s.latch x).draws = s.draws := by cases s; rfl
@[simp] theorem State.latch_stopped (x : Notice) : (s.latch x).stopped = s.stopped := by simp [State.stopped]

/-! `State.recordLows` -/

@[simp] theorem State.recordLows_pending : (s.recordLows).pending = s.pending := by cases s; rfl
@[simp] theorem State.recordLows_resetLine : (s.recordLows).resetLine = s.resetLine := by cases s; rfl
@[simp] theorem State.recordLows_unpowered : (s.recordLows).unpowered = s.unpowered := by cases s; rfl
@[simp] theorem State.recordLows_warning : (s.recordLows).warning = s.warning := by cases s; rfl
@[simp] theorem State.recordLows_op : (s.recordLows).op = s.op := by cases s; rfl
@[simp] theorem State.recordLows_path : (s.recordLows).path = s.path := by cases s; rfl
@[simp] theorem State.recordLows_nv : (s.recordLows).nv = s.nv := by cases s; rfl
@[simp] theorem State.recordLows_settings : (s.recordLows).settings = s.settings := by cases s; rfl
@[simp] theorem State.recordLows_store : (s.recordLows).store = s.store := by cases s; rfl
@[simp] theorem State.recordLows_lanes : (s.recordLows).lanes = s.lanes := by cases s; rfl
@[simp] theorem State.recordLows_channels : (s.recordLows).channels = s.channels := by cases s; rfl
@[simp] theorem State.recordLows_trackers : (s.recordLows).trackers = s.trackers := by cases s; rfl
@[simp] theorem State.recordLows_timebases : (s.recordLows).timebases = s.timebases := by cases s; rfl
@[simp] theorem State.recordLows_sampleIndex : (s.recordLows).sampleIndex = s.sampleIndex := by cases s; rfl
@[simp] theorem State.recordLows_selector : (s.recordLows).selector = s.selector := by cases s; rfl
@[simp] theorem State.recordLows_accounts : (s.recordLows).accounts = s.accounts := by cases s; rfl
@[simp] theorem State.recordLows_clock : (s.recordLows).clock = s.clock := by cases s; rfl
@[simp] theorem State.recordLows_queue : (s.recordLows).queue = s.queue := by cases s; rfl
@[simp] theorem State.recordLows_archive : (s.recordLows).archive = s.archive := by cases s; rfl
@[simp] theorem State.recordLows_tie : (s.recordLows).tie = s.tie := by cases s; rfl
@[simp] theorem State.recordLows_msg : (s.recordLows).msg = s.msg := by cases s; rfl
@[simp] theorem State.recordLows_notices : (s.recordLows).notices = { s.notices with lows := s.notices.lows ||| s.presentBad } := by cases s; rfl
@[simp] theorem State.recordLows_draws : (s.recordLows).draws = s.draws := by cases s; rfl
@[simp] theorem State.recordLows_stopped : (s.recordLows).stopped = s.stopped := by simp [State.stopped]

/-! `State.clearNotices` -/

@[simp] theorem State.clearNotices_pending : (s.clearNotices).pending = s.pending := by cases s; rfl
@[simp] theorem State.clearNotices_resetLine : (s.clearNotices).resetLine = s.resetLine := by cases s; rfl
@[simp] theorem State.clearNotices_unpowered : (s.clearNotices).unpowered = s.unpowered := by cases s; rfl
@[simp] theorem State.clearNotices_warning : (s.clearNotices).warning = s.warning := by cases s; rfl
@[simp] theorem State.clearNotices_op : (s.clearNotices).op = s.op := by cases s; rfl
@[simp] theorem State.clearNotices_path : (s.clearNotices).path = s.path := by cases s; rfl
@[simp] theorem State.clearNotices_nv : (s.clearNotices).nv = s.nv := by cases s; rfl
@[simp] theorem State.clearNotices_settings : (s.clearNotices).settings = s.settings := by cases s; rfl
@[simp] theorem State.clearNotices_store : (s.clearNotices).store = s.store := by cases s; rfl
@[simp] theorem State.clearNotices_lanes : (s.clearNotices).lanes = s.lanes := by cases s; rfl
@[simp] theorem State.clearNotices_channels : (s.clearNotices).channels = s.channels := by cases s; rfl
@[simp] theorem State.clearNotices_trackers : (s.clearNotices).trackers = s.trackers := by cases s; rfl
@[simp] theorem State.clearNotices_timebases : (s.clearNotices).timebases = s.timebases := by cases s; rfl
@[simp] theorem State.clearNotices_sampleIndex : (s.clearNotices).sampleIndex = s.sampleIndex := by cases s; rfl
@[simp] theorem State.clearNotices_selector : (s.clearNotices).selector = s.selector := by cases s; rfl
@[simp] theorem State.clearNotices_accounts : (s.clearNotices).accounts = s.accounts := by cases s; rfl
@[simp] theorem State.clearNotices_clock : (s.clearNotices).clock = s.clock := by cases s; rfl
@[simp] theorem State.clearNotices_queue : (s.clearNotices).queue = s.queue := by cases s; rfl
@[simp] theorem State.clearNotices_archive : (s.clearNotices).archive = s.archive := by cases s; rfl
@[simp] theorem State.clearNotices_tie : (s.clearNotices).tie = s.tie := by cases s; rfl
@[simp] theorem State.clearNotices_msg : (s.clearNotices).msg = s.msg := by cases s; rfl
@[simp] theorem State.clearNotices_notices : (s.clearNotices).notices = { Notices.initial with lows := s.presentBad, pulse := s.notices.pulse } := by cases s; rfl
@[simp] theorem State.clearNotices_draws : (s.clearNotices).draws = s.draws := by cases s; rfl
@[simp] theorem State.clearNotices_stopped : (s.clearNotices).stopped = s.stopped := by simp [State.stopped]

/-! `State.countLaneError` -/

@[simp] theorem State.countLaneError_pending (l : Fin 4) : (s.countLaneError l).pending = s.pending := by cases s; rfl
@[simp] theorem State.countLaneError_resetLine (l : Fin 4) : (s.countLaneError l).resetLine = s.resetLine := by cases s; rfl
@[simp] theorem State.countLaneError_unpowered (l : Fin 4) : (s.countLaneError l).unpowered = s.unpowered := by cases s; rfl
@[simp] theorem State.countLaneError_warning (l : Fin 4) : (s.countLaneError l).warning = s.warning := by cases s; rfl
@[simp] theorem State.countLaneError_op (l : Fin 4) : (s.countLaneError l).op = s.op := by cases s; rfl
@[simp] theorem State.countLaneError_path (l : Fin 4) : (s.countLaneError l).path = s.path := by cases s; rfl
@[simp] theorem State.countLaneError_nv (l : Fin 4) : (s.countLaneError l).nv = s.nv := by cases s; rfl
@[simp] theorem State.countLaneError_settings (l : Fin 4) : (s.countLaneError l).settings = s.settings := by cases s; rfl
@[simp] theorem State.countLaneError_store (l : Fin 4) : (s.countLaneError l).store = s.store := by cases s; rfl
@[simp] theorem State.countLaneError_lanes (l : Fin 4) : (s.countLaneError l).lanes = s.lanes := by cases s; rfl
@[simp] theorem State.countLaneError_channels (l : Fin 4) : (s.countLaneError l).channels = s.channels := by cases s; rfl
@[simp] theorem State.countLaneError_trackers (l : Fin 4) : (s.countLaneError l).trackers = s.trackers := by cases s; rfl
@[simp] theorem State.countLaneError_timebases (l : Fin 4) : (s.countLaneError l).timebases = s.timebases := by cases s; rfl
@[simp] theorem State.countLaneError_sampleIndex (l : Fin 4) : (s.countLaneError l).sampleIndex = s.sampleIndex := by cases s; rfl
@[simp] theorem State.countLaneError_selector (l : Fin 4) : (s.countLaneError l).selector = s.selector := by cases s; rfl
@[simp] theorem State.countLaneError_accounts (l : Fin 4) : (s.countLaneError l).accounts = s.accounts := by cases s; rfl
@[simp] theorem State.countLaneError_clock (l : Fin 4) : (s.countLaneError l).clock = s.clock := by cases s; rfl
@[simp] theorem State.countLaneError_queue (l : Fin 4) : (s.countLaneError l).queue = s.queue := by cases s; rfl
@[simp] theorem State.countLaneError_archive (l : Fin 4) : (s.countLaneError l).archive = s.archive := by cases s; rfl
@[simp] theorem State.countLaneError_tie (l : Fin 4) : (s.countLaneError l).tie = s.tie := by cases s; rfl
@[simp] theorem State.countLaneError_msg (l : Fin 4) : (s.countLaneError l).msg = s.msg := by cases s; rfl
@[simp] theorem State.countLaneError_notices (l : Fin 4) : (s.countLaneError l).notices = { s.notices with laneErrors := s.notices.laneErrors.change l bump } := by cases s; rfl
@[simp] theorem State.countLaneError_draws (l : Fin 4) : (s.countLaneError l).draws = s.draws := by cases s; rfl
@[simp] theorem State.countLaneError_stopped (l : Fin 4) : (s.countLaneError l).stopped = s.stopped := by simp [State.stopped]

/-! `State.countDiscarded` -/

@[simp] theorem State.countDiscarded_pending : (s.countDiscarded).pending = s.pending := by cases s; rfl
@[simp] theorem State.countDiscarded_resetLine : (s.countDiscarded).resetLine = s.resetLine := by cases s; rfl
@[simp] theorem State.countDiscarded_unpowered : (s.countDiscarded).unpowered = s.unpowered := by cases s; rfl
@[simp] theorem State.countDiscarded_warning : (s.countDiscarded).warning = s.warning := by cases s; rfl
@[simp] theorem State.countDiscarded_op : (s.countDiscarded).op = s.op := by cases s; rfl
@[simp] theorem State.countDiscarded_path : (s.countDiscarded).path = s.path := by cases s; rfl
@[simp] theorem State.countDiscarded_nv : (s.countDiscarded).nv = s.nv := by cases s; rfl
@[simp] theorem State.countDiscarded_settings : (s.countDiscarded).settings = s.settings := by cases s; rfl
@[simp] theorem State.countDiscarded_store : (s.countDiscarded).store = s.store := by cases s; rfl
@[simp] theorem State.countDiscarded_lanes : (s.countDiscarded).lanes = s.lanes := by cases s; rfl
@[simp] theorem State.countDiscarded_channels : (s.countDiscarded).channels = s.channels := by cases s; rfl
@[simp] theorem State.countDiscarded_trackers : (s.countDiscarded).trackers = s.trackers := by cases s; rfl
@[simp] theorem State.countDiscarded_timebases : (s.countDiscarded).timebases = s.timebases := by cases s; rfl
@[simp] theorem State.countDiscarded_sampleIndex : (s.countDiscarded).sampleIndex = s.sampleIndex := by cases s; rfl
@[simp] theorem State.countDiscarded_selector : (s.countDiscarded).selector = s.selector := by cases s; rfl
@[simp] theorem State.countDiscarded_accounts : (s.countDiscarded).accounts = s.accounts := by cases s; rfl
@[simp] theorem State.countDiscarded_clock : (s.countDiscarded).clock = s.clock := by cases s; rfl
@[simp] theorem State.countDiscarded_queue : (s.countDiscarded).queue = s.queue := by cases s; rfl
@[simp] theorem State.countDiscarded_archive : (s.countDiscarded).archive = s.archive := by cases s; rfl
@[simp] theorem State.countDiscarded_tie : (s.countDiscarded).tie = s.tie := by cases s; rfl
@[simp] theorem State.countDiscarded_msg : (s.countDiscarded).msg = s.msg := by cases s; rfl
@[simp] theorem State.countDiscarded_notices : (s.countDiscarded).notices = { s.notices with discarded := bump s.notices.discarded } := by cases s; rfl
@[simp] theorem State.countDiscarded_draws : (s.countDiscarded).draws = s.draws := by cases s; rfl
@[simp] theorem State.countDiscarded_stopped : (s.countDiscarded).stopped = s.stopped := by simp [State.stopped]

/-! `State.countOverrun` -/

@[simp] theorem State.countOverrun_pending : (s.countOverrun).pending = s.pending := by cases s; rfl
@[simp] theorem State.countOverrun_resetLine : (s.countOverrun).resetLine = s.resetLine := by cases s; rfl
@[simp] theorem State.countOverrun_unpowered : (s.countOverrun).unpowered = s.unpowered := by cases s; rfl
@[simp] theorem State.countOverrun_warning : (s.countOverrun).warning = s.warning := by cases s; rfl
@[simp] theorem State.countOverrun_op : (s.countOverrun).op = s.op := by cases s; rfl
@[simp] theorem State.countOverrun_path : (s.countOverrun).path = s.path := by cases s; rfl
@[simp] theorem State.countOverrun_nv : (s.countOverrun).nv = s.nv := by cases s; rfl
@[simp] theorem State.countOverrun_settings : (s.countOverrun).settings = s.settings := by cases s; rfl
@[simp] theorem State.countOverrun_store : (s.countOverrun).store = s.store := by cases s; rfl
@[simp] theorem State.countOverrun_lanes : (s.countOverrun).lanes = s.lanes := by cases s; rfl
@[simp] theorem State.countOverrun_channels : (s.countOverrun).channels = s.channels := by cases s; rfl
@[simp] theorem State.countOverrun_trackers : (s.countOverrun).trackers = s.trackers := by cases s; rfl
@[simp] theorem State.countOverrun_timebases : (s.countOverrun).timebases = s.timebases := by cases s; rfl
@[simp] theorem State.countOverrun_sampleIndex : (s.countOverrun).sampleIndex = s.sampleIndex := by cases s; rfl
@[simp] theorem State.countOverrun_selector : (s.countOverrun).selector = s.selector := by cases s; rfl
@[simp] theorem State.countOverrun_accounts : (s.countOverrun).accounts = s.accounts := by cases s; rfl
@[simp] theorem State.countOverrun_clock : (s.countOverrun).clock = s.clock := by cases s; rfl
@[simp] theorem State.countOverrun_queue : (s.countOverrun).queue = s.queue := by cases s; rfl
@[simp] theorem State.countOverrun_archive : (s.countOverrun).archive = s.archive := by cases s; rfl
@[simp] theorem State.countOverrun_tie : (s.countOverrun).tie = s.tie := by cases s; rfl
@[simp] theorem State.countOverrun_msg : (s.countOverrun).msg = s.msg := by cases s; rfl
@[simp] theorem State.countOverrun_notices : (s.countOverrun).notices = { s.notices with overruns := bump s.notices.overruns } := by cases s; rfl
@[simp] theorem State.countOverrun_draws : (s.countOverrun).draws = s.draws := by cases s; rfl
@[simp] theorem State.countOverrun_stopped : (s.countOverrun).stopped = s.stopped := by simp [State.stopped]

/-! `State.countResent` -/

@[simp] theorem State.countResent_pending : (s.countResent).pending = s.pending := by cases s; rfl
@[simp] theorem State.countResent_resetLine : (s.countResent).resetLine = s.resetLine := by cases s; rfl
@[simp] theorem State.countResent_unpowered : (s.countResent).unpowered = s.unpowered := by cases s; rfl
@[simp] theorem State.countResent_warning : (s.countResent).warning = s.warning := by cases s; rfl
@[simp] theorem State.countResent_op : (s.countResent).op = s.op := by cases s; rfl
@[simp] theorem State.countResent_path : (s.countResent).path = s.path := by cases s; rfl
@[simp] theorem State.countResent_nv : (s.countResent).nv = s.nv := by cases s; rfl
@[simp] theorem State.countResent_settings : (s.countResent).settings = s.settings := by cases s; rfl
@[simp] theorem State.countResent_store : (s.countResent).store = s.store := by cases s; rfl
@[simp] theorem State.countResent_lanes : (s.countResent).lanes = s.lanes := by cases s; rfl
@[simp] theorem State.countResent_channels : (s.countResent).channels = s.channels := by cases s; rfl
@[simp] theorem State.countResent_trackers : (s.countResent).trackers = s.trackers := by cases s; rfl
@[simp] theorem State.countResent_timebases : (s.countResent).timebases = s.timebases := by cases s; rfl
@[simp] theorem State.countResent_sampleIndex : (s.countResent).sampleIndex = s.sampleIndex := by cases s; rfl
@[simp] theorem State.countResent_selector : (s.countResent).selector = s.selector := by cases s; rfl
@[simp] theorem State.countResent_accounts : (s.countResent).accounts = s.accounts := by cases s; rfl
@[simp] theorem State.countResent_clock : (s.countResent).clock = s.clock := by cases s; rfl
@[simp] theorem State.countResent_queue : (s.countResent).queue = s.queue := by cases s; rfl
@[simp] theorem State.countResent_archive : (s.countResent).archive = s.archive := by cases s; rfl
@[simp] theorem State.countResent_tie : (s.countResent).tie = s.tie := by cases s; rfl
@[simp] theorem State.countResent_msg : (s.countResent).msg = s.msg := by cases s; rfl
@[simp] theorem State.countResent_notices : (s.countResent).notices = { s.notices with resent := bump s.notices.resent } := by cases s; rfl
@[simp] theorem State.countResent_draws : (s.countResent).draws = s.draws := by cases s; rfl
@[simp] theorem State.countResent_stopped : (s.countResent).stopped = s.stopped := by simp [State.stopped]

/-! `State.countBadPage` -/

@[simp] theorem State.countBadPage_pending : (s.countBadPage).pending = s.pending := by cases s; rfl
@[simp] theorem State.countBadPage_resetLine : (s.countBadPage).resetLine = s.resetLine := by cases s; rfl
@[simp] theorem State.countBadPage_unpowered : (s.countBadPage).unpowered = s.unpowered := by cases s; rfl
@[simp] theorem State.countBadPage_warning : (s.countBadPage).warning = s.warning := by cases s; rfl
@[simp] theorem State.countBadPage_op : (s.countBadPage).op = s.op := by cases s; rfl
@[simp] theorem State.countBadPage_path : (s.countBadPage).path = s.path := by cases s; rfl
@[simp] theorem State.countBadPage_nv : (s.countBadPage).nv = s.nv := by cases s; rfl
@[simp] theorem State.countBadPage_settings : (s.countBadPage).settings = s.settings := by cases s; rfl
@[simp] theorem State.countBadPage_store : (s.countBadPage).store = s.store := by cases s; rfl
@[simp] theorem State.countBadPage_lanes : (s.countBadPage).lanes = s.lanes := by cases s; rfl
@[simp] theorem State.countBadPage_channels : (s.countBadPage).channels = s.channels := by cases s; rfl
@[simp] theorem State.countBadPage_trackers : (s.countBadPage).trackers = s.trackers := by cases s; rfl
@[simp] theorem State.countBadPage_timebases : (s.countBadPage).timebases = s.timebases := by cases s; rfl
@[simp] theorem State.countBadPage_sampleIndex : (s.countBadPage).sampleIndex = s.sampleIndex := by cases s; rfl
@[simp] theorem State.countBadPage_selector : (s.countBadPage).selector = s.selector := by cases s; rfl
@[simp] theorem State.countBadPage_accounts : (s.countBadPage).accounts = s.accounts := by cases s; rfl
@[simp] theorem State.countBadPage_clock : (s.countBadPage).clock = s.clock := by cases s; rfl
@[simp] theorem State.countBadPage_queue : (s.countBadPage).queue = s.queue := by cases s; rfl
@[simp] theorem State.countBadPage_archive : (s.countBadPage).archive = s.archive := by cases s; rfl
@[simp] theorem State.countBadPage_tie : (s.countBadPage).tie = s.tie := by cases s; rfl
@[simp] theorem State.countBadPage_msg : (s.countBadPage).msg = s.msg := by cases s; rfl
@[simp] theorem State.countBadPage_notices : (s.countBadPage).notices = { s.notices with badPages := bump s.notices.badPages } := by cases s; rfl
@[simp] theorem State.countBadPage_draws : (s.countBadPage).draws = s.draws := by cases s; rfl
@[simp] theorem State.countBadPage_stopped : (s.countBadPage).stopped = s.stopped := by simp [State.stopped]

/-! `State.countAbandoned` -/

@[simp] theorem State.countAbandoned_pending : (s.countAbandoned).pending = s.pending := by cases s; rfl
@[simp] theorem State.countAbandoned_resetLine : (s.countAbandoned).resetLine = s.resetLine := by cases s; rfl
@[simp] theorem State.countAbandoned_unpowered : (s.countAbandoned).unpowered = s.unpowered := by cases s; rfl
@[simp] theorem State.countAbandoned_warning : (s.countAbandoned).warning = s.warning := by cases s; rfl
@[simp] theorem State.countAbandoned_op : (s.countAbandoned).op = s.op := by cases s; rfl
@[simp] theorem State.countAbandoned_path : (s.countAbandoned).path = s.path := by cases s; rfl
@[simp] theorem State.countAbandoned_nv : (s.countAbandoned).nv = s.nv := by cases s; rfl
@[simp] theorem State.countAbandoned_settings : (s.countAbandoned).settings = s.settings := by cases s; rfl
@[simp] theorem State.countAbandoned_store : (s.countAbandoned).store = s.store := by cases s; rfl
@[simp] theorem State.countAbandoned_lanes : (s.countAbandoned).lanes = s.lanes := by cases s; rfl
@[simp] theorem State.countAbandoned_channels : (s.countAbandoned).channels = s.channels := by cases s; rfl
@[simp] theorem State.countAbandoned_trackers : (s.countAbandoned).trackers = s.trackers := by cases s; rfl
@[simp] theorem State.countAbandoned_timebases : (s.countAbandoned).timebases = s.timebases := by cases s; rfl
@[simp] theorem State.countAbandoned_sampleIndex : (s.countAbandoned).sampleIndex = s.sampleIndex := by cases s; rfl
@[simp] theorem State.countAbandoned_selector : (s.countAbandoned).selector = s.selector := by cases s; rfl
@[simp] theorem State.countAbandoned_accounts : (s.countAbandoned).accounts = s.accounts := by cases s; rfl
@[simp] theorem State.countAbandoned_clock : (s.countAbandoned).clock = s.clock := by cases s; rfl
@[simp] theorem State.countAbandoned_queue : (s.countAbandoned).queue = s.queue := by cases s; rfl
@[simp] theorem State.countAbandoned_archive : (s.countAbandoned).archive = s.archive := by cases s; rfl
@[simp] theorem State.countAbandoned_tie : (s.countAbandoned).tie = s.tie := by cases s; rfl
@[simp] theorem State.countAbandoned_msg : (s.countAbandoned).msg = s.msg := by cases s; rfl
@[simp] theorem State.countAbandoned_notices : (s.countAbandoned).notices = { s.notices with abandoned := bump s.notices.abandoned } := by cases s; rfl
@[simp] theorem State.countAbandoned_draws : (s.countAbandoned).draws = s.draws := by cases s; rfl
@[simp] theorem State.countAbandoned_stopped : (s.countAbandoned).stopped = s.stopped := by simp [State.stopped]

/-! `State.countSyncFault` -/

@[simp] theorem State.countSyncFault_pending : (s.countSyncFault).pending = s.pending := by cases s; rfl
@[simp] theorem State.countSyncFault_resetLine : (s.countSyncFault).resetLine = s.resetLine := by cases s; rfl
@[simp] theorem State.countSyncFault_unpowered : (s.countSyncFault).unpowered = s.unpowered := by cases s; rfl
@[simp] theorem State.countSyncFault_warning : (s.countSyncFault).warning = s.warning := by cases s; rfl
@[simp] theorem State.countSyncFault_op : (s.countSyncFault).op = s.op := by cases s; rfl
@[simp] theorem State.countSyncFault_path : (s.countSyncFault).path = s.path := by cases s; rfl
@[simp] theorem State.countSyncFault_nv : (s.countSyncFault).nv = s.nv := by cases s; rfl
@[simp] theorem State.countSyncFault_settings : (s.countSyncFault).settings = s.settings := by cases s; rfl
@[simp] theorem State.countSyncFault_store : (s.countSyncFault).store = s.store := by cases s; rfl
@[simp] theorem State.countSyncFault_lanes : (s.countSyncFault).lanes = s.lanes := by cases s; rfl
@[simp] theorem State.countSyncFault_channels : (s.countSyncFault).channels = s.channels := by cases s; rfl
@[simp] theorem State.countSyncFault_trackers : (s.countSyncFault).trackers = s.trackers := by cases s; rfl
@[simp] theorem State.countSyncFault_timebases : (s.countSyncFault).timebases = s.timebases := by cases s; rfl
@[simp] theorem State.countSyncFault_sampleIndex : (s.countSyncFault).sampleIndex = s.sampleIndex := by cases s; rfl
@[simp] theorem State.countSyncFault_selector : (s.countSyncFault).selector = s.selector := by cases s; rfl
@[simp] theorem State.countSyncFault_accounts : (s.countSyncFault).accounts = s.accounts := by cases s; rfl
@[simp] theorem State.countSyncFault_clock : (s.countSyncFault).clock = s.clock := by cases s; rfl
@[simp] theorem State.countSyncFault_queue : (s.countSyncFault).queue = s.queue := by cases s; rfl
@[simp] theorem State.countSyncFault_archive : (s.countSyncFault).archive = s.archive := by cases s; rfl
@[simp] theorem State.countSyncFault_tie : (s.countSyncFault).tie = s.tie := by cases s; rfl
@[simp] theorem State.countSyncFault_msg : (s.countSyncFault).msg = s.msg := by cases s; rfl
@[simp] theorem State.countSyncFault_notices : (s.countSyncFault).notices = { s.notices with syncFaults := bump s.notices.syncFaults } := by cases s; rfl
@[simp] theorem State.countSyncFault_draws : (s.countSyncFault).draws = s.draws := by cases s; rfl
@[simp] theorem State.countSyncFault_stopped : (s.countSyncFault).stopped = s.stopped := by simp [State.stopped]

/-! `State.countDroppedTopology` -/

@[simp] theorem State.countDroppedTopology_pending : (s.countDroppedTopology).pending = s.pending := by cases s; rfl
@[simp] theorem State.countDroppedTopology_resetLine : (s.countDroppedTopology).resetLine = s.resetLine := by cases s; rfl
@[simp] theorem State.countDroppedTopology_unpowered : (s.countDroppedTopology).unpowered = s.unpowered := by cases s; rfl
@[simp] theorem State.countDroppedTopology_warning : (s.countDroppedTopology).warning = s.warning := by cases s; rfl
@[simp] theorem State.countDroppedTopology_op : (s.countDroppedTopology).op = s.op := by cases s; rfl
@[simp] theorem State.countDroppedTopology_path : (s.countDroppedTopology).path = s.path := by cases s; rfl
@[simp] theorem State.countDroppedTopology_nv : (s.countDroppedTopology).nv = s.nv := by cases s; rfl
@[simp] theorem State.countDroppedTopology_settings : (s.countDroppedTopology).settings = s.settings := by cases s; rfl
@[simp] theorem State.countDroppedTopology_store : (s.countDroppedTopology).store = s.store := by cases s; rfl
@[simp] theorem State.countDroppedTopology_lanes : (s.countDroppedTopology).lanes = s.lanes := by cases s; rfl
@[simp] theorem State.countDroppedTopology_channels : (s.countDroppedTopology).channels = s.channels := by cases s; rfl
@[simp] theorem State.countDroppedTopology_trackers : (s.countDroppedTopology).trackers = s.trackers := by cases s; rfl
@[simp] theorem State.countDroppedTopology_timebases : (s.countDroppedTopology).timebases = s.timebases := by cases s; rfl
@[simp] theorem State.countDroppedTopology_sampleIndex : (s.countDroppedTopology).sampleIndex = s.sampleIndex := by cases s; rfl
@[simp] theorem State.countDroppedTopology_selector : (s.countDroppedTopology).selector = s.selector := by cases s; rfl
@[simp] theorem State.countDroppedTopology_accounts : (s.countDroppedTopology).accounts = s.accounts := by cases s; rfl
@[simp] theorem State.countDroppedTopology_clock : (s.countDroppedTopology).clock = s.clock := by cases s; rfl
@[simp] theorem State.countDroppedTopology_queue : (s.countDroppedTopology).queue = s.queue := by cases s; rfl
@[simp] theorem State.countDroppedTopology_archive : (s.countDroppedTopology).archive = s.archive := by cases s; rfl
@[simp] theorem State.countDroppedTopology_tie : (s.countDroppedTopology).tie = s.tie := by cases s; rfl
@[simp] theorem State.countDroppedTopology_msg : (s.countDroppedTopology).msg = s.msg := by cases s; rfl
@[simp] theorem State.countDroppedTopology_notices : (s.countDroppedTopology).notices = { s.notices with droppedTopology := bump s.notices.droppedTopology } := by cases s; rfl
@[simp] theorem State.countDroppedTopology_draws : (s.countDroppedTopology).draws = s.draws := by cases s; rfl
@[simp] theorem State.countDroppedTopology_stopped : (s.countDroppedTopology).stopped = s.stopped := by simp [State.stopped]

/-! `State.testPeers` -/

@[simp] theorem State.testPeers_pending : (s.testPeers).pending = s.pending := by simp [State.testPeers]
@[simp] theorem State.testPeers_resetLine : (s.testPeers).resetLine = s.resetLine := by simp [State.testPeers]
@[simp] theorem State.testPeers_unpowered : (s.testPeers).unpowered = s.unpowered := by simp [State.testPeers]
@[simp] theorem State.testPeers_warning : (s.testPeers).warning = s.warning := by simp [State.testPeers]
@[simp] theorem State.testPeers_op : (s.testPeers).op = s.op := by simp [State.testPeers]
@[simp] theorem State.testPeers_path : (s.testPeers).path = s.path := by simp [State.testPeers]
@[simp] theorem State.testPeers_nv : (s.testPeers).nv = s.nv := by simp [State.testPeers]
@[simp] theorem State.testPeers_settings : (s.testPeers).settings = s.settings := by simp [State.testPeers]
@[simp] theorem State.testPeers_store : (s.testPeers).store = s.store := by simp [State.testPeers]
@[simp] theorem State.testPeers_lanes : (s.testPeers).lanes = s.lanes := by simp [State.testPeers]
@[simp] theorem State.testPeers_channels : (s.testPeers).channels = s.channels := by simp [State.testPeers]
@[simp] theorem State.testPeers_trackers : (s.testPeers).trackers = s.trackers := by simp [State.testPeers]
@[simp] theorem State.testPeers_timebases : (s.testPeers).timebases = s.timebases := by simp [State.testPeers]
@[simp] theorem State.testPeers_sampleIndex : (s.testPeers).sampleIndex = s.sampleIndex := by simp [State.testPeers]
@[simp] theorem State.testPeers_selector : (s.testPeers).selector = s.selector := by simp [State.testPeers]
@[simp] theorem State.testPeers_clock : (s.testPeers).clock = s.clock := by simp [State.testPeers]
@[simp] theorem State.testPeers_queue : (s.testPeers).queue = s.queue := by simp [State.testPeers]
@[simp] theorem State.testPeers_archive : (s.testPeers).archive = s.archive := by simp [State.testPeers]
@[simp] theorem State.testPeers_tie : (s.testPeers).tie = s.tie := by simp [State.testPeers]
@[simp] theorem State.testPeers_msg : (s.testPeers).msg = s.msg := by simp [State.testPeers]
@[simp] theorem State.testPeers_notices : (s.testPeers).notices = s.notices := by simp [State.testPeers]
@[simp] theorem State.testPeers_draws : (s.testPeers).draws = s.draws := by simp [State.testPeers]
@[simp] theorem State.testPeers_stopped : (s.testPeers).stopped = s.stopped := by simp [State.stopped]

/-! `State.onTie` -/

@[simp] theorem State.onTie_pending (f : Tie → Tie) : (s.onTie f).pending = s.pending := by cases s; rfl
@[simp] theorem State.onTie_resetLine (f : Tie → Tie) : (s.onTie f).resetLine = s.resetLine := by cases s; rfl
@[simp] theorem State.onTie_unpowered (f : Tie → Tie) : (s.onTie f).unpowered = s.unpowered := by cases s; rfl
@[simp] theorem State.onTie_warning (f : Tie → Tie) : (s.onTie f).warning = s.warning := by cases s; rfl
@[simp] theorem State.onTie_op (f : Tie → Tie) : (s.onTie f).op = s.op := by cases s; rfl
@[simp] theorem State.onTie_path (f : Tie → Tie) : (s.onTie f).path = s.path := by cases s; rfl
@[simp] theorem State.onTie_nv (f : Tie → Tie) : (s.onTie f).nv = s.nv := by cases s; rfl
@[simp] theorem State.onTie_settings (f : Tie → Tie) : (s.onTie f).settings = s.settings := by cases s; rfl
@[simp] theorem State.onTie_store (f : Tie → Tie) : (s.onTie f).store = s.store := by cases s; rfl
@[simp] theorem State.onTie_lanes (f : Tie → Tie) : (s.onTie f).lanes = s.lanes := by cases s; rfl
@[simp] theorem State.onTie_channels (f : Tie → Tie) : (s.onTie f).channels = s.channels := by cases s; rfl
@[simp] theorem State.onTie_trackers (f : Tie → Tie) : (s.onTie f).trackers = s.trackers := by cases s; rfl
@[simp] theorem State.onTie_timebases (f : Tie → Tie) : (s.onTie f).timebases = s.timebases := by cases s; rfl
@[simp] theorem State.onTie_sampleIndex (f : Tie → Tie) : (s.onTie f).sampleIndex = s.sampleIndex := by cases s; rfl
@[simp] theorem State.onTie_selector (f : Tie → Tie) : (s.onTie f).selector = s.selector := by cases s; rfl
@[simp] theorem State.onTie_accounts (f : Tie → Tie) : (s.onTie f).accounts = s.accounts := by cases s; rfl
@[simp] theorem State.onTie_clock (f : Tie → Tie) : (s.onTie f).clock = s.clock := by cases s; rfl
@[simp] theorem State.onTie_queue (f : Tie → Tie) : (s.onTie f).queue = s.queue := by cases s; rfl
@[simp] theorem State.onTie_archive (f : Tie → Tie) : (s.onTie f).archive = s.archive := by cases s; rfl
@[simp] theorem State.onTie_tie (f : Tie → Tie) : (s.onTie f).tie = f s.tie := by cases s; rfl
@[simp] theorem State.onTie_msg (f : Tie → Tie) : (s.onTie f).msg = s.msg := by cases s; rfl
@[simp] theorem State.onTie_notices (f : Tie → Tie) : (s.onTie f).notices = s.notices := by cases s; rfl
@[simp] theorem State.onTie_draws (f : Tie → Tie) : (s.onTie f).draws = s.draws := by cases s; rfl
@[simp] theorem State.onTie_stopped (f : Tie → Tie) : (s.onTie f).stopped = s.stopped := by simp [State.stopped]

/-! `State.transmit` -/

@[simp] theorem State.transmit_pending : (s.transmit).pending = s.pending := by simp [State.transmit]
@[simp] theorem State.transmit_resetLine : (s.transmit).resetLine = s.resetLine := by simp [State.transmit]
@[simp] theorem State.transmit_unpowered : (s.transmit).unpowered = s.unpowered := by simp [State.transmit]
@[simp] theorem State.transmit_warning : (s.transmit).warning = s.warning := by simp [State.transmit]
@[simp] theorem State.transmit_op : (s.transmit).op = s.op := by simp [State.transmit]
@[simp] theorem State.transmit_path : (s.transmit).path = s.path := by simp [State.transmit]
@[simp] theorem State.transmit_nv : (s.transmit).nv = s.nv := by simp [State.transmit]
@[simp] theorem State.transmit_settings : (s.transmit).settings = s.settings := by simp [State.transmit]
@[simp] theorem State.transmit_store : (s.transmit).store = s.store := by simp [State.transmit]
@[simp] theorem State.transmit_lanes : (s.transmit).lanes = s.lanes := by simp [State.transmit]
@[simp] theorem State.transmit_channels : (s.transmit).channels = s.channels := by simp [State.transmit]
@[simp] theorem State.transmit_trackers : (s.transmit).trackers = s.trackers := by simp [State.transmit]
@[simp] theorem State.transmit_timebases : (s.transmit).timebases = s.timebases := by simp [State.transmit]
@[simp] theorem State.transmit_sampleIndex : (s.transmit).sampleIndex = s.sampleIndex := by simp [State.transmit]
@[simp] theorem State.transmit_selector : (s.transmit).selector = s.selector := by simp [State.transmit]
@[simp] theorem State.transmit_accounts : (s.transmit).accounts = s.accounts := by simp [State.transmit]
@[simp] theorem State.transmit_clock : (s.transmit).clock = s.clock := by simp [State.transmit]
@[simp] theorem State.transmit_queue : (s.transmit).queue = s.queue := by simp [State.transmit]
@[simp] theorem State.transmit_archive : (s.transmit).archive = s.archive := by simp [State.transmit]
@[simp] theorem State.transmit_tie : (s.transmit).tie = s.tie.transmit := by simp [State.transmit]
@[simp] theorem State.transmit_msg : (s.transmit).msg = s.msg := by simp [State.transmit]
@[simp] theorem State.transmit_notices : (s.transmit).notices = s.notices := by simp [State.transmit]
@[simp] theorem State.transmit_draws : (s.transmit).draws = s.draws := by simp [State.transmit]
@[simp] theorem State.transmit_stopped : (s.transmit).stopped = s.stopped := by simp [State.stopped]

/-! `State.notePair` -/

@[simp] theorem State.notePair_pending : (s.notePair).pending = s.pending := by simp [State.notePair]
@[simp] theorem State.notePair_resetLine : (s.notePair).resetLine = s.resetLine := by simp [State.notePair]
@[simp] theorem State.notePair_unpowered : (s.notePair).unpowered = s.unpowered := by simp [State.notePair]
@[simp] theorem State.notePair_warning : (s.notePair).warning = s.warning := by simp [State.notePair]
@[simp] theorem State.notePair_op : (s.notePair).op = s.op := by simp [State.notePair]
@[simp] theorem State.notePair_path : (s.notePair).path = s.path := by simp [State.notePair]
@[simp] theorem State.notePair_nv : (s.notePair).nv = s.nv := by simp [State.notePair]
@[simp] theorem State.notePair_settings : (s.notePair).settings = s.settings := by simp [State.notePair]
@[simp] theorem State.notePair_store : (s.notePair).store = s.store := by simp [State.notePair]
@[simp] theorem State.notePair_lanes : (s.notePair).lanes = s.lanes := by simp [State.notePair]
@[simp] theorem State.notePair_channels : (s.notePair).channels = s.channels := by simp [State.notePair]
@[simp] theorem State.notePair_trackers : (s.notePair).trackers = s.trackers := by simp [State.notePair]
@[simp] theorem State.notePair_timebases : (s.notePair).timebases = s.timebases := by simp [State.notePair]
@[simp] theorem State.notePair_sampleIndex : (s.notePair).sampleIndex = s.sampleIndex := by simp [State.notePair]
@[simp] theorem State.notePair_selector : (s.notePair).selector = s.selector := by simp [State.notePair]
@[simp] theorem State.notePair_accounts : (s.notePair).accounts = s.accounts := by simp [State.notePair]
@[simp] theorem State.notePair_clock : (s.notePair).clock = s.clock := by simp [State.notePair]
@[simp] theorem State.notePair_queue : (s.notePair).queue = s.queue := by simp [State.notePair]
@[simp] theorem State.notePair_archive : (s.notePair).archive = s.archive := by simp [State.notePair]
@[simp] theorem State.notePair_tie : (s.notePair).tie = { s.tie with lastPair := some (s.clock.index, s.clock.part) } := by simp [State.notePair]
@[simp] theorem State.notePair_msg : (s.notePair).msg = s.msg := by simp [State.notePair]
@[simp] theorem State.notePair_notices : (s.notePair).notices = s.notices := by simp [State.notePair]
@[simp] theorem State.notePair_draws : (s.notePair).draws = s.draws := by simp [State.notePair]
@[simp] theorem State.notePair_stopped : (s.notePair).stopped = s.stopped := by simp [State.stopped]

/-! `State.tieChanged` -/

@[simp] theorem State.tieChanged_pending : (s.tieChanged).pending = s.pending := by simp [State.tieChanged]
@[simp] theorem State.tieChanged_resetLine : (s.tieChanged).resetLine = s.resetLine := by simp [State.tieChanged]
@[simp] theorem State.tieChanged_unpowered : (s.tieChanged).unpowered = s.unpowered := by simp [State.tieChanged]
@[simp] theorem State.tieChanged_warning : (s.tieChanged).warning = s.warning := by simp [State.tieChanged]
@[simp] theorem State.tieChanged_op : (s.tieChanged).op = s.op := by simp [State.tieChanged]
@[simp] theorem State.tieChanged_path : (s.tieChanged).path = s.path := by simp [State.tieChanged]
@[simp] theorem State.tieChanged_nv : (s.tieChanged).nv = s.nv := by simp [State.tieChanged]
@[simp] theorem State.tieChanged_settings : (s.tieChanged).settings = s.settings := by simp [State.tieChanged]
@[simp] theorem State.tieChanged_store : (s.tieChanged).store = s.store := by simp [State.tieChanged]
@[simp] theorem State.tieChanged_lanes : (s.tieChanged).lanes = s.lanes := by simp [State.tieChanged]
@[simp] theorem State.tieChanged_channels : (s.tieChanged).channels = s.channels := by simp [State.tieChanged]
@[simp] theorem State.tieChanged_trackers : (s.tieChanged).trackers = s.trackers := by simp [State.tieChanged]
@[simp] theorem State.tieChanged_timebases : (s.tieChanged).timebases = s.timebases := by simp [State.tieChanged]
@[simp] theorem State.tieChanged_sampleIndex : (s.tieChanged).sampleIndex = s.sampleIndex := by simp [State.tieChanged]
@[simp] theorem State.tieChanged_selector : (s.tieChanged).selector = s.selector := by simp [State.tieChanged]
@[simp] theorem State.tieChanged_clock : (s.tieChanged).clock = s.clock := by simp [State.tieChanged]
@[simp] theorem State.tieChanged_queue : (s.tieChanged).queue = s.queue := by simp [State.tieChanged]
@[simp] theorem State.tieChanged_archive : (s.tieChanged).archive = s.archive := by simp [State.tieChanged]
@[simp] theorem State.tieChanged_tie : (s.tieChanged).tie = s.tie := by simp [State.tieChanged]
@[simp] theorem State.tieChanged_msg : (s.tieChanged).msg = s.msg := by simp [State.tieChanged]
@[simp] theorem State.tieChanged_draws : (s.tieChanged).draws = s.draws := by simp [State.tieChanged]
@[simp] theorem State.tieChanged_stopped : (s.tieChanged).stopped = s.stopped := by simp [State.stopped]

/-! `State.enterTie` -/

@[simp] theorem State.enterTie_pending (x : TieState) : (s.enterTie x).pending = s.pending := by simp [State.enterTie]
@[simp] theorem State.enterTie_resetLine (x : TieState) : (s.enterTie x).resetLine = s.resetLine := by simp [State.enterTie]
@[simp] theorem State.enterTie_unpowered (x : TieState) : (s.enterTie x).unpowered = s.unpowered := by simp [State.enterTie]
@[simp] theorem State.enterTie_warning (x : TieState) : (s.enterTie x).warning = s.warning := by simp [State.enterTie]
@[simp] theorem State.enterTie_op (x : TieState) : (s.enterTie x).op = s.op := by simp [State.enterTie]
@[simp] theorem State.enterTie_path (x : TieState) : (s.enterTie x).path = s.path := by simp [State.enterTie]
@[simp] theorem State.enterTie_nv (x : TieState) : (s.enterTie x).nv = s.nv := by simp [State.enterTie]
@[simp] theorem State.enterTie_settings (x : TieState) : (s.enterTie x).settings = s.settings := by simp [State.enterTie]
@[simp] theorem State.enterTie_store (x : TieState) : (s.enterTie x).store = s.store := by simp [State.enterTie]
@[simp] theorem State.enterTie_lanes (x : TieState) : (s.enterTie x).lanes = s.lanes := by simp [State.enterTie]
@[simp] theorem State.enterTie_channels (x : TieState) : (s.enterTie x).channels = s.channels := by simp [State.enterTie]
@[simp] theorem State.enterTie_trackers (x : TieState) : (s.enterTie x).trackers = s.trackers := by simp [State.enterTie]
@[simp] theorem State.enterTie_timebases (x : TieState) : (s.enterTie x).timebases = s.timebases := by simp [State.enterTie]
@[simp] theorem State.enterTie_sampleIndex (x : TieState) : (s.enterTie x).sampleIndex = s.sampleIndex := by simp [State.enterTie]
@[simp] theorem State.enterTie_selector (x : TieState) : (s.enterTie x).selector = s.selector := by simp [State.enterTie]
@[simp] theorem State.enterTie_clock (x : TieState) : (s.enterTie x).clock = s.clock := by simp [State.enterTie]
@[simp] theorem State.enterTie_queue (x : TieState) : (s.enterTie x).queue = s.queue := by simp [State.enterTie]
@[simp] theorem State.enterTie_archive (x : TieState) : (s.enterTie x).archive = s.archive := by simp [State.enterTie]
@[simp] theorem State.enterTie_tie (x : TieState) : (s.enterTie x).tie = { s.tie with state := x } := by simp [State.enterTie]
@[simp] theorem State.enterTie_msg (x : TieState) : (s.enterTie x).msg = s.msg := by simp [State.enterTie]
@[simp] theorem State.enterTie_draws (x : TieState) : (s.enterTie x).draws = s.draws := by simp [State.enterTie]
@[simp] theorem State.enterTie_stopped (x : TieState) : (s.enterTie x).stopped = s.stopped := by simp [State.stopped]

/-! `State.enterDown` -/

@[simp] theorem State.enterDown_pending : (s.enterDown).pending = s.pending := by simp [State.enterDown]
@[simp] theorem State.enterDown_resetLine : (s.enterDown).resetLine = s.resetLine := by simp [State.enterDown]
@[simp] theorem State.enterDown_unpowered : (s.enterDown).unpowered = s.unpowered := by simp [State.enterDown]
@[simp] theorem State.enterDown_warning : (s.enterDown).warning = s.warning := by simp [State.enterDown]
@[simp] theorem State.enterDown_op : (s.enterDown).op = s.op := by simp [State.enterDown]
@[simp] theorem State.enterDown_path : (s.enterDown).path = s.path := by simp [State.enterDown]
@[simp] theorem State.enterDown_nv : (s.enterDown).nv = s.nv := by simp [State.enterDown]
@[simp] theorem State.enterDown_settings : (s.enterDown).settings = s.settings := by simp [State.enterDown]
@[simp] theorem State.enterDown_store : (s.enterDown).store = s.store := by simp [State.enterDown]
@[simp] theorem State.enterDown_lanes : (s.enterDown).lanes = s.lanes := by simp [State.enterDown]
@[simp] theorem State.enterDown_channels : (s.enterDown).channels = s.channels := by simp [State.enterDown]
@[simp] theorem State.enterDown_trackers : (s.enterDown).trackers = s.trackers := by simp [State.enterDown]
@[simp] theorem State.enterDown_timebases : (s.enterDown).timebases = s.timebases := by simp [State.enterDown]
@[simp] theorem State.enterDown_sampleIndex : (s.enterDown).sampleIndex = s.sampleIndex := by simp [State.enterDown]
@[simp] theorem State.enterDown_selector : (s.enterDown).selector = s.selector := by simp [State.enterDown]
@[simp] theorem State.enterDown_clock : (s.enterDown).clock = s.clock := by simp [State.enterDown]
@[simp] theorem State.enterDown_queue : (s.enterDown).queue = s.queue := by simp [State.enterDown]
@[simp] theorem State.enterDown_archive : (s.enterDown).archive = s.archive := by simp [State.enterDown]
@[simp] theorem State.enterDown_tie : (s.enterDown).tie = s.tie.abandon .down := by simp [State.enterDown]
@[simp] theorem State.enterDown_msg : (s.enterDown).msg = s.msg := by simp [State.enterDown]
@[simp] theorem State.enterDown_draws : (s.enterDown).draws = s.draws := by simp [State.enterDown]
@[simp] theorem State.enterDown_stopped : (s.enterDown).stopped = s.stopped := by simp [State.stopped]

/-! `State.enterOff` -/

@[simp] theorem State.enterOff_pending : (s.enterOff).pending = s.pending := by simp [State.enterOff]
@[simp] theorem State.enterOff_resetLine : (s.enterOff).resetLine = s.resetLine := by simp [State.enterOff]
@[simp] theorem State.enterOff_unpowered : (s.enterOff).unpowered = s.unpowered := by simp [State.enterOff]
@[simp] theorem State.enterOff_warning : (s.enterOff).warning = s.warning := by simp [State.enterOff]
@[simp] theorem State.enterOff_op : (s.enterOff).op = s.op := by simp [State.enterOff]
@[simp] theorem State.enterOff_path : (s.enterOff).path = s.path := by simp [State.enterOff]
@[simp] theorem State.enterOff_nv : (s.enterOff).nv = s.nv := by simp [State.enterOff]
@[simp] theorem State.enterOff_settings : (s.enterOff).settings = s.settings := by simp [State.enterOff]
@[simp] theorem State.enterOff_store : (s.enterOff).store = s.store := by simp [State.enterOff]
@[simp] theorem State.enterOff_lanes : (s.enterOff).lanes = s.lanes := by simp [State.enterOff]
@[simp] theorem State.enterOff_channels : (s.enterOff).channels = s.channels := by simp [State.enterOff]
@[simp] theorem State.enterOff_trackers : (s.enterOff).trackers = s.trackers := by simp [State.enterOff]
@[simp] theorem State.enterOff_timebases : (s.enterOff).timebases = s.timebases := by simp [State.enterOff]
@[simp] theorem State.enterOff_sampleIndex : (s.enterOff).sampleIndex = s.sampleIndex := by simp [State.enterOff]
@[simp] theorem State.enterOff_selector : (s.enterOff).selector = s.selector := by simp [State.enterOff]
@[simp] theorem State.enterOff_clock : (s.enterOff).clock = s.clock := by simp [State.enterOff]
@[simp] theorem State.enterOff_queue : (s.enterOff).queue = s.queue := by simp [State.enterOff]
@[simp] theorem State.enterOff_archive : (s.enterOff).archive = s.archive := by simp [State.enterOff]
@[simp] theorem State.enterOff_tie : (s.enterOff).tie = s.tie.abandon .off := by simp [State.enterOff]
@[simp] theorem State.enterOff_msg : (s.enterOff).msg = s.msg := by simp [State.enterOff]
@[simp] theorem State.enterOff_draws : (s.enterOff).draws = s.draws := by simp [State.enterOff]
@[simp] theorem State.enterOff_stopped : (s.enterOff).stopped = s.stopped := by simp [State.stopped]

/-! `State.beginAttempt` -/

@[simp] theorem State.beginAttempt_pending (n : Nat) : (s.beginAttempt n).pending = s.pending := by cases s; rfl
@[simp] theorem State.beginAttempt_resetLine (n : Nat) : (s.beginAttempt n).resetLine = s.resetLine := by cases s; rfl
@[simp] theorem State.beginAttempt_unpowered (n : Nat) : (s.beginAttempt n).unpowered = s.unpowered := by cases s; rfl
@[simp] theorem State.beginAttempt_warning (n : Nat) : (s.beginAttempt n).warning = s.warning := by cases s; rfl
@[simp] theorem State.beginAttempt_op (n : Nat) : (s.beginAttempt n).op = s.op := by cases s; rfl
@[simp] theorem State.beginAttempt_path (n : Nat) : (s.beginAttempt n).path = s.path := by cases s; rfl
@[simp] theorem State.beginAttempt_nv (n : Nat) : (s.beginAttempt n).nv = s.nv := by cases s; rfl
@[simp] theorem State.beginAttempt_settings (n : Nat) : (s.beginAttempt n).settings = s.settings := by cases s; rfl
@[simp] theorem State.beginAttempt_store (n : Nat) : (s.beginAttempt n).store = s.store := by cases s; rfl
@[simp] theorem State.beginAttempt_lanes (n : Nat) : (s.beginAttempt n).lanes = s.lanes := by cases s; rfl
@[simp] theorem State.beginAttempt_channels (n : Nat) : (s.beginAttempt n).channels = s.channels := by cases s; rfl
@[simp] theorem State.beginAttempt_trackers (n : Nat) : (s.beginAttempt n).trackers = s.trackers := by cases s; rfl
@[simp] theorem State.beginAttempt_timebases (n : Nat) : (s.beginAttempt n).timebases = s.timebases := by cases s; rfl
@[simp] theorem State.beginAttempt_sampleIndex (n : Nat) : (s.beginAttempt n).sampleIndex = s.sampleIndex := by cases s; rfl
@[simp] theorem State.beginAttempt_selector (n : Nat) : (s.beginAttempt n).selector = s.selector := by cases s; rfl
@[simp] theorem State.beginAttempt_accounts (n : Nat) : (s.beginAttempt n).accounts = s.accounts := by cases s; rfl
@[simp] theorem State.beginAttempt_clock (n : Nat) : (s.beginAttempt n).clock = s.clock := by cases s; rfl
@[simp] theorem State.beginAttempt_queue (n : Nat) : (s.beginAttempt n).queue = s.queue := by cases s; rfl
@[simp] theorem State.beginAttempt_archive (n : Nat) : (s.beginAttempt n).archive = s.archive := by cases s; rfl
@[simp] theorem State.beginAttempt_tie (n : Nat) : (s.beginAttempt n).tie = s.tie.beginAttempt n s.nextSeed s.settings.preference := by cases s; rfl
@[simp] theorem State.beginAttempt_msg (n : Nat) : (s.beginAttempt n).msg = s.msg := by cases s; rfl
@[simp] theorem State.beginAttempt_notices (n : Nat) : (s.beginAttempt n).notices = s.notices := by cases s; rfl
@[simp] theorem State.beginAttempt_draws (n : Nat) : (s.beginAttempt n).draws = s.draws + 1 := by cases s; rfl
@[simp] theorem State.beginAttempt_stopped (n : Nat) : (s.beginAttempt n).stopped = s.stopped := by simp [State.stopped]

/-! `State.onArchive` -/

@[simp] theorem State.onArchive_pending (f : Archive → Archive) : (s.onArchive f).pending = s.pending := by cases s; rfl
@[simp] theorem State.onArchive_resetLine (f : Archive → Archive) : (s.onArchive f).resetLine = s.resetLine := by cases s; rfl
@[simp] theorem State.onArchive_unpowered (f : Archive → Archive) : (s.onArchive f).unpowered = s.unpowered := by cases s; rfl
@[simp] theorem State.onArchive_warning (f : Archive → Archive) : (s.onArchive f).warning = s.warning := by cases s; rfl
@[simp] theorem State.onArchive_op (f : Archive → Archive) : (s.onArchive f).op = s.op := by cases s; rfl
@[simp] theorem State.onArchive_path (f : Archive → Archive) : (s.onArchive f).path = s.path := by cases s; rfl
@[simp] theorem State.onArchive_nv (f : Archive → Archive) : (s.onArchive f).nv = s.nv := by cases s; rfl
@[simp] theorem State.onArchive_settings (f : Archive → Archive) : (s.onArchive f).settings = s.settings := by cases s; rfl
@[simp] theorem State.onArchive_store (f : Archive → Archive) : (s.onArchive f).store = s.store := by cases s; rfl
@[simp] theorem State.onArchive_lanes (f : Archive → Archive) : (s.onArchive f).lanes = s.lanes := by cases s; rfl
@[simp] theorem State.onArchive_channels (f : Archive → Archive) : (s.onArchive f).channels = s.channels := by cases s; rfl
@[simp] theorem State.onArchive_trackers (f : Archive → Archive) : (s.onArchive f).trackers = s.trackers := by cases s; rfl
@[simp] theorem State.onArchive_timebases (f : Archive → Archive) : (s.onArchive f).timebases = s.timebases := by cases s; rfl
@[simp] theorem State.onArchive_sampleIndex (f : Archive → Archive) : (s.onArchive f).sampleIndex = s.sampleIndex := by cases s; rfl
@[simp] theorem State.onArchive_selector (f : Archive → Archive) : (s.onArchive f).selector = s.selector := by cases s; rfl
@[simp] theorem State.onArchive_accounts (f : Archive → Archive) : (s.onArchive f).accounts = s.accounts := by cases s; rfl
@[simp] theorem State.onArchive_clock (f : Archive → Archive) : (s.onArchive f).clock = s.clock := by cases s; rfl
@[simp] theorem State.onArchive_queue (f : Archive → Archive) : (s.onArchive f).queue = s.queue := by cases s; rfl
@[simp] theorem State.onArchive_archive (f : Archive → Archive) : (s.onArchive f).archive = f s.archive := by cases s; rfl
@[simp] theorem State.onArchive_tie (f : Archive → Archive) : (s.onArchive f).tie = s.tie := by cases s; rfl
@[simp] theorem State.onArchive_msg (f : Archive → Archive) : (s.onArchive f).msg = s.msg := by cases s; rfl
@[simp] theorem State.onArchive_notices (f : Archive → Archive) : (s.onArchive f).notices = s.notices := by cases s; rfl
@[simp] theorem State.onArchive_draws (f : Archive → Archive) : (s.onArchive f).draws = s.draws := by cases s; rfl
@[simp] theorem State.onArchive_stopped (f : Archive → Archive) : (s.onArchive f).stopped = s.stopped := by simp [State.stopped]

/-! `State.putSeg` -/

@[simp] theorem State.putSeg_pending (g : Fin 256) (x : Segment) : (s.putSeg g x).pending = s.pending := by cases s; rfl
@[simp] theorem State.putSeg_resetLine (g : Fin 256) (x : Segment) : (s.putSeg g x).resetLine = s.resetLine := by cases s; rfl
@[simp] theorem State.putSeg_unpowered (g : Fin 256) (x : Segment) : (s.putSeg g x).unpowered = s.unpowered := by cases s; rfl
@[simp] theorem State.putSeg_warning (g : Fin 256) (x : Segment) : (s.putSeg g x).warning = s.warning := by cases s; rfl
@[simp] theorem State.putSeg_op (g : Fin 256) (x : Segment) : (s.putSeg g x).op = s.op := by cases s; rfl
@[simp] theorem State.putSeg_path (g : Fin 256) (x : Segment) : (s.putSeg g x).path = s.path := by cases s; rfl
@[simp] theorem State.putSeg_nv (g : Fin 256) (x : Segment) : (s.putSeg g x).nv = { s.nv with segments := s.nv.segments.put g x } := by cases s; rfl
@[simp] theorem State.putSeg_settings (g : Fin 256) (x : Segment) : (s.putSeg g x).settings = s.settings := by cases s; rfl
@[simp] theorem State.putSeg_store (g : Fin 256) (x : Segment) : (s.putSeg g x).store = s.store := by cases s; rfl
@[simp] theorem State.putSeg_lanes (g : Fin 256) (x : Segment) : (s.putSeg g x).lanes = s.lanes := by cases s; rfl
@[simp] theorem State.putSeg_channels (g : Fin 256) (x : Segment) : (s.putSeg g x).channels = s.channels := by cases s; rfl
@[simp] theorem State.putSeg_trackers (g : Fin 256) (x : Segment) : (s.putSeg g x).trackers = s.trackers := by cases s; rfl
@[simp] theorem State.putSeg_timebases (g : Fin 256) (x : Segment) : (s.putSeg g x).timebases = s.timebases := by cases s; rfl
@[simp] theorem State.putSeg_sampleIndex (g : Fin 256) (x : Segment) : (s.putSeg g x).sampleIndex = s.sampleIndex := by cases s; rfl
@[simp] theorem State.putSeg_selector (g : Fin 256) (x : Segment) : (s.putSeg g x).selector = s.selector := by cases s; rfl
@[simp] theorem State.putSeg_accounts (g : Fin 256) (x : Segment) : (s.putSeg g x).accounts = s.accounts := by cases s; rfl
@[simp] theorem State.putSeg_clock (g : Fin 256) (x : Segment) : (s.putSeg g x).clock = s.clock := by cases s; rfl
@[simp] theorem State.putSeg_queue (g : Fin 256) (x : Segment) : (s.putSeg g x).queue = s.queue := by cases s; rfl
@[simp] theorem State.putSeg_archive (g : Fin 256) (x : Segment) : (s.putSeg g x).archive = s.archive := by cases s; rfl
@[simp] theorem State.putSeg_tie (g : Fin 256) (x : Segment) : (s.putSeg g x).tie = s.tie := by cases s; rfl
@[simp] theorem State.putSeg_msg (g : Fin 256) (x : Segment) : (s.putSeg g x).msg = s.msg := by cases s; rfl
@[simp] theorem State.putSeg_notices (g : Fin 256) (x : Segment) : (s.putSeg g x).notices = s.notices := by cases s; rfl
@[simp] theorem State.putSeg_draws (g : Fin 256) (x : Segment) : (s.putSeg g x).draws = s.draws := by cases s; rfl
@[simp] theorem State.putSeg_stopped (g : Fin 256) (x : Segment) : (s.putSeg g x).stopped = s.stopped := by simp [State.stopped]

/-! `State.mark` -/

@[simp] theorem State.mark_pending (g : Fin 256) (m : Marker) : (s.mark g m).pending = s.pending := by simp [State.mark]
@[simp] theorem State.mark_resetLine (g : Fin 256) (m : Marker) : (s.mark g m).resetLine = s.resetLine := by simp [State.mark]
@[simp] theorem State.mark_unpowered (g : Fin 256) (m : Marker) : (s.mark g m).unpowered = s.unpowered := by simp [State.mark]
@[simp] theorem State.mark_warning (g : Fin 256) (m : Marker) : (s.mark g m).warning = s.warning := by simp [State.mark]
@[simp] theorem State.mark_op (g : Fin 256) (m : Marker) : (s.mark g m).op = s.op := by simp [State.mark]
@[simp] theorem State.mark_path (g : Fin 256) (m : Marker) : (s.mark g m).path = s.path := by simp [State.mark]
@[simp] theorem State.mark_nv (g : Fin 256) (m : Marker) : (s.mark g m).nv = { s.nv with segments := s.nv.segments.put g { s.nv.segments.get g with marker := m } } := by cases s; rfl
@[simp] theorem State.mark_settings (g : Fin 256) (m : Marker) : (s.mark g m).settings = s.settings := by simp [State.mark]
@[simp] theorem State.mark_store (g : Fin 256) (m : Marker) : (s.mark g m).store = s.store := by simp [State.mark]
@[simp] theorem State.mark_lanes (g : Fin 256) (m : Marker) : (s.mark g m).lanes = s.lanes := by simp [State.mark]
@[simp] theorem State.mark_channels (g : Fin 256) (m : Marker) : (s.mark g m).channels = s.channels := by simp [State.mark]
@[simp] theorem State.mark_trackers (g : Fin 256) (m : Marker) : (s.mark g m).trackers = s.trackers := by simp [State.mark]
@[simp] theorem State.mark_timebases (g : Fin 256) (m : Marker) : (s.mark g m).timebases = s.timebases := by simp [State.mark]
@[simp] theorem State.mark_sampleIndex (g : Fin 256) (m : Marker) : (s.mark g m).sampleIndex = s.sampleIndex := by simp [State.mark]
@[simp] theorem State.mark_selector (g : Fin 256) (m : Marker) : (s.mark g m).selector = s.selector := by simp [State.mark]
@[simp] theorem State.mark_accounts (g : Fin 256) (m : Marker) : (s.mark g m).accounts = s.accounts := by simp [State.mark]
@[simp] theorem State.mark_clock (g : Fin 256) (m : Marker) : (s.mark g m).clock = s.clock := by simp [State.mark]
@[simp] theorem State.mark_queue (g : Fin 256) (m : Marker) : (s.mark g m).queue = s.queue := by simp [State.mark]
@[simp] theorem State.mark_archive (g : Fin 256) (m : Marker) : (s.mark g m).archive = s.archive := by simp [State.mark]
@[simp] theorem State.mark_tie (g : Fin 256) (m : Marker) : (s.mark g m).tie = s.tie := by simp [State.mark]
@[simp] theorem State.mark_msg (g : Fin 256) (m : Marker) : (s.mark g m).msg = s.msg := by simp [State.mark]
@[simp] theorem State.mark_notices (g : Fin 256) (m : Marker) : (s.mark g m).notices = s.notices := by simp [State.mark]
@[simp] theorem State.mark_draws (g : Fin 256) (m : Marker) : (s.mark g m).draws = s.draws := by simp [State.mark]
@[simp] theorem State.mark_stopped (g : Fin 256) (m : Marker) : (s.mark g m).stopped = s.stopped := by simp [State.stopped]

/-! `State.retire` -/

@[simp] theorem State.retire_pending (g : Fin 256) : (s.retire g).pending = s.pending := by simp [State.retire]
@[simp] theorem State.retire_resetLine (g : Fin 256) : (s.retire g).resetLine = s.resetLine := by simp [State.retire]
@[simp] theorem State.retire_unpowered (g : Fin 256) : (s.retire g).unpowered = s.unpowered := by simp [State.retire]
@[simp] theorem State.retire_warning (g : Fin 256) : (s.retire g).warning = s.warning := by simp [State.retire]
@[simp] theorem State.retire_op (g : Fin 256) : (s.retire g).op = s.op := by simp [State.retire]
@[simp] theorem State.retire_path (g : Fin 256) : (s.retire g).path = s.path := by simp [State.retire]
@[simp] theorem State.retire_nv (g : Fin 256) : (s.retire g).nv = { s.nv with segments := s.nv.segments.put g ⟨.retired, 0, []⟩ } := by simp [State.retire]
@[simp] theorem State.retire_settings (g : Fin 256) : (s.retire g).settings = s.settings := by simp [State.retire]
@[simp] theorem State.retire_store (g : Fin 256) : (s.retire g).store = s.store := by simp [State.retire]
@[simp] theorem State.retire_lanes (g : Fin 256) : (s.retire g).lanes = s.lanes := by simp [State.retire]
@[simp] theorem State.retire_channels (g : Fin 256) : (s.retire g).channels = s.channels := by simp [State.retire]
@[simp] theorem State.retire_trackers (g : Fin 256) : (s.retire g).trackers = s.trackers := by simp [State.retire]
@[simp] theorem State.retire_timebases (g : Fin 256) : (s.retire g).timebases = s.timebases := by simp [State.retire]
@[simp] theorem State.retire_sampleIndex (g : Fin 256) : (s.retire g).sampleIndex = s.sampleIndex := by simp [State.retire]
@[simp] theorem State.retire_selector (g : Fin 256) : (s.retire g).selector = s.selector := by simp [State.retire]
@[simp] theorem State.retire_accounts (g : Fin 256) : (s.retire g).accounts = s.accounts := by simp [State.retire]
@[simp] theorem State.retire_clock (g : Fin 256) : (s.retire g).clock = s.clock := by simp [State.retire]
@[simp] theorem State.retire_queue (g : Fin 256) : (s.retire g).queue = s.queue := by simp [State.retire]
@[simp] theorem State.retire_archive (g : Fin 256) : (s.retire g).archive = s.archive := by simp [State.retire]
@[simp] theorem State.retire_tie (g : Fin 256) : (s.retire g).tie = s.tie := by simp [State.retire]
@[simp] theorem State.retire_msg (g : Fin 256) : (s.retire g).msg = s.msg := by simp [State.retire]
@[simp] theorem State.retire_notices (g : Fin 256) : (s.retire g).notices = s.notices := by simp [State.retire]
@[simp] theorem State.retire_draws (g : Fin 256) : (s.retire g).draws = s.draws := by simp [State.retire]
@[simp] theorem State.retire_stopped (g : Fin 256) : (s.retire g).stopped = s.stopped := by simp [State.stopped]

/-! `State.program` -/

@[simp] theorem State.program_pending (h : Fin 256) (bs : List Byte) : (s.program h bs).pending = s.pending := by simp [State.program]
@[simp] theorem State.program_resetLine (h : Fin 256) (bs : List Byte) : (s.program h bs).resetLine = s.resetLine := by simp [State.program]
@[simp] theorem State.program_unpowered (h : Fin 256) (bs : List Byte) : (s.program h bs).unpowered = s.unpowered := by simp [State.program]
@[simp] theorem State.program_warning (h : Fin 256) (bs : List Byte) : (s.program h bs).warning = s.warning := by simp [State.program]
@[simp] theorem State.program_op (h : Fin 256) (bs : List Byte) : (s.program h bs).op = s.op := by simp [State.program]
@[simp] theorem State.program_path (h : Fin 256) (bs : List Byte) : (s.program h bs).path = s.path := by simp [State.program]
@[simp] theorem State.program_settings (h : Fin 256) (bs : List Byte) : (s.program h bs).settings = s.settings := by simp [State.program]
@[simp] theorem State.program_store (h : Fin 256) (bs : List Byte) : (s.program h bs).store = s.store := by simp [State.program]
@[simp] theorem State.program_lanes (h : Fin 256) (bs : List Byte) : (s.program h bs).lanes = s.lanes := by simp [State.program]
@[simp] theorem State.program_channels (h : Fin 256) (bs : List Byte) : (s.program h bs).channels = s.channels := by simp [State.program]
@[simp] theorem State.program_trackers (h : Fin 256) (bs : List Byte) : (s.program h bs).trackers = s.trackers := by simp [State.program]
@[simp] theorem State.program_timebases (h : Fin 256) (bs : List Byte) : (s.program h bs).timebases = s.timebases := by simp [State.program]
@[simp] theorem State.program_sampleIndex (h : Fin 256) (bs : List Byte) : (s.program h bs).sampleIndex = s.sampleIndex := by simp [State.program]
@[simp] theorem State.program_selector (h : Fin 256) (bs : List Byte) : (s.program h bs).selector = s.selector := by simp [State.program]
@[simp] theorem State.program_accounts (h : Fin 256) (bs : List Byte) : (s.program h bs).accounts = s.accounts := by simp [State.program]
@[simp] theorem State.program_clock (h : Fin 256) (bs : List Byte) : (s.program h bs).clock = s.clock := by simp [State.program]
@[simp] theorem State.program_queue (h : Fin 256) (bs : List Byte) : (s.program h bs).queue = s.queue := by simp [State.program]
@[simp] theorem State.program_archive (h : Fin 256) (bs : List Byte) : (s.program h bs).archive = s.archive := by simp [State.program]
@[simp] theorem State.program_tie (h : Fin 256) (bs : List Byte) : (s.program h bs).tie = s.tie := by simp [State.program]
@[simp] theorem State.program_msg (h : Fin 256) (bs : List Byte) : (s.program h bs).msg = s.msg := by simp [State.program]
@[simp] theorem State.program_notices (h : Fin 256) (bs : List Byte) : (s.program h bs).notices = s.notices := by simp [State.program]
@[simp] theorem State.program_draws (h : Fin 256) (bs : List Byte) : (s.program h bs).draws = s.draws := by simp [State.program]
@[simp] theorem State.program_stopped (h : Fin 256) (bs : List Byte) : (s.program h bs).stopped = s.stopped := by simp [State.stopped]

/-! `State.stopArchive` -/

@[simp] theorem State.stopArchive_pending (e : ArchiveError) : (s.stopArchive e).pending = s.pending := by simp [State.stopArchive]
@[simp] theorem State.stopArchive_resetLine (e : ArchiveError) : (s.stopArchive e).resetLine = s.resetLine := by simp [State.stopArchive]
@[simp] theorem State.stopArchive_unpowered (e : ArchiveError) : (s.stopArchive e).unpowered = s.unpowered := by simp [State.stopArchive]
@[simp] theorem State.stopArchive_warning (e : ArchiveError) : (s.stopArchive e).warning = s.warning := by simp [State.stopArchive]
@[simp] theorem State.stopArchive_op (e : ArchiveError) : (s.stopArchive e).op = s.op := by simp [State.stopArchive]
@[simp] theorem State.stopArchive_path (e : ArchiveError) : (s.stopArchive e).path = s.path := by simp [State.stopArchive]
@[simp] theorem State.stopArchive_nv (e : ArchiveError) : (s.stopArchive e).nv = s.nv := by simp [State.stopArchive]
@[simp] theorem State.stopArchive_settings (e : ArchiveError) : (s.stopArchive e).settings = s.settings := by simp [State.stopArchive]
@[simp] theorem State.stopArchive_store (e : ArchiveError) : (s.stopArchive e).store = s.store := by simp [State.stopArchive]
@[simp] theorem State.stopArchive_lanes (e : ArchiveError) : (s.stopArchive e).lanes = s.lanes := by simp [State.stopArchive]
@[simp] theorem State.stopArchive_channels (e : ArchiveError) : (s.stopArchive e).channels = s.channels := by simp [State.stopArchive]
@[simp] theorem State.stopArchive_trackers (e : ArchiveError) : (s.stopArchive e).trackers = s.trackers := by simp [State.stopArchive]
@[simp] theorem State.stopArchive_timebases (e : ArchiveError) : (s.stopArchive e).timebases = s.timebases := by simp [State.stopArchive]
@[simp] theorem State.stopArchive_sampleIndex (e : ArchiveError) : (s.stopArchive e).sampleIndex = s.sampleIndex := by simp [State.stopArchive]
@[simp] theorem State.stopArchive_selector (e : ArchiveError) : (s.stopArchive e).selector = s.selector := by simp [State.stopArchive]
@[simp] theorem State.stopArchive_accounts (e : ArchiveError) : (s.stopArchive e).accounts = s.accounts := by simp [State.stopArchive]
@[simp] theorem State.stopArchive_clock (e : ArchiveError) : (s.stopArchive e).clock = s.clock := by simp [State.stopArchive]
@[simp] theorem State.stopArchive_queue (e : ArchiveError) : (s.stopArchive e).queue = s.queue := by simp [State.stopArchive]
@[simp] theorem State.stopArchive_archive (e : ArchiveError) : (s.stopArchive e).archive = { s.archive with state := .stopped, error := e } := by simp [State.stopArchive]
@[simp] theorem State.stopArchive_tie (e : ArchiveError) : (s.stopArchive e).tie = s.tie := by simp [State.stopArchive]
@[simp] theorem State.stopArchive_msg (e : ArchiveError) : (s.stopArchive e).msg = s.msg := by simp [State.stopArchive]
@[simp] theorem State.stopArchive_draws (e : ArchiveError) : (s.stopArchive e).draws = s.draws := by simp [State.stopArchive]
@[simp] theorem State.stopArchive_stopped (e : ArchiveError) : (s.stopArchive e).stopped = s.stopped := by simp [State.stopped]

/-! `State.beginErase` -/

@[simp] theorem State.beginErase_pending (g : Fin 256) : (s.beginErase g).pending = s.pending := by simp [State.beginErase]
@[simp] theorem State.beginErase_resetLine (g : Fin 256) : (s.beginErase g).resetLine = s.resetLine := by simp [State.beginErase]
@[simp] theorem State.beginErase_unpowered (g : Fin 256) : (s.beginErase g).unpowered = s.unpowered := by simp [State.beginErase]
@[simp] theorem State.beginErase_warning (g : Fin 256) : (s.beginErase g).warning = s.warning := by simp [State.beginErase]
@[simp] theorem State.beginErase_op (g : Fin 256) : (s.beginErase g).op = s.op := by simp [State.beginErase]
@[simp] theorem State.beginErase_path (g : Fin 256) : (s.beginErase g).path = s.path := by simp [State.beginErase]
@[simp] theorem State.beginErase_settings (g : Fin 256) : (s.beginErase g).settings = s.settings := by simp [State.beginErase]
@[simp] theorem State.beginErase_store (g : Fin 256) : (s.beginErase g).store = s.store := by simp [State.beginErase]
@[simp] theorem State.beginErase_lanes (g : Fin 256) : (s.beginErase g).lanes = s.lanes := by simp [State.beginErase]
@[simp] theorem State.beginErase_channels (g : Fin 256) : (s.beginErase g).channels = s.channels := by simp [State.beginErase]
@[simp] theorem State.beginErase_trackers (g : Fin 256) : (s.beginErase g).trackers = s.trackers := by simp [State.beginErase]
@[simp] theorem State.beginErase_timebases (g : Fin 256) : (s.beginErase g).timebases = s.timebases := by simp [State.beginErase]
@[simp] theorem State.beginErase_sampleIndex (g : Fin 256) : (s.beginErase g).sampleIndex = s.sampleIndex := by simp [State.beginErase]
@[simp] theorem State.beginErase_selector (g : Fin 256) : (s.beginErase g).selector = s.selector := by simp [State.beginErase]
@[simp] theorem State.beginErase_accounts (g : Fin 256) : (s.beginErase g).accounts = s.accounts := by simp [State.beginErase]
@[simp] theorem State.beginErase_clock (g : Fin 256) : (s.beginErase g).clock = s.clock := by simp [State.beginErase]
@[simp] theorem State.beginErase_queue (g : Fin 256) : (s.beginErase g).queue = s.queue := by simp [State.beginErase]
@[simp] theorem State.beginErase_tie (g : Fin 256) : (s.beginErase g).tie = s.tie := by simp [State.beginErase]
@[simp] theorem State.beginErase_msg (g : Fin 256) : (s.beginErase g).msg = s.msg := by simp [State.beginErase]
@[simp] theorem State.beginErase_notices (g : Fin 256) : (s.beginErase g).notices = s.notices := by simp [State.beginErase]
@[simp] theorem State.beginErase_draws (g : Fin 256) : (s.beginErase g).draws = s.draws := by simp [State.beginErase]
@[simp] theorem State.beginErase_stopped (g : Fin 256) : (s.beginErase g).stopped = s.stopped := by simp [State.stopped]

/-! `State.beginWrite` -/

@[simp] theorem State.beginWrite_pending : (s.beginWrite).pending = s.pending := by simp [State.beginWrite]
@[simp] theorem State.beginWrite_resetLine : (s.beginWrite).resetLine = s.resetLine := by simp [State.beginWrite]
@[simp] theorem State.beginWrite_unpowered : (s.beginWrite).unpowered = s.unpowered := by simp [State.beginWrite]
@[simp] theorem State.beginWrite_warning : (s.beginWrite).warning = s.warning := by simp [State.beginWrite]
@[simp] theorem State.beginWrite_op : (s.beginWrite).op = s.op := by simp [State.beginWrite]
@[simp] theorem State.beginWrite_path : (s.beginWrite).path = s.path := by simp [State.beginWrite]
@[simp] theorem State.beginWrite_nv : (s.beginWrite).nv = s.nv := by simp [State.beginWrite]
@[simp] theorem State.beginWrite_settings : (s.beginWrite).settings = s.settings := by simp [State.beginWrite]
@[simp] theorem State.beginWrite_store : (s.beginWrite).store = s.store := by simp [State.beginWrite]
@[simp] theorem State.beginWrite_lanes : (s.beginWrite).lanes = s.lanes := by simp [State.beginWrite]
@[simp] theorem State.beginWrite_channels : (s.beginWrite).channels = s.channels := by simp [State.beginWrite]
@[simp] theorem State.beginWrite_trackers : (s.beginWrite).trackers = s.trackers := by simp [State.beginWrite]
@[simp] theorem State.beginWrite_timebases : (s.beginWrite).timebases = s.timebases := by simp [State.beginWrite]
@[simp] theorem State.beginWrite_sampleIndex : (s.beginWrite).sampleIndex = s.sampleIndex := by simp [State.beginWrite]
@[simp] theorem State.beginWrite_selector : (s.beginWrite).selector = s.selector := by simp [State.beginWrite]
@[simp] theorem State.beginWrite_accounts : (s.beginWrite).accounts = s.accounts := by simp [State.beginWrite]
@[simp] theorem State.beginWrite_clock : (s.beginWrite).clock = s.clock := by simp [State.beginWrite]
@[simp] theorem State.beginWrite_queue : (s.beginWrite).queue = s.queue := by simp [State.beginWrite]
@[simp] theorem State.beginWrite_tie : (s.beginWrite).tie = s.tie := by simp [State.beginWrite]
@[simp] theorem State.beginWrite_msg : (s.beginWrite).msg = s.msg := by simp [State.beginWrite]
@[simp] theorem State.beginWrite_notices : (s.beginWrite).notices = s.notices := by simp [State.beginWrite]
@[simp] theorem State.beginWrite_draws : (s.beginWrite).draws = s.draws := by simp [State.beginWrite]
@[simp] theorem State.beginWrite_stopped : (s.beginWrite).stopped = s.stopped := by simp [State.stopped]

/-! `State.endWrite` -/

@[simp] theorem State.endWrite_pending : (s.endWrite).pending = s.pending := by simp [State.endWrite]
@[simp] theorem State.endWrite_resetLine : (s.endWrite).resetLine = s.resetLine := by simp [State.endWrite]
@[simp] theorem State.endWrite_unpowered : (s.endWrite).unpowered = s.unpowered := by simp [State.endWrite]
@[simp] theorem State.endWrite_warning : (s.endWrite).warning = s.warning := by simp [State.endWrite]
@[simp] theorem State.endWrite_op : (s.endWrite).op = s.op := by simp [State.endWrite]
@[simp] theorem State.endWrite_path : (s.endWrite).path = s.path := by simp [State.endWrite]
@[simp] theorem State.endWrite_nv : (s.endWrite).nv = s.nv := by simp [State.endWrite]
@[simp] theorem State.endWrite_settings : (s.endWrite).settings = s.settings := by simp [State.endWrite]
@[simp] theorem State.endWrite_store : (s.endWrite).store = s.store := by simp [State.endWrite]
@[simp] theorem State.endWrite_lanes : (s.endWrite).lanes = s.lanes := by simp [State.endWrite]
@[simp] theorem State.endWrite_channels : (s.endWrite).channels = s.channels := by simp [State.endWrite]
@[simp] theorem State.endWrite_trackers : (s.endWrite).trackers = s.trackers := by simp [State.endWrite]
@[simp] theorem State.endWrite_timebases : (s.endWrite).timebases = s.timebases := by simp [State.endWrite]
@[simp] theorem State.endWrite_sampleIndex : (s.endWrite).sampleIndex = s.sampleIndex := by simp [State.endWrite]
@[simp] theorem State.endWrite_selector : (s.endWrite).selector = s.selector := by simp [State.endWrite]
@[simp] theorem State.endWrite_accounts : (s.endWrite).accounts = s.accounts := by simp [State.endWrite]
@[simp] theorem State.endWrite_clock : (s.endWrite).clock = s.clock := by simp [State.endWrite]
@[simp] theorem State.endWrite_queue : (s.endWrite).queue = s.queue := by simp [State.endWrite]
@[simp] theorem State.endWrite_tie : (s.endWrite).tie = s.tie := by simp [State.endWrite]
@[simp] theorem State.endWrite_msg : (s.endWrite).msg = s.msg := by simp [State.endWrite]
@[simp] theorem State.endWrite_notices : (s.endWrite).notices = s.notices := by simp [State.endWrite]
@[simp] theorem State.endWrite_draws : (s.endWrite).draws = s.draws := by simp [State.endWrite]
@[simp] theorem State.endWrite_stopped : (s.endWrite).stopped = s.stopped := by simp [State.stopped]

/-! `State.advance` -/

@[simp] theorem State.advance_pending (n : Nat) : (s.advance n).pending = s.pending := by simp [State.advance]
@[simp] theorem State.advance_resetLine (n : Nat) : (s.advance n).resetLine = s.resetLine := by simp [State.advance]
@[simp] theorem State.advance_unpowered (n : Nat) : (s.advance n).unpowered = s.unpowered := by simp [State.advance]
@[simp] theorem State.advance_warning (n : Nat) : (s.advance n).warning = s.warning := by simp [State.advance]
@[simp] theorem State.advance_op (n : Nat) : (s.advance n).op = s.op := by simp [State.advance]
@[simp] theorem State.advance_path (n : Nat) : (s.advance n).path = s.path := by simp [State.advance]
@[simp] theorem State.advance_nv (n : Nat) : (s.advance n).nv = s.nv := by simp [State.advance]
@[simp] theorem State.advance_settings (n : Nat) : (s.advance n).settings = s.settings := by simp [State.advance]
@[simp] theorem State.advance_store (n : Nat) : (s.advance n).store = s.store := by simp [State.advance]
@[simp] theorem State.advance_lanes (n : Nat) : (s.advance n).lanes = s.lanes := by simp [State.advance]
@[simp] theorem State.advance_channels (n : Nat) : (s.advance n).channels = s.channels := by simp [State.advance]
@[simp] theorem State.advance_trackers (n : Nat) : (s.advance n).trackers = s.trackers := by simp [State.advance]
@[simp] theorem State.advance_timebases (n : Nat) : (s.advance n).timebases = s.timebases := by simp [State.advance]
@[simp] theorem State.advance_sampleIndex (n : Nat) : (s.advance n).sampleIndex = s.sampleIndex := by simp [State.advance]
@[simp] theorem State.advance_selector (n : Nat) : (s.advance n).selector = s.selector := by simp [State.advance]
@[simp] theorem State.advance_accounts (n : Nat) : (s.advance n).accounts = s.accounts := by simp [State.advance]
@[simp] theorem State.advance_clock (n : Nat) : (s.advance n).clock = s.clock := by simp [State.advance]
@[simp] theorem State.advance_queue (n : Nat) : (s.advance n).queue = s.queue := by simp [State.advance]
@[simp] theorem State.advance_archive (n : Nat) : (s.advance n).archive = { s.archive with writePos := s.archive.writePos + n } := by simp [State.advance]
@[simp] theorem State.advance_tie (n : Nat) : (s.advance n).tie = s.tie := by simp [State.advance]
@[simp] theorem State.advance_msg (n : Nat) : (s.advance n).msg = s.msg := by simp [State.advance]
@[simp] theorem State.advance_notices (n : Nat) : (s.advance n).notices = s.notices := by simp [State.advance]
@[simp] theorem State.advance_draws (n : Nat) : (s.advance n).draws = s.draws := by simp [State.advance]
@[simp] theorem State.advance_stopped (n : Nat) : (s.advance n).stopped = s.stopped := by simp [State.stopped]

/-! `State.resumeErase` -/

@[simp] theorem State.resumeErase_pending : (s.resumeErase).pending = s.pending := by simp [State.resumeErase]
@[simp] theorem State.resumeErase_resetLine : (s.resumeErase).resetLine = s.resetLine := by simp [State.resumeErase]
@[simp] theorem State.resumeErase_unpowered : (s.resumeErase).unpowered = s.unpowered := by simp [State.resumeErase]
@[simp] theorem State.resumeErase_warning : (s.resumeErase).warning = s.warning := by simp [State.resumeErase]
@[simp] theorem State.resumeErase_op : (s.resumeErase).op = s.op := by simp [State.resumeErase]
@[simp] theorem State.resumeErase_path : (s.resumeErase).path = s.path := by simp [State.resumeErase]
@[simp] theorem State.resumeErase_nv : (s.resumeErase).nv = s.nv := by simp [State.resumeErase]
@[simp] theorem State.resumeErase_settings : (s.resumeErase).settings = s.settings := by simp [State.resumeErase]
@[simp] theorem State.resumeErase_store : (s.resumeErase).store = s.store := by simp [State.resumeErase]
@[simp] theorem State.resumeErase_lanes : (s.resumeErase).lanes = s.lanes := by simp [State.resumeErase]
@[simp] theorem State.resumeErase_channels : (s.resumeErase).channels = s.channels := by simp [State.resumeErase]
@[simp] theorem State.resumeErase_trackers : (s.resumeErase).trackers = s.trackers := by simp [State.resumeErase]
@[simp] theorem State.resumeErase_timebases : (s.resumeErase).timebases = s.timebases := by simp [State.resumeErase]
@[simp] theorem State.resumeErase_sampleIndex : (s.resumeErase).sampleIndex = s.sampleIndex := by simp [State.resumeErase]
@[simp] theorem State.resumeErase_selector : (s.resumeErase).selector = s.selector := by simp [State.resumeErase]
@[simp] theorem State.resumeErase_accounts : (s.resumeErase).accounts = s.accounts := by simp [State.resumeErase]
@[simp] theorem State.resumeErase_clock : (s.resumeErase).clock = s.clock := by simp [State.resumeErase]
@[simp] theorem State.resumeErase_queue : (s.resumeErase).queue = s.queue := by simp [State.resumeErase]
@[simp] theorem State.resumeErase_tie : (s.resumeErase).tie = s.tie := by simp [State.resumeErase]
@[simp] theorem State.resumeErase_msg : (s.resumeErase).msg = s.msg := by simp [State.resumeErase]
@[simp] theorem State.resumeErase_notices : (s.resumeErase).notices = s.notices := by simp [State.resumeErase]
@[simp] theorem State.resumeErase_draws : (s.resumeErase).draws = s.draws := by simp [State.resumeErase]
@[simp] theorem State.resumeErase_stopped : (s.resumeErase).stopped = s.stopped := by simp [State.stopped]

/-! `State.dropOldest` -/

@[simp] theorem State.dropOldest_pending : (s.dropOldest).pending = s.pending := by cases s; rfl
@[simp] theorem State.dropOldest_resetLine : (s.dropOldest).resetLine = s.resetLine := by cases s; rfl
@[simp] theorem State.dropOldest_unpowered : (s.dropOldest).unpowered = s.unpowered := by cases s; rfl
@[simp] theorem State.dropOldest_warning : (s.dropOldest).warning = s.warning := by cases s; rfl
@[simp] theorem State.dropOldest_op : (s.dropOldest).op = s.op := by cases s; rfl
@[simp] theorem State.dropOldest_path : (s.dropOldest).path = s.path := by cases s; rfl
@[simp] theorem State.dropOldest_nv : (s.dropOldest).nv = s.nv := by cases s; rfl
@[simp] theorem State.dropOldest_settings : (s.dropOldest).settings = s.settings := by cases s; rfl
@[simp] theorem State.dropOldest_store : (s.dropOldest).store = s.store := by cases s; rfl
@[simp] theorem State.dropOldest_lanes : (s.dropOldest).lanes = s.lanes := by cases s; rfl
@[simp] theorem State.dropOldest_channels : (s.dropOldest).channels = s.channels := by cases s; rfl
@[simp] theorem State.dropOldest_trackers : (s.dropOldest).trackers = s.trackers := by cases s; rfl
@[simp] theorem State.dropOldest_timebases : (s.dropOldest).timebases = s.timebases := by cases s; rfl
@[simp] theorem State.dropOldest_sampleIndex : (s.dropOldest).sampleIndex = s.sampleIndex := by cases s; rfl
@[simp] theorem State.dropOldest_selector : (s.dropOldest).selector = s.selector := by cases s; rfl
@[simp] theorem State.dropOldest_accounts : (s.dropOldest).accounts = s.accounts := by cases s; rfl
@[simp] theorem State.dropOldest_clock : (s.dropOldest).clock = s.clock := by cases s; rfl
@[simp] theorem State.dropOldest_queue : (s.dropOldest).queue = s.queue.drop 1 := by cases s; rfl
@[simp] theorem State.dropOldest_archive : (s.dropOldest).archive = { s.archive with failedOnce := false } := by cases s; rfl
@[simp] theorem State.dropOldest_tie : (s.dropOldest).tie = s.tie := by cases s; rfl
@[simp] theorem State.dropOldest_msg : (s.dropOldest).msg = s.msg := by cases s; rfl
@[simp] theorem State.dropOldest_notices : (s.dropOldest).notices = s.notices := by cases s; rfl
@[simp] theorem State.dropOldest_draws : (s.dropOldest).draws = s.draws := by cases s; rfl
@[simp] theorem State.dropOldest_stopped : (s.dropOldest).stopped = s.stopped := by simp [State.stopped]

/-! `State.writeImage` -/

@[simp] theorem State.writeImage_pending (f : Image → Image) : (s.writeImage f).pending = s.pending := by cases s; rfl
@[simp] theorem State.writeImage_resetLine (f : Image → Image) : (s.writeImage f).resetLine = s.resetLine := by cases s; rfl
@[simp] theorem State.writeImage_unpowered (f : Image → Image) : (s.writeImage f).unpowered = s.unpowered := by cases s; rfl
@[simp] theorem State.writeImage_warning (f : Image → Image) : (s.writeImage f).warning = s.warning := by cases s; rfl
@[simp] theorem State.writeImage_op (f : Image → Image) : (s.writeImage f).op = s.op := by cases s; rfl
@[simp] theorem State.writeImage_path (f : Image → Image) : (s.writeImage f).path = s.path := by cases s; rfl
@[simp] theorem State.writeImage_nv (f : Image → Image) : (s.writeImage f).nv = s.nv := by cases s; rfl
@[simp] theorem State.writeImage_settings (f : Image → Image) : (s.writeImage f).settings = s.settings := by cases s; rfl
@[simp] theorem State.writeImage_store (f : Image → Image) : (s.writeImage f).store = some (.image (f s.storedImage)) := by cases s; rfl
@[simp] theorem State.writeImage_lanes (f : Image → Image) : (s.writeImage f).lanes = s.lanes := by cases s; rfl
@[simp] theorem State.writeImage_channels (f : Image → Image) : (s.writeImage f).channels = s.channels := by cases s; rfl
@[simp] theorem State.writeImage_trackers (f : Image → Image) : (s.writeImage f).trackers = s.trackers := by cases s; rfl
@[simp] theorem State.writeImage_timebases (f : Image → Image) : (s.writeImage f).timebases = s.timebases := by cases s; rfl
@[simp] theorem State.writeImage_sampleIndex (f : Image → Image) : (s.writeImage f).sampleIndex = s.sampleIndex := by cases s; rfl
@[simp] theorem State.writeImage_selector (f : Image → Image) : (s.writeImage f).selector = s.selector := by cases s; rfl
@[simp] theorem State.writeImage_accounts (f : Image → Image) : (s.writeImage f).accounts = s.accounts := by cases s; rfl
@[simp] theorem State.writeImage_clock (f : Image → Image) : (s.writeImage f).clock = s.clock := by cases s; rfl
@[simp] theorem State.writeImage_queue (f : Image → Image) : (s.writeImage f).queue = s.queue := by cases s; rfl
@[simp] theorem State.writeImage_archive (f : Image → Image) : (s.writeImage f).archive = s.archive := by cases s; rfl
@[simp] theorem State.writeImage_tie (f : Image → Image) : (s.writeImage f).tie = s.tie := by cases s; rfl
@[simp] theorem State.writeImage_msg (f : Image → Image) : (s.writeImage f).msg = s.msg := by cases s; rfl
@[simp] theorem State.writeImage_notices (f : Image → Image) : (s.writeImage f).notices = s.notices := by cases s; rfl
@[simp] theorem State.writeImage_draws (f : Image → Image) : (s.writeImage f).draws = s.draws := by cases s; rfl
@[simp] theorem State.writeImage_stopped (f : Image → Image) : (s.writeImage f).stopped = s.stopped := by simp [State.stopped]

/-! `State.writeMark` -/

@[simp] theorem State.writeMark_pending (v : Nat) (c : Fin 2) : (s.writeMark v c).pending = s.pending := by cases s; rfl
@[simp] theorem State.writeMark_resetLine (v : Nat) (c : Fin 2) : (s.writeMark v c).resetLine = s.resetLine := by cases s; rfl
@[simp] theorem State.writeMark_unpowered (v : Nat) (c : Fin 2) : (s.writeMark v c).unpowered = s.unpowered := by cases s; rfl
@[simp] theorem State.writeMark_warning (v : Nat) (c : Fin 2) : (s.writeMark v c).warning = s.warning := by cases s; rfl
@[simp] theorem State.writeMark_op (v : Nat) (c : Fin 2) : (s.writeMark v c).op = s.op := by cases s; rfl
@[simp] theorem State.writeMark_path (v : Nat) (c : Fin 2) : (s.writeMark v c).path = s.path := by cases s; rfl
@[simp] theorem State.writeMark_nv (v : Nat) (c : Fin 2) : (s.writeMark v c).nv = s.nv := by cases s; rfl
@[simp] theorem State.writeMark_settings (v : Nat) (c : Fin 2) : (s.writeMark v c).settings = s.settings := by cases s; rfl
@[simp] theorem State.writeMark_store (v : Nat) (c : Fin 2) : (s.writeMark v c).store = some (.mark v c) := by cases s; rfl
@[simp] theorem State.writeMark_lanes (v : Nat) (c : Fin 2) : (s.writeMark v c).lanes = s.lanes := by cases s; rfl
@[simp] theorem State.writeMark_channels (v : Nat) (c : Fin 2) : (s.writeMark v c).channels = s.channels := by cases s; rfl
@[simp] theorem State.writeMark_trackers (v : Nat) (c : Fin 2) : (s.writeMark v c).trackers = s.trackers := by cases s; rfl
@[simp] theorem State.writeMark_timebases (v : Nat) (c : Fin 2) : (s.writeMark v c).timebases = s.timebases := by cases s; rfl
@[simp] theorem State.writeMark_sampleIndex (v : Nat) (c : Fin 2) : (s.writeMark v c).sampleIndex = s.sampleIndex := by cases s; rfl
@[simp] theorem State.writeMark_selector (v : Nat) (c : Fin 2) : (s.writeMark v c).selector = s.selector := by cases s; rfl
@[simp] theorem State.writeMark_accounts (v : Nat) (c : Fin 2) : (s.writeMark v c).accounts = s.accounts := by cases s; rfl
@[simp] theorem State.writeMark_clock (v : Nat) (c : Fin 2) : (s.writeMark v c).clock = s.clock := by cases s; rfl
@[simp] theorem State.writeMark_queue (v : Nat) (c : Fin 2) : (s.writeMark v c).queue = s.queue := by cases s; rfl
@[simp] theorem State.writeMark_archive (v : Nat) (c : Fin 2) : (s.writeMark v c).archive = s.archive := by cases s; rfl
@[simp] theorem State.writeMark_tie (v : Nat) (c : Fin 2) : (s.writeMark v c).tie = s.tie := by cases s; rfl
@[simp] theorem State.writeMark_msg (v : Nat) (c : Fin 2) : (s.writeMark v c).msg = s.msg := by cases s; rfl
@[simp] theorem State.writeMark_notices (v : Nat) (c : Fin 2) : (s.writeMark v c).notices = s.notices := by cases s; rfl
@[simp] theorem State.writeMark_draws (v : Nat) (c : Fin 2) : (s.writeMark v c).draws = s.draws := by cases s; rfl
@[simp] theorem State.writeMark_stopped (v : Nat) (c : Fin 2) : (s.writeMark v c).stopped = s.stopped := by simp [State.stopped]

/-! `State.setPins` -/

@[simp] theorem State.setPins_pending (p : Table (Option (Nat × Nat)) 4) : (s.setPins p).pending = s.pending := by simp [State.setPins]
@[simp] theorem State.setPins_resetLine (p : Table (Option (Nat × Nat)) 4) : (s.setPins p).resetLine = s.resetLine := by simp [State.setPins]
@[simp] theorem State.setPins_unpowered (p : Table (Option (Nat × Nat)) 4) : (s.setPins p).unpowered = s.unpowered := by simp [State.setPins]
@[simp] theorem State.setPins_warning (p : Table (Option (Nat × Nat)) 4) : (s.setPins p).warning = s.warning := by simp [State.setPins]
@[simp] theorem State.setPins_op (p : Table (Option (Nat × Nat)) 4) : (s.setPins p).op = s.op := by simp [State.setPins]
@[simp] theorem State.setPins_path (p : Table (Option (Nat × Nat)) 4) : (s.setPins p).path = s.path := by simp [State.setPins]
@[simp] theorem State.setPins_nv (p : Table (Option (Nat × Nat)) 4) : (s.setPins p).nv = s.nv := by simp [State.setPins]
@[simp] theorem State.setPins_settings (p : Table (Option (Nat × Nat)) 4) : (s.setPins p).settings = s.settings := by simp [State.setPins]
@[simp] theorem State.setPins_lanes (p : Table (Option (Nat × Nat)) 4) : (s.setPins p).lanes = s.lanes := by simp [State.setPins]
@[simp] theorem State.setPins_channels (p : Table (Option (Nat × Nat)) 4) : (s.setPins p).channels = s.channels := by simp [State.setPins]
@[simp] theorem State.setPins_trackers (p : Table (Option (Nat × Nat)) 4) : (s.setPins p).trackers = s.trackers := by simp [State.setPins]
@[simp] theorem State.setPins_timebases (p : Table (Option (Nat × Nat)) 4) : (s.setPins p).timebases = s.timebases := by simp [State.setPins]
@[simp] theorem State.setPins_sampleIndex (p : Table (Option (Nat × Nat)) 4) : (s.setPins p).sampleIndex = s.sampleIndex := by simp [State.setPins]
@[simp] theorem State.setPins_selector (p : Table (Option (Nat × Nat)) 4) : (s.setPins p).selector = s.selector := by simp [State.setPins]
@[simp] theorem State.setPins_accounts (p : Table (Option (Nat × Nat)) 4) : (s.setPins p).accounts = s.accounts := by simp [State.setPins]
@[simp] theorem State.setPins_clock (p : Table (Option (Nat × Nat)) 4) : (s.setPins p).clock = s.clock := by simp [State.setPins]
@[simp] theorem State.setPins_queue (p : Table (Option (Nat × Nat)) 4) : (s.setPins p).queue = s.queue := by simp [State.setPins]
@[simp] theorem State.setPins_archive (p : Table (Option (Nat × Nat)) 4) : (s.setPins p).archive = { s.archive with pins := p } := by simp [State.setPins]
@[simp] theorem State.setPins_tie (p : Table (Option (Nat × Nat)) 4) : (s.setPins p).tie = s.tie := by simp [State.setPins]
@[simp] theorem State.setPins_msg (p : Table (Option (Nat × Nat)) 4) : (s.setPins p).msg = s.msg := by simp [State.setPins]
@[simp] theorem State.setPins_notices (p : Table (Option (Nat × Nat)) 4) : (s.setPins p).notices = s.notices := by simp [State.setPins]
@[simp] theorem State.setPins_draws (p : Table (Option (Nat × Nat)) 4) : (s.setPins p).draws = s.draws := by simp [State.setPins]
@[simp] theorem State.setPins_stopped (p : Table (Option (Nat × Nat)) 4) : (s.setPins p).stopped = s.stopped := by simp [State.stopped]

/-! `State.setReply` -/

@[simp] theorem State.setReply_pending (r : Option Reply) : (s.setReply r).pending = s.pending := by cases s; rfl
@[simp] theorem State.setReply_resetLine (r : Option Reply) : (s.setReply r).resetLine = s.resetLine := by cases s; rfl
@[simp] theorem State.setReply_unpowered (r : Option Reply) : (s.setReply r).unpowered = s.unpowered := by cases s; rfl
@[simp] theorem State.setReply_warning (r : Option Reply) : (s.setReply r).warning = s.warning := by cases s; rfl
@[simp] theorem State.setReply_op (r : Option Reply) : (s.setReply r).op = s.op := by cases s; rfl
@[simp] theorem State.setReply_path (r : Option Reply) : (s.setReply r).path = s.path := by cases s; rfl
@[simp] theorem State.setReply_nv (r : Option Reply) : (s.setReply r).nv = s.nv := by cases s; rfl
@[simp] theorem State.setReply_settings (r : Option Reply) : (s.setReply r).settings = s.settings := by cases s; rfl
@[simp] theorem State.setReply_store (r : Option Reply) : (s.setReply r).store = s.store := by cases s; rfl
@[simp] theorem State.setReply_lanes (r : Option Reply) : (s.setReply r).lanes = s.lanes := by cases s; rfl
@[simp] theorem State.setReply_channels (r : Option Reply) : (s.setReply r).channels = s.channels := by cases s; rfl
@[simp] theorem State.setReply_trackers (r : Option Reply) : (s.setReply r).trackers = s.trackers := by cases s; rfl
@[simp] theorem State.setReply_timebases (r : Option Reply) : (s.setReply r).timebases = s.timebases := by cases s; rfl
@[simp] theorem State.setReply_sampleIndex (r : Option Reply) : (s.setReply r).sampleIndex = s.sampleIndex := by cases s; rfl
@[simp] theorem State.setReply_selector (r : Option Reply) : (s.setReply r).selector = s.selector := by cases s; rfl
@[simp] theorem State.setReply_accounts (r : Option Reply) : (s.setReply r).accounts = s.accounts := by cases s; rfl
@[simp] theorem State.setReply_clock (r : Option Reply) : (s.setReply r).clock = s.clock := by cases s; rfl
@[simp] theorem State.setReply_queue (r : Option Reply) : (s.setReply r).queue = s.queue := by cases s; rfl
@[simp] theorem State.setReply_archive (r : Option Reply) : (s.setReply r).archive = s.archive := by cases s; rfl
@[simp] theorem State.setReply_tie (r : Option Reply) : (s.setReply r).tie = s.tie := by cases s; rfl
@[simp] theorem State.setReply_msg (r : Option Reply) : (s.setReply r).msg = { s.msg with reply := r } := by cases s; rfl
@[simp] theorem State.setReply_notices (r : Option Reply) : (s.setReply r).notices = s.notices := by cases s; rfl
@[simp] theorem State.setReply_draws (r : Option Reply) : (s.setReply r).draws = s.draws := by cases s; rfl
@[simp] theorem State.setReply_stopped (r : Option Reply) : (s.setReply r).stopped = s.stopped := by simp [State.stopped]

/-! `State.setEnabled` -/

@[simp] theorem State.setEnabled_pending (a : Fin 16) (b : Bool) : (s.setEnabled a b).pending = s.pending := by cases s; rfl
@[simp] theorem State.setEnabled_resetLine (a : Fin 16) (b : Bool) : (s.setEnabled a b).resetLine = s.resetLine := by cases s; rfl
@[simp] theorem State.setEnabled_unpowered (a : Fin 16) (b : Bool) : (s.setEnabled a b).unpowered = s.unpowered := by cases s; rfl
@[simp] theorem State.setEnabled_warning (a : Fin 16) (b : Bool) : (s.setEnabled a b).warning = s.warning := by cases s; rfl
@[simp] theorem State.setEnabled_op (a : Fin 16) (b : Bool) : (s.setEnabled a b).op = s.op := by cases s; rfl
@[simp] theorem State.setEnabled_path (a : Fin 16) (b : Bool) : (s.setEnabled a b).path = s.path := by cases s; rfl
@[simp] theorem State.setEnabled_nv (a : Fin 16) (b : Bool) : (s.setEnabled a b).nv = s.nv := by cases s; rfl
@[simp] theorem State.setEnabled_settings (a : Fin 16) (b : Bool) : (s.setEnabled a b).settings = { s.settings with enabled := s.settings.enabled.put a b } := by cases s; rfl
@[simp] theorem State.setEnabled_store (a : Fin 16) (b : Bool) : (s.setEnabled a b).store = s.store := by cases s; rfl
@[simp] theorem State.setEnabled_lanes (a : Fin 16) (b : Bool) : (s.setEnabled a b).lanes = s.lanes := by cases s; rfl
@[simp] theorem State.setEnabled_channels (a : Fin 16) (b : Bool) : (s.setEnabled a b).channels = s.channels := by cases s; rfl
@[simp] theorem State.setEnabled_trackers (a : Fin 16) (b : Bool) : (s.setEnabled a b).trackers = s.trackers := by cases s; rfl
@[simp] theorem State.setEnabled_timebases (a : Fin 16) (b : Bool) : (s.setEnabled a b).timebases = s.timebases := by cases s; rfl
@[simp] theorem State.setEnabled_sampleIndex (a : Fin 16) (b : Bool) : (s.setEnabled a b).sampleIndex = s.sampleIndex := by cases s; rfl
@[simp] theorem State.setEnabled_selector (a : Fin 16) (b : Bool) : (s.setEnabled a b).selector = s.selector := by cases s; rfl
@[simp] theorem State.setEnabled_accounts (a : Fin 16) (b : Bool) : (s.setEnabled a b).accounts = s.accounts := by cases s; rfl
@[simp] theorem State.setEnabled_clock (a : Fin 16) (b : Bool) : (s.setEnabled a b).clock = s.clock := by cases s; rfl
@[simp] theorem State.setEnabled_queue (a : Fin 16) (b : Bool) : (s.setEnabled a b).queue = s.queue := by cases s; rfl
@[simp] theorem State.setEnabled_archive (a : Fin 16) (b : Bool) : (s.setEnabled a b).archive = s.archive := by cases s; rfl
@[simp] theorem State.setEnabled_tie (a : Fin 16) (b : Bool) : (s.setEnabled a b).tie = s.tie := by cases s; rfl
@[simp] theorem State.setEnabled_msg (a : Fin 16) (b : Bool) : (s.setEnabled a b).msg = s.msg := by cases s; rfl
@[simp] theorem State.setEnabled_notices (a : Fin 16) (b : Bool) : (s.setEnabled a b).notices = s.notices := by cases s; rfl
@[simp] theorem State.setEnabled_draws (a : Fin 16) (b : Bool) : (s.setEnabled a b).draws = s.draws := by cases s; rfl
@[simp] theorem State.setEnabled_stopped (a : Fin 16) (b : Bool) : (s.setEnabled a b).stopped = s.stopped := by simp [State.stopped]

/-! `State.setWarning` -/

@[simp] theorem State.setWarning_pending (b : Bool) : (s.setWarning b).pending = s.pending := by cases s; rfl
@[simp] theorem State.setWarning_resetLine (b : Bool) : (s.setWarning b).resetLine = s.resetLine := by cases s; rfl
@[simp] theorem State.setWarning_unpowered (b : Bool) : (s.setWarning b).unpowered = s.unpowered := by cases s; rfl
@[simp] theorem State.setWarning_warning (b : Bool) : (s.setWarning b).warning = b := by cases s; rfl
@[simp] theorem State.setWarning_op (b : Bool) : (s.setWarning b).op = s.op := by cases s; rfl
@[simp] theorem State.setWarning_path (b : Bool) : (s.setWarning b).path = s.path := by cases s; rfl
@[simp] theorem State.setWarning_nv (b : Bool) : (s.setWarning b).nv = s.nv := by cases s; rfl
@[simp] theorem State.setWarning_settings (b : Bool) : (s.setWarning b).settings = s.settings := by cases s; rfl
@[simp] theorem State.setWarning_store (b : Bool) : (s.setWarning b).store = s.store := by cases s; rfl
@[simp] theorem State.setWarning_lanes (b : Bool) : (s.setWarning b).lanes = s.lanes := by cases s; rfl
@[simp] theorem State.setWarning_channels (b : Bool) : (s.setWarning b).channels = s.channels := by cases s; rfl
@[simp] theorem State.setWarning_trackers (b : Bool) : (s.setWarning b).trackers = s.trackers := by cases s; rfl
@[simp] theorem State.setWarning_timebases (b : Bool) : (s.setWarning b).timebases = s.timebases := by cases s; rfl
@[simp] theorem State.setWarning_sampleIndex (b : Bool) : (s.setWarning b).sampleIndex = s.sampleIndex := by cases s; rfl
@[simp] theorem State.setWarning_selector (b : Bool) : (s.setWarning b).selector = s.selector := by cases s; rfl
@[simp] theorem State.setWarning_accounts (b : Bool) : (s.setWarning b).accounts = s.accounts := by cases s; rfl
@[simp] theorem State.setWarning_clock (b : Bool) : (s.setWarning b).clock = s.clock := by cases s; rfl
@[simp] theorem State.setWarning_queue (b : Bool) : (s.setWarning b).queue = s.queue := by cases s; rfl
@[simp] theorem State.setWarning_archive (b : Bool) : (s.setWarning b).archive = s.archive := by cases s; rfl
@[simp] theorem State.setWarning_tie (b : Bool) : (s.setWarning b).tie = s.tie := by cases s; rfl
@[simp] theorem State.setWarning_msg (b : Bool) : (s.setWarning b).msg = s.msg := by cases s; rfl
@[simp] theorem State.setWarning_notices (b : Bool) : (s.setWarning b).notices = s.notices := by cases s; rfl
@[simp] theorem State.setWarning_draws (b : Bool) : (s.setWarning b).draws = s.draws := by cases s; rfl
@[simp] theorem State.setWarning_stopped (b : Bool) : (s.setWarning b).stopped = s.stopped := by simp [State.stopped]

/-! `State.setLength` -/

@[simp] theorem State.setLength_pending (n : Nat) : (s.setLength n).pending = s.pending := by cases s; rfl
@[simp] theorem State.setLength_resetLine (n : Nat) : (s.setLength n).resetLine = s.resetLine := by cases s; rfl
@[simp] theorem State.setLength_unpowered (n : Nat) : (s.setLength n).unpowered = s.unpowered := by cases s; rfl
@[simp] theorem State.setLength_warning (n : Nat) : (s.setLength n).warning = s.warning := by cases s; rfl
@[simp] theorem State.setLength_op (n : Nat) : (s.setLength n).op = s.op := by cases s; rfl
@[simp] theorem State.setLength_path (n : Nat) : (s.setLength n).path = s.path := by cases s; rfl
@[simp] theorem State.setLength_nv (n : Nat) : (s.setLength n).nv = s.nv := by cases s; rfl
@[simp] theorem State.setLength_settings (n : Nat) : (s.setLength n).settings = s.settings := by cases s; rfl
@[simp] theorem State.setLength_store (n : Nat) : (s.setLength n).store = s.store := by cases s; rfl
@[simp] theorem State.setLength_lanes (n : Nat) : (s.setLength n).lanes = s.lanes := by cases s; rfl
@[simp] theorem State.setLength_channels (n : Nat) : (s.setLength n).channels = s.channels := by cases s; rfl
@[simp] theorem State.setLength_trackers (n : Nat) : (s.setLength n).trackers = s.trackers := by cases s; rfl
@[simp] theorem State.setLength_timebases (n : Nat) : (s.setLength n).timebases = s.timebases := by cases s; rfl
@[simp] theorem State.setLength_sampleIndex (n : Nat) : (s.setLength n).sampleIndex = s.sampleIndex := by cases s; rfl
@[simp] theorem State.setLength_selector (n : Nat) : (s.setLength n).selector = s.selector := by cases s; rfl
@[simp] theorem State.setLength_accounts (n : Nat) : (s.setLength n).accounts = s.accounts := by cases s; rfl
@[simp] theorem State.setLength_clock (n : Nat) : (s.setLength n).clock = { s.clock with pendingLength := if n = s.clock.length then none else some n } := by cases s; rfl
@[simp] theorem State.setLength_queue (n : Nat) : (s.setLength n).queue = s.queue := by cases s; rfl
@[simp] theorem State.setLength_archive (n : Nat) : (s.setLength n).archive = s.archive := by cases s; rfl
@[simp] theorem State.setLength_tie (n : Nat) : (s.setLength n).tie = s.tie := by cases s; rfl
@[simp] theorem State.setLength_msg (n : Nat) : (s.setLength n).msg = s.msg := by cases s; rfl
@[simp] theorem State.setLength_notices (n : Nat) : (s.setLength n).notices = s.notices := by cases s; rfl
@[simp] theorem State.setLength_draws (n : Nat) : (s.setLength n).draws = s.draws := by cases s; rfl
@[simp] theorem State.setLength_stopped (n : Nat) : (s.setLength n).stopped = s.stopped := by simp [State.stopped]

/-! `State.refreshLocks` -/

@[simp] theorem State.refreshLocks_pending : (s.refreshLocks).pending = s.pending := by cases s; rfl
@[simp] theorem State.refreshLocks_resetLine : (s.refreshLocks).resetLine = s.resetLine := by cases s; rfl
@[simp] theorem State.refreshLocks_unpowered : (s.refreshLocks).unpowered = s.unpowered := by cases s; rfl
@[simp] theorem State.refreshLocks_warning : (s.refreshLocks).warning = s.warning := by cases s; rfl
@[simp] theorem State.refreshLocks_op : (s.refreshLocks).op = s.op := by cases s; rfl
@[simp] theorem State.refreshLocks_path : (s.refreshLocks).path = s.path := by cases s; rfl
@[simp] theorem State.refreshLocks_nv : (s.refreshLocks).nv = s.nv := by cases s; rfl
@[simp] theorem State.refreshLocks_settings : (s.refreshLocks).settings = s.settings := by cases s; rfl
@[simp] theorem State.refreshLocks_store : (s.refreshLocks).store = s.store := by cases s; rfl
@[simp] theorem State.refreshLocks_lanes : (s.refreshLocks).lanes = s.lanes := by cases s; rfl
@[simp] theorem State.refreshLocks_channels : (s.refreshLocks).channels = s.channels := by cases s; rfl
@[simp] theorem State.refreshLocks_trackers : (s.refreshLocks).trackers = s.trackers := by cases s; rfl
@[simp] theorem State.refreshLocks_sampleIndex : (s.refreshLocks).sampleIndex = s.sampleIndex := by cases s; rfl
@[simp] theorem State.refreshLocks_selector : (s.refreshLocks).selector = s.selector := by cases s; rfl
@[simp] theorem State.refreshLocks_accounts : (s.refreshLocks).accounts = s.accounts := by cases s; rfl
@[simp] theorem State.refreshLocks_clock : (s.refreshLocks).clock = s.clock := by cases s; rfl
@[simp] theorem State.refreshLocks_queue : (s.refreshLocks).queue = s.queue := by cases s; rfl
@[simp] theorem State.refreshLocks_archive : (s.refreshLocks).archive = s.archive := by cases s; rfl
@[simp] theorem State.refreshLocks_tie : (s.refreshLocks).tie = s.tie := by cases s; rfl
@[simp] theorem State.refreshLocks_msg : (s.refreshLocks).msg = s.msg := by cases s; rfl
@[simp] theorem State.refreshLocks_notices : (s.refreshLocks).notices = s.notices := by cases s; rfl
@[simp] theorem State.refreshLocks_draws : (s.refreshLocks).draws = s.draws := by cases s; rfl
@[simp] theorem State.refreshLocks_stopped : (s.refreshLocks).stopped = s.stopped := by simp [State.stopped]

/-! `State.arrangeTrackers` -/

@[simp] theorem State.arrangeTrackers_pending (a : Arrangement) : (s.arrangeTrackers a).pending = s.pending := by simp [State.arrangeTrackers]
@[simp] theorem State.arrangeTrackers_resetLine (a : Arrangement) : (s.arrangeTrackers a).resetLine = s.resetLine := by simp [State.arrangeTrackers]
@[simp] theorem State.arrangeTrackers_unpowered (a : Arrangement) : (s.arrangeTrackers a).unpowered = s.unpowered := by simp [State.arrangeTrackers]
@[simp] theorem State.arrangeTrackers_warning (a : Arrangement) : (s.arrangeTrackers a).warning = s.warning := by simp [State.arrangeTrackers]
@[simp] theorem State.arrangeTrackers_op (a : Arrangement) : (s.arrangeTrackers a).op = s.op := by simp [State.arrangeTrackers]
@[simp] theorem State.arrangeTrackers_path (a : Arrangement) : (s.arrangeTrackers a).path = s.path := by simp [State.arrangeTrackers]
@[simp] theorem State.arrangeTrackers_nv (a : Arrangement) : (s.arrangeTrackers a).nv = s.nv := by simp [State.arrangeTrackers]
@[simp] theorem State.arrangeTrackers_settings (a : Arrangement) : (s.arrangeTrackers a).settings = s.settings := by simp [State.arrangeTrackers]
@[simp] theorem State.arrangeTrackers_store (a : Arrangement) : (s.arrangeTrackers a).store = s.store := by simp [State.arrangeTrackers]
@[simp] theorem State.arrangeTrackers_lanes (a : Arrangement) : (s.arrangeTrackers a).lanes = s.lanes := by simp [State.arrangeTrackers]
@[simp] theorem State.arrangeTrackers_channels (a : Arrangement) : (s.arrangeTrackers a).channels = s.channels := by simp [State.arrangeTrackers]
@[simp] theorem State.arrangeTrackers_sampleIndex (a : Arrangement) : (s.arrangeTrackers a).sampleIndex = s.sampleIndex := by simp [State.arrangeTrackers]
@[simp] theorem State.arrangeTrackers_selector (a : Arrangement) : (s.arrangeTrackers a).selector = s.selector := by simp [State.arrangeTrackers]
@[simp] theorem State.arrangeTrackers_accounts (a : Arrangement) : (s.arrangeTrackers a).accounts = s.accounts := by simp [State.arrangeTrackers]
@[simp] theorem State.arrangeTrackers_clock (a : Arrangement) : (s.arrangeTrackers a).clock = s.clock := by simp [State.arrangeTrackers]
@[simp] theorem State.arrangeTrackers_queue (a : Arrangement) : (s.arrangeTrackers a).queue = s.queue := by simp [State.arrangeTrackers]
@[simp] theorem State.arrangeTrackers_archive (a : Arrangement) : (s.arrangeTrackers a).archive = s.archive := by simp [State.arrangeTrackers]
@[simp] theorem State.arrangeTrackers_tie (a : Arrangement) : (s.arrangeTrackers a).tie = s.tie := by simp [State.arrangeTrackers]
@[simp] theorem State.arrangeTrackers_msg (a : Arrangement) : (s.arrangeTrackers a).msg = s.msg := by simp [State.arrangeTrackers]
@[simp] theorem State.arrangeTrackers_draws (a : Arrangement) : (s.arrangeTrackers a).draws = s.draws := by simp [State.arrangeTrackers]
@[simp] theorem State.arrangeTrackers_stopped (a : Arrangement) : (s.arrangeTrackers a).stopped = s.stopped := by simp [State.stopped]

/-! `State.openRestartPage` -/

@[simp] theorem State.openRestartPage_pending (p : Path) : (s.openRestartPage p).pending = s.pending := by simp [State.openRestartPage]
@[simp] theorem State.openRestartPage_resetLine (p : Path) : (s.openRestartPage p).resetLine = s.resetLine := by simp [State.openRestartPage]
@[simp] theorem State.openRestartPage_unpowered (p : Path) : (s.openRestartPage p).unpowered = s.unpowered := by simp [State.openRestartPage]
@[simp] theorem State.openRestartPage_warning (p : Path) : (s.openRestartPage p).warning = s.warning := by simp [State.openRestartPage]
@[simp] theorem State.openRestartPage_op (p : Path) : (s.openRestartPage p).op = s.op := by simp [State.openRestartPage]
@[simp] theorem State.openRestartPage_path (p : Path) : (s.openRestartPage p).path = s.path := by simp [State.openRestartPage]
@[simp] theorem State.openRestartPage_nv (p : Path) : (s.openRestartPage p).nv = s.nv := by simp [State.openRestartPage]
@[simp] theorem State.openRestartPage_settings (p : Path) : (s.openRestartPage p).settings = s.settings := by simp [State.openRestartPage]
@[simp] theorem State.openRestartPage_store (p : Path) : (s.openRestartPage p).store = s.store := by simp [State.openRestartPage]
@[simp] theorem State.openRestartPage_lanes (p : Path) : (s.openRestartPage p).lanes = s.lanes := by simp [State.openRestartPage]
@[simp] theorem State.openRestartPage_channels (p : Path) : (s.openRestartPage p).channels = s.channels := by simp [State.openRestartPage]
@[simp] theorem State.openRestartPage_trackers (p : Path) : (s.openRestartPage p).trackers = s.trackers := by simp [State.openRestartPage]
@[simp] theorem State.openRestartPage_timebases (p : Path) : (s.openRestartPage p).timebases = s.timebases := by simp [State.openRestartPage]
@[simp] theorem State.openRestartPage_sampleIndex (p : Path) : (s.openRestartPage p).sampleIndex = s.sampleIndex := by simp [State.openRestartPage]
@[simp] theorem State.openRestartPage_selector (p : Path) : (s.openRestartPage p).selector = s.selector := by simp [State.openRestartPage]
@[simp] theorem State.openRestartPage_accounts (p : Path) : (s.openRestartPage p).accounts = s.accounts := by simp [State.openRestartPage]
@[simp] theorem State.openRestartPage_clock (p : Path) : (s.openRestartPage p).clock = s.clock := by simp [State.openRestartPage]
@[simp] theorem State.openRestartPage_queue (p : Path) : (s.openRestartPage p).queue = s.queue := by simp [State.openRestartPage]
@[simp] theorem State.openRestartPage_archive (p : Path) : (s.openRestartPage p).archive = s.archive := by simp [State.openRestartPage]
@[simp] theorem State.openRestartPage_tie (p : Path) : (s.openRestartPage p).tie = { s.tie with restartOpen := s.tie.restartOpen || (p == .restart && s.tie.state == .pairedPrimary) } := by simp [State.openRestartPage]
@[simp] theorem State.openRestartPage_msg (p : Path) : (s.openRestartPage p).msg = s.msg := by simp [State.openRestartPage]
@[simp] theorem State.openRestartPage_notices (p : Path) : (s.openRestartPage p).notices = s.notices := by simp [State.openRestartPage]
@[simp] theorem State.openRestartPage_draws (p : Path) : (s.openRestartPage p).draws = s.draws := by simp [State.openRestartPage]
@[simp] theorem State.openRestartPage_stopped (p : Path) : (s.openRestartPage p).stopped = s.stopped := by simp [State.stopped]

/-! `State.tickClock` -/

@[simp] theorem State.tickClock_pending : (s.tickClock).pending = s.pending := by cases s; rfl
@[simp] theorem State.tickClock_resetLine : (s.tickClock).resetLine = s.resetLine := by cases s; rfl
@[simp] theorem State.tickClock_unpowered : (s.tickClock).unpowered = s.unpowered := by cases s; rfl
@[simp] theorem State.tickClock_warning : (s.tickClock).warning = s.warning := by cases s; rfl
@[simp] theorem State.tickClock_op : (s.tickClock).op = s.op := by cases s; rfl
@[simp] theorem State.tickClock_path : (s.tickClock).path = s.path := by cases s; rfl
@[simp] theorem State.tickClock_nv : (s.tickClock).nv = s.nv := by cases s; rfl
@[simp] theorem State.tickClock_settings : (s.tickClock).settings = s.settings := by cases s; rfl
@[simp] theorem State.tickClock_store : (s.tickClock).store = s.store := by cases s; rfl
@[simp] theorem State.tickClock_lanes : (s.tickClock).lanes = s.lanes := by cases s; rfl
@[simp] theorem State.tickClock_channels : (s.tickClock).channels = s.channels := by cases s; rfl
@[simp] theorem State.tickClock_trackers : (s.tickClock).trackers = s.trackers := by cases s; rfl
@[simp] theorem State.tickClock_timebases : (s.tickClock).timebases = s.timebases := by cases s; rfl
@[simp] theorem State.tickClock_sampleIndex : (s.tickClock).sampleIndex = s.sampleIndex := by cases s; rfl
@[simp] theorem State.tickClock_selector : (s.tickClock).selector = s.selector := by cases s; rfl
@[simp] theorem State.tickClock_accounts : (s.tickClock).accounts = s.accounts := by cases s; rfl
@[simp] theorem State.tickClock_clock : (s.tickClock).clock = { s.clock with position := min s.clock.samples (s.clock.position + 1), closeReady := s.clock.samples ≤ s.clock.position + 1 && s.tie.state != .pairedSecondary } := by cases s; rfl
@[simp] theorem State.tickClock_queue : (s.tickClock).queue = s.queue := by cases s; rfl
@[simp] theorem State.tickClock_archive : (s.tickClock).archive = s.archive := by cases s; rfl
@[simp] theorem State.tickClock_tie : (s.tickClock).tie = s.tie := by cases s; rfl
@[simp] theorem State.tickClock_msg : (s.tickClock).msg = s.msg := by cases s; rfl
@[simp] theorem State.tickClock_notices : (s.tickClock).notices = s.notices := by cases s; rfl
@[simp] theorem State.tickClock_draws : (s.tickClock).draws = s.draws := by cases s; rfl
@[simp] theorem State.tickClock_stopped : (s.tickClock).stopped = s.stopped := by simp [State.stopped]

/-! `State.latchIf` -/

@[simp] theorem State.latchIf_pending (b : Bool) (x : Notice) : (s.latchIf b x).pending = s.pending := by
  unfold State.latchIf; split <;> rfl
@[simp] theorem State.latchIf_resetLine (b : Bool) (x : Notice) : (s.latchIf b x).resetLine = s.resetLine := by
  unfold State.latchIf; split <;> rfl
@[simp] theorem State.latchIf_unpowered (b : Bool) (x : Notice) : (s.latchIf b x).unpowered = s.unpowered := by
  unfold State.latchIf; split <;> rfl
@[simp] theorem State.latchIf_warning (b : Bool) (x : Notice) : (s.latchIf b x).warning = s.warning := by
  unfold State.latchIf; split <;> rfl
@[simp] theorem State.latchIf_op (b : Bool) (x : Notice) : (s.latchIf b x).op = s.op := by
  unfold State.latchIf; split <;> rfl
@[simp] theorem State.latchIf_path (b : Bool) (x : Notice) : (s.latchIf b x).path = s.path := by
  unfold State.latchIf; split <;> rfl
@[simp] theorem State.latchIf_nv (b : Bool) (x : Notice) : (s.latchIf b x).nv = s.nv := by
  unfold State.latchIf; split <;> rfl
@[simp] theorem State.latchIf_settings (b : Bool) (x : Notice) : (s.latchIf b x).settings = s.settings := by
  unfold State.latchIf; split <;> rfl
@[simp] theorem State.latchIf_store (b : Bool) (x : Notice) : (s.latchIf b x).store = s.store := by
  unfold State.latchIf; split <;> rfl
@[simp] theorem State.latchIf_lanes (b : Bool) (x : Notice) : (s.latchIf b x).lanes = s.lanes := by
  unfold State.latchIf; split <;> rfl
@[simp] theorem State.latchIf_channels (b : Bool) (x : Notice) : (s.latchIf b x).channels = s.channels := by
  unfold State.latchIf; split <;> rfl
@[simp] theorem State.latchIf_trackers (b : Bool) (x : Notice) : (s.latchIf b x).trackers = s.trackers := by
  unfold State.latchIf; split <;> rfl
@[simp] theorem State.latchIf_timebases (b : Bool) (x : Notice) : (s.latchIf b x).timebases = s.timebases := by
  unfold State.latchIf; split <;> rfl
@[simp] theorem State.latchIf_sampleIndex (b : Bool) (x : Notice) : (s.latchIf b x).sampleIndex = s.sampleIndex := by
  unfold State.latchIf; split <;> rfl
@[simp] theorem State.latchIf_selector (b : Bool) (x : Notice) : (s.latchIf b x).selector = s.selector := by
  unfold State.latchIf; split <;> rfl
@[simp] theorem State.latchIf_accounts (b : Bool) (x : Notice) : (s.latchIf b x).accounts = s.accounts := by
  unfold State.latchIf; split <;> rfl
@[simp] theorem State.latchIf_clock (b : Bool) (x : Notice) : (s.latchIf b x).clock = s.clock := by
  unfold State.latchIf; split <;> rfl
@[simp] theorem State.latchIf_queue (b : Bool) (x : Notice) : (s.latchIf b x).queue = s.queue := by
  unfold State.latchIf; split <;> rfl
@[simp] theorem State.latchIf_archive (b : Bool) (x : Notice) : (s.latchIf b x).archive = s.archive := by
  unfold State.latchIf; split <;> rfl
@[simp] theorem State.latchIf_tie (b : Bool) (x : Notice) : (s.latchIf b x).tie = s.tie := by
  unfold State.latchIf; split <;> rfl
@[simp] theorem State.latchIf_msg (b : Bool) (x : Notice) : (s.latchIf b x).msg = s.msg := by
  unfold State.latchIf; split <;> rfl
@[simp] theorem State.latchIf_draws (b : Bool) (x : Notice) : (s.latchIf b x).draws = s.draws := by
  unfold State.latchIf; split <;> rfl
@[simp] theorem State.latchIf_stopped (b : Bool) (x : Notice) : (s.latchIf b x).stopped = s.stopped := by simp [State.stopped]

/-! `State.setTracker` -/

@[simp] theorem State.setTracker_pending (v : Fin 2) (t : Tracker) : (s.setTracker v t).pending = s.pending := by
  simp [State.setTracker]
@[simp] theorem State.setTracker_resetLine (v : Fin 2) (t : Tracker) : (s.setTracker v t).resetLine = s.resetLine := by
  simp [State.setTracker]
@[simp] theorem State.setTracker_unpowered (v : Fin 2) (t : Tracker) : (s.setTracker v t).unpowered = s.unpowered := by
  simp [State.setTracker]
@[simp] theorem State.setTracker_warning (v : Fin 2) (t : Tracker) : (s.setTracker v t).warning = s.warning := by
  simp [State.setTracker]
@[simp] theorem State.setTracker_op (v : Fin 2) (t : Tracker) : (s.setTracker v t).op = s.op := by
  simp [State.setTracker]
@[simp] theorem State.setTracker_path (v : Fin 2) (t : Tracker) : (s.setTracker v t).path = s.path := by
  simp [State.setTracker]
@[simp] theorem State.setTracker_nv (v : Fin 2) (t : Tracker) : (s.setTracker v t).nv = s.nv := by
  simp [State.setTracker]
@[simp] theorem State.setTracker_settings (v : Fin 2) (t : Tracker) : (s.setTracker v t).settings = s.settings := by
  simp [State.setTracker]
@[simp] theorem State.setTracker_store (v : Fin 2) (t : Tracker) : (s.setTracker v t).store = s.store := by
  simp [State.setTracker]
@[simp] theorem State.setTracker_lanes (v : Fin 2) (t : Tracker) : (s.setTracker v t).lanes = s.lanes := by
  simp [State.setTracker]
@[simp] theorem State.setTracker_channels (v : Fin 2) (t : Tracker) : (s.setTracker v t).channels = s.channels := by
  simp [State.setTracker]
@[simp] theorem State.setTracker_sampleIndex (v : Fin 2) (t : Tracker) : (s.setTracker v t).sampleIndex = s.sampleIndex := by
  simp [State.setTracker]
@[simp] theorem State.setTracker_selector (v : Fin 2) (t : Tracker) : (s.setTracker v t).selector = s.selector := by
  simp [State.setTracker]
@[simp] theorem State.setTracker_accounts (v : Fin 2) (t : Tracker) : (s.setTracker v t).accounts = s.accounts := by
  simp [State.setTracker]
@[simp] theorem State.setTracker_clock (v : Fin 2) (t : Tracker) : (s.setTracker v t).clock = s.clock := by
  simp [State.setTracker]
@[simp] theorem State.setTracker_queue (v : Fin 2) (t : Tracker) : (s.setTracker v t).queue = s.queue := by
  simp [State.setTracker]
@[simp] theorem State.setTracker_archive (v : Fin 2) (t : Tracker) : (s.setTracker v t).archive = s.archive := by
  simp [State.setTracker]
@[simp] theorem State.setTracker_tie (v : Fin 2) (t : Tracker) : (s.setTracker v t).tie = s.tie := by
  simp [State.setTracker]
@[simp] theorem State.setTracker_msg (v : Fin 2) (t : Tracker) : (s.setTracker v t).msg = s.msg := by
  simp [State.setTracker]
@[simp] theorem State.setTracker_draws (v : Fin 2) (t : Tracker) : (s.setTracker v t).draws = s.draws := by
  simp [State.setTracker]
@[simp] theorem State.setTracker_stopped (v : Fin 2) (t : Tracker) : (s.setTracker v t).stopped = s.stopped := by simp [State.stopped]

/-! `State.contribute` -/

@[simp] theorem State.contribute_pending (a : Fin 16) (c : Contribution) (p : Fin 8) : (s.contribute a c p).pending = s.pending := by
  simp [State.contribute]
@[simp] theorem State.contribute_resetLine (a : Fin 16) (c : Contribution) (p : Fin 8) : (s.contribute a c p).resetLine = s.resetLine := by
  simp [State.contribute]
@[simp] theorem State.contribute_unpowered (a : Fin 16) (c : Contribution) (p : Fin 8) : (s.contribute a c p).unpowered = s.unpowered := by
  simp [State.contribute]
@[simp] theorem State.contribute_warning (a : Fin 16) (c : Contribution) (p : Fin 8) : (s.contribute a c p).warning = s.warning := by
  simp [State.contribute]
@[simp] theorem State.contribute_op (a : Fin 16) (c : Contribution) (p : Fin 8) : (s.contribute a c p).op = s.op := by
  simp [State.contribute]
@[simp] theorem State.contribute_path (a : Fin 16) (c : Contribution) (p : Fin 8) : (s.contribute a c p).path = s.path := by
  simp [State.contribute]
@[simp] theorem State.contribute_nv (a : Fin 16) (c : Contribution) (p : Fin 8) : (s.contribute a c p).nv = s.nv := by
  simp [State.contribute]
@[simp] theorem State.contribute_settings (a : Fin 16) (c : Contribution) (p : Fin 8) : (s.contribute a c p).settings = s.settings := by
  simp [State.contribute]
@[simp] theorem State.contribute_store (a : Fin 16) (c : Contribution) (p : Fin 8) : (s.contribute a c p).store = s.store := by
  simp [State.contribute]
@[simp] theorem State.contribute_lanes (a : Fin 16) (c : Contribution) (p : Fin 8) : (s.contribute a c p).lanes = s.lanes := by
  simp [State.contribute]
@[simp] theorem State.contribute_channels (a : Fin 16) (c : Contribution) (p : Fin 8) : (s.contribute a c p).channels = s.channels := by
  simp [State.contribute]
@[simp] theorem State.contribute_trackers (a : Fin 16) (c : Contribution) (p : Fin 8) : (s.contribute a c p).trackers = s.trackers := by
  simp [State.contribute]
@[simp] theorem State.contribute_timebases (a : Fin 16) (c : Contribution) (p : Fin 8) : (s.contribute a c p).timebases = s.timebases := by
  simp [State.contribute]
@[simp] theorem State.contribute_sampleIndex (a : Fin 16) (c : Contribution) (p : Fin 8) : (s.contribute a c p).sampleIndex = s.sampleIndex := by
  simp [State.contribute]
@[simp] theorem State.contribute_selector (a : Fin 16) (c : Contribution) (p : Fin 8) : (s.contribute a c p).selector = s.selector := by
  simp [State.contribute]
@[simp] theorem State.contribute_clock (a : Fin 16) (c : Contribution) (p : Fin 8) : (s.contribute a c p).clock = s.clock := by
  simp [State.contribute]
@[simp] theorem State.contribute_queue (a : Fin 16) (c : Contribution) (p : Fin 8) : (s.contribute a c p).queue = s.queue := by
  simp [State.contribute]
@[simp] theorem State.contribute_archive (a : Fin 16) (c : Contribution) (p : Fin 8) : (s.contribute a c p).archive = s.archive := by
  simp [State.contribute]
@[simp] theorem State.contribute_tie (a : Fin 16) (c : Contribution) (p : Fin 8) : (s.contribute a c p).tie = s.tie := by
  simp [State.contribute]
@[simp] theorem State.contribute_msg (a : Fin 16) (c : Contribution) (p : Fin 8) : (s.contribute a c p).msg = s.msg := by
  simp [State.contribute]
@[simp] theorem State.contribute_draws (a : Fin 16) (c : Contribution) (p : Fin 8) : (s.contribute a c p).draws = s.draws := by
  simp [State.contribute]
@[simp] theorem State.contribute_stopped (a : Fin 16) (c : Contribution) (p : Fin 8) : (s.contribute a c p).stopped = s.stopped := by simp [State.stopped]

/-! `State.handClose` -/

@[simp] theorem State.handClose_pending (r : Option CloseReason) : (s.handClose r).pending = s.pending := by
  unfold State.handClose; split <;> rfl
@[simp] theorem State.handClose_resetLine (r : Option CloseReason) : (s.handClose r).resetLine = s.resetLine := by
  unfold State.handClose; split <;> rfl
@[simp] theorem State.handClose_unpowered (r : Option CloseReason) : (s.handClose r).unpowered = s.unpowered := by
  unfold State.handClose; split <;> rfl
@[simp] theorem State.handClose_warning (r : Option CloseReason) : (s.handClose r).warning = s.warning := by
  unfold State.handClose; split <;> rfl
@[simp] theorem State.handClose_op (r : Option CloseReason) : (s.handClose r).op = s.op := by
  unfold State.handClose; split <;> rfl
@[simp] theorem State.handClose_path (r : Option CloseReason) : (s.handClose r).path = s.path := by
  unfold State.handClose; split <;> rfl
@[simp] theorem State.handClose_nv (r : Option CloseReason) : (s.handClose r).nv = s.nv := by
  unfold State.handClose; split <;> rfl
@[simp] theorem State.handClose_settings (r : Option CloseReason) : (s.handClose r).settings = s.settings := by
  unfold State.handClose; split <;> rfl
@[simp] theorem State.handClose_store (r : Option CloseReason) : (s.handClose r).store = s.store := by
  unfold State.handClose; split <;> rfl
@[simp] theorem State.handClose_lanes (r : Option CloseReason) : (s.handClose r).lanes = s.lanes := by
  unfold State.handClose; split <;> rfl
@[simp] theorem State.handClose_channels (r : Option CloseReason) : (s.handClose r).channels = s.channels := by
  unfold State.handClose; split <;> rfl
@[simp] theorem State.handClose_trackers (r : Option CloseReason) : (s.handClose r).trackers = s.trackers := by
  unfold State.handClose; split <;> rfl
@[simp] theorem State.handClose_timebases (r : Option CloseReason) : (s.handClose r).timebases = s.timebases := by
  unfold State.handClose; split <;> rfl
@[simp] theorem State.handClose_sampleIndex (r : Option CloseReason) : (s.handClose r).sampleIndex = s.sampleIndex := by
  unfold State.handClose; split <;> rfl
@[simp] theorem State.handClose_selector (r : Option CloseReason) : (s.handClose r).selector = s.selector := by
  unfold State.handClose; split <;> rfl
@[simp] theorem State.handClose_accounts (r : Option CloseReason) : (s.handClose r).accounts = s.accounts := by
  unfold State.handClose; split <;> rfl
@[simp] theorem State.handClose_clock (r : Option CloseReason) : (s.handClose r).clock = s.clock := by
  unfold State.handClose; split <;> rfl
@[simp] theorem State.handClose_queue (r : Option CloseReason) : (s.handClose r).queue = s.queue := by
  unfold State.handClose; split <;> rfl
@[simp] theorem State.handClose_archive (r : Option CloseReason) : (s.handClose r).archive = s.archive := by
  unfold State.handClose; split <;> rfl
@[simp] theorem State.handClose_msg (r : Option CloseReason) : (s.handClose r).msg = s.msg := by
  unfold State.handClose; split <;> rfl
@[simp] theorem State.handClose_notices (r : Option CloseReason) : (s.handClose r).notices = s.notices := by
  unfold State.handClose; split <;> rfl
@[simp] theorem State.handClose_draws (r : Option CloseReason) : (s.handClose r).draws = s.draws := by
  unfold State.handClose; split <;> rfl
@[simp] theorem State.handClose_stopped (r : Option CloseReason) : (s.handClose r).stopped = s.stopped := by simp [State.stopped]

/-! `State.becomeHeld` -/

@[simp] theorem State.becomeHeld_pending : (s.becomeHeld).pending = s.pending := by
  simp [State.becomeHeld]
@[simp] theorem State.becomeHeld_resetLine : (s.becomeHeld).resetLine = s.resetLine := by
  simp [State.becomeHeld]
@[simp] theorem State.becomeHeld_unpowered : (s.becomeHeld).unpowered = s.unpowered := by
  simp [State.becomeHeld]
@[simp] theorem State.becomeHeld_warning : (s.becomeHeld).warning = s.warning := by
  simp [State.becomeHeld]
@[simp] theorem State.becomeHeld_op : (s.becomeHeld).op = s.op := by
  simp [State.becomeHeld]
@[simp] theorem State.becomeHeld_path : (s.becomeHeld).path = s.path := by
  simp [State.becomeHeld]
@[simp] theorem State.becomeHeld_nv : (s.becomeHeld).nv = s.nv := by
  simp [State.becomeHeld]
@[simp] theorem State.becomeHeld_settings : (s.becomeHeld).settings = s.settings := by
  simp [State.becomeHeld]
@[simp] theorem State.becomeHeld_store : (s.becomeHeld).store = s.store := by
  simp [State.becomeHeld]
@[simp] theorem State.becomeHeld_lanes : (s.becomeHeld).lanes = s.lanes := by
  simp [State.becomeHeld]
@[simp] theorem State.becomeHeld_channels : (s.becomeHeld).channels = s.channels := by
  simp [State.becomeHeld]
@[simp] theorem State.becomeHeld_trackers : (s.becomeHeld).trackers = s.trackers := by
  simp [State.becomeHeld]
@[simp] theorem State.becomeHeld_timebases : (s.becomeHeld).timebases = s.timebases := by
  simp [State.becomeHeld]
@[simp] theorem State.becomeHeld_sampleIndex : (s.becomeHeld).sampleIndex = s.sampleIndex := by
  simp [State.becomeHeld]
@[simp] theorem State.becomeHeld_selector : (s.becomeHeld).selector = s.selector := by
  simp [State.becomeHeld]
@[simp] theorem State.becomeHeld_accounts : (s.becomeHeld).accounts = s.accounts := by
  simp [State.becomeHeld]
@[simp] theorem State.becomeHeld_clock : (s.becomeHeld).clock = s.clock := by
  simp [State.becomeHeld]
@[simp] theorem State.becomeHeld_queue : (s.becomeHeld).queue = s.queue := by
  simp [State.becomeHeld]
@[simp] theorem State.becomeHeld_tie : (s.becomeHeld).tie = s.tie := by
  simp [State.becomeHeld]
@[simp] theorem State.becomeHeld_msg : (s.becomeHeld).msg = s.msg := by
  simp [State.becomeHeld]
@[simp] theorem State.becomeHeld_draws : (s.becomeHeld).draws = s.draws := by
  simp [State.becomeHeld]
@[simp] theorem State.becomeHeld_stopped : (s.becomeHeld).stopped = s.stopped := by simp [State.stopped]

/-! `State.settleErase` -/

@[simp] theorem State.settleErase_pending : (s.settleErase).pending = s.pending := by
  unfold State.settleErase; split <;> split <;> rfl
@[simp] theorem State.settleErase_resetLine : (s.settleErase).resetLine = s.resetLine := by
  unfold State.settleErase; split <;> split <;> rfl
@[simp] theorem State.settleErase_unpowered : (s.settleErase).unpowered = s.unpowered := by
  unfold State.settleErase; split <;> split <;> rfl
@[simp] theorem State.settleErase_warning : (s.settleErase).warning = s.warning := by
  unfold State.settleErase; split <;> split <;> rfl
@[simp] theorem State.settleErase_op : (s.settleErase).op = s.op := by
  unfold State.settleErase; split <;> split <;> rfl
@[simp] theorem State.settleErase_path : (s.settleErase).path = s.path := by
  unfold State.settleErase; split <;> split <;> rfl
@[simp] theorem State.settleErase_nv : (s.settleErase).nv = s.nv := by
  unfold State.settleErase; split <;> split <;> rfl
@[simp] theorem State.settleErase_settings : (s.settleErase).settings = s.settings := by
  unfold State.settleErase; split <;> split <;> rfl
@[simp] theorem State.settleErase_store : (s.settleErase).store = s.store := by
  unfold State.settleErase; split <;> split <;> rfl
@[simp] theorem State.settleErase_lanes : (s.settleErase).lanes = s.lanes := by
  unfold State.settleErase; split <;> split <;> rfl
@[simp] theorem State.settleErase_channels : (s.settleErase).channels = s.channels := by
  unfold State.settleErase; split <;> split <;> rfl
@[simp] theorem State.settleErase_trackers : (s.settleErase).trackers = s.trackers := by
  unfold State.settleErase; split <;> split <;> rfl
@[simp] theorem State.settleErase_timebases : (s.settleErase).timebases = s.timebases := by
  unfold State.settleErase; split <;> split <;> rfl
@[simp] theorem State.settleErase_sampleIndex : (s.settleErase).sampleIndex = s.sampleIndex := by
  unfold State.settleErase; split <;> split <;> rfl
@[simp] theorem State.settleErase_selector : (s.settleErase).selector = s.selector := by
  unfold State.settleErase; split <;> split <;> rfl
@[simp] theorem State.settleErase_accounts : (s.settleErase).accounts = s.accounts := by
  unfold State.settleErase; split <;> split <;> rfl
@[simp] theorem State.settleErase_clock : (s.settleErase).clock = s.clock := by
  unfold State.settleErase; split <;> split <;> rfl
@[simp] theorem State.settleErase_queue : (s.settleErase).queue = s.queue := by
  unfold State.settleErase; split <;> split <;> rfl
@[simp] theorem State.settleErase_tie : (s.settleErase).tie = s.tie := by
  unfold State.settleErase; split <;> split <;> rfl
@[simp] theorem State.settleErase_msg : (s.settleErase).msg = s.msg := by
  unfold State.settleErase; split <;> split <;> rfl
@[simp] theorem State.settleErase_notices : (s.settleErase).notices = s.notices := by
  unfold State.settleErase; split <;> split <;> rfl
@[simp] theorem State.settleErase_draws : (s.settleErase).draws = s.draws := by
  unfold State.settleErase; split <;> split <;> rfl
@[simp] theorem State.settleErase_stopped : (s.settleErase).stopped = s.stopped := by simp [State.stopped]

/-! `State.fillHead` -/

@[simp] theorem State.fillHead_pending : (s.fillHead).pending = s.pending := by
  unfold State.fillHead; split <;> rfl
@[simp] theorem State.fillHead_resetLine : (s.fillHead).resetLine = s.resetLine := by
  unfold State.fillHead; split <;> rfl
@[simp] theorem State.fillHead_unpowered : (s.fillHead).unpowered = s.unpowered := by
  unfold State.fillHead; split <;> rfl
@[simp] theorem State.fillHead_warning : (s.fillHead).warning = s.warning := by
  unfold State.fillHead; split <;> rfl
@[simp] theorem State.fillHead_op : (s.fillHead).op = s.op := by
  unfold State.fillHead; split <;> rfl
@[simp] theorem State.fillHead_path : (s.fillHead).path = s.path := by
  unfold State.fillHead; split <;> rfl
@[simp] theorem State.fillHead_settings : (s.fillHead).settings = s.settings := by
  unfold State.fillHead; split <;> rfl
@[simp] theorem State.fillHead_store : (s.fillHead).store = s.store := by
  unfold State.fillHead; split <;> rfl
@[simp] theorem State.fillHead_lanes : (s.fillHead).lanes = s.lanes := by
  unfold State.fillHead; split <;> rfl
@[simp] theorem State.fillHead_channels : (s.fillHead).channels = s.channels := by
  unfold State.fillHead; split <;> rfl
@[simp] theorem State.fillHead_trackers : (s.fillHead).trackers = s.trackers := by
  unfold State.fillHead; split <;> rfl
@[simp] theorem State.fillHead_timebases : (s.fillHead).timebases = s.timebases := by
  unfold State.fillHead; split <;> rfl
@[simp] theorem State.fillHead_sampleIndex : (s.fillHead).sampleIndex = s.sampleIndex := by
  unfold State.fillHead; split <;> rfl
@[simp] theorem State.fillHead_selector : (s.fillHead).selector = s.selector := by
  unfold State.fillHead; split <;> rfl
@[simp] theorem State.fillHead_accounts : (s.fillHead).accounts = s.accounts := by
  unfold State.fillHead; split <;> rfl
@[simp] theorem State.fillHead_clock : (s.fillHead).clock = s.clock := by
  unfold State.fillHead; split <;> rfl
@[simp] theorem State.fillHead_queue : (s.fillHead).queue = s.queue := by
  unfold State.fillHead; split <;> rfl
@[simp] theorem State.fillHead_archive : (s.fillHead).archive = s.archive := by
  unfold State.fillHead; split <;> rfl
@[simp] theorem State.fillHead_tie : (s.fillHead).tie = s.tie := by
  unfold State.fillHead; split <;> rfl
@[simp] theorem State.fillHead_msg : (s.fillHead).msg = s.msg := by
  unfold State.fillHead; split <;> rfl
@[simp] theorem State.fillHead_notices : (s.fillHead).notices = s.notices := by
  unfold State.fillHead; split <;> rfl
@[simp] theorem State.fillHead_draws : (s.fillHead).draws = s.draws := by
  unfold State.fillHead; split <;> rfl
@[simp] theorem State.fillHead_stopped : (s.fillHead).stopped = s.stopped := by simp [State.stopped]

/-! `State.reclaimTest` -/

@[simp] theorem State.reclaimTest_pending : (s.reclaimTest).pending = s.pending := by
  unfold State.reclaimTest; split <;> (try split) <;> (try split) <;> simp
@[simp] theorem State.reclaimTest_resetLine : (s.reclaimTest).resetLine = s.resetLine := by
  unfold State.reclaimTest; split <;> (try split) <;> (try split) <;> simp
@[simp] theorem State.reclaimTest_unpowered : (s.reclaimTest).unpowered = s.unpowered := by
  unfold State.reclaimTest; split <;> (try split) <;> (try split) <;> simp
@[simp] theorem State.reclaimTest_warning : (s.reclaimTest).warning = s.warning := by
  unfold State.reclaimTest; split <;> (try split) <;> (try split) <;> simp
@[simp] theorem State.reclaimTest_op : (s.reclaimTest).op = s.op := by
  unfold State.reclaimTest; split <;> (try split) <;> (try split) <;> simp
@[simp] theorem State.reclaimTest_path : (s.reclaimTest).path = s.path := by
  unfold State.reclaimTest; split <;> (try split) <;> (try split) <;> simp
@[simp] theorem State.reclaimTest_settings : (s.reclaimTest).settings = s.settings := by
  unfold State.reclaimTest; split <;> (try split) <;> (try split) <;> simp
@[simp] theorem State.reclaimTest_store : (s.reclaimTest).store = s.store := by
  unfold State.reclaimTest; split <;> (try split) <;> (try split) <;> simp
@[simp] theorem State.reclaimTest_lanes : (s.reclaimTest).lanes = s.lanes := by
  unfold State.reclaimTest; split <;> (try split) <;> (try split) <;> simp
@[simp] theorem State.reclaimTest_channels : (s.reclaimTest).channels = s.channels := by
  unfold State.reclaimTest; split <;> (try split) <;> (try split) <;> simp
@[simp] theorem State.reclaimTest_trackers : (s.reclaimTest).trackers = s.trackers := by
  unfold State.reclaimTest; split <;> (try split) <;> (try split) <;> simp
@[simp] theorem State.reclaimTest_timebases : (s.reclaimTest).timebases = s.timebases := by
  unfold State.reclaimTest; split <;> (try split) <;> (try split) <;> simp
@[simp] theorem State.reclaimTest_sampleIndex : (s.reclaimTest).sampleIndex = s.sampleIndex := by
  unfold State.reclaimTest; split <;> (try split) <;> (try split) <;> simp
@[simp] theorem State.reclaimTest_selector : (s.reclaimTest).selector = s.selector := by
  unfold State.reclaimTest; split <;> (try split) <;> (try split) <;> simp
@[simp] theorem State.reclaimTest_accounts : (s.reclaimTest).accounts = s.accounts := by
  unfold State.reclaimTest; split <;> (try split) <;> (try split) <;> simp
@[simp] theorem State.reclaimTest_clock : (s.reclaimTest).clock = s.clock := by
  unfold State.reclaimTest; split <;> (try split) <;> (try split) <;> simp
@[simp] theorem State.reclaimTest_queue : (s.reclaimTest).queue = s.queue := by
  unfold State.reclaimTest; split <;> (try split) <;> (try split) <;> simp
@[simp] theorem State.reclaimTest_tie : (s.reclaimTest).tie = s.tie := by
  unfold State.reclaimTest; split <;> (try split) <;> (try split) <;> simp
@[simp] theorem State.reclaimTest_msg : (s.reclaimTest).msg = s.msg := by
  unfold State.reclaimTest; split <;> (try split) <;> (try split) <;> simp
@[simp] theorem State.reclaimTest_draws : (s.reclaimTest).draws = s.draws := by
  unfold State.reclaimTest; split <;> (try split) <;> (try split) <;> simp
@[simp] theorem State.reclaimTest_stopped : (s.reclaimTest).stopped = s.stopped := by simp [State.stopped]

/-! `State.reclaimTestHeld` -/

@[simp] theorem State.reclaimTestHeld_pending : (s.reclaimTestHeld).pending = s.pending := by
  unfold State.reclaimTestHeld; split <;> (try split) <;> (try split) <;> simp
@[simp] theorem State.reclaimTestHeld_resetLine : (s.reclaimTestHeld).resetLine = s.resetLine := by
  unfold State.reclaimTestHeld; split <;> (try split) <;> (try split) <;> simp
@[simp] theorem State.reclaimTestHeld_unpowered : (s.reclaimTestHeld).unpowered = s.unpowered := by
  unfold State.reclaimTestHeld; split <;> (try split) <;> (try split) <;> simp
@[simp] theorem State.reclaimTestHeld_warning : (s.reclaimTestHeld).warning = s.warning := by
  unfold State.reclaimTestHeld; split <;> (try split) <;> (try split) <;> simp
@[simp] theorem State.reclaimTestHeld_op : (s.reclaimTestHeld).op = s.op := by
  unfold State.reclaimTestHeld; split <;> (try split) <;> (try split) <;> simp
@[simp] theorem State.reclaimTestHeld_path : (s.reclaimTestHeld).path = s.path := by
  unfold State.reclaimTestHeld; split <;> (try split) <;> (try split) <;> simp
@[simp] theorem State.reclaimTestHeld_settings : (s.reclaimTestHeld).settings = s.settings := by
  unfold State.reclaimTestHeld; split <;> (try split) <;> (try split) <;> simp
@[simp] theorem State.reclaimTestHeld_store : (s.reclaimTestHeld).store = s.store := by
  unfold State.reclaimTestHeld; split <;> (try split) <;> (try split) <;> simp
@[simp] theorem State.reclaimTestHeld_lanes : (s.reclaimTestHeld).lanes = s.lanes := by
  unfold State.reclaimTestHeld; split <;> (try split) <;> (try split) <;> simp
@[simp] theorem State.reclaimTestHeld_channels : (s.reclaimTestHeld).channels = s.channels := by
  unfold State.reclaimTestHeld; split <;> (try split) <;> (try split) <;> simp
@[simp] theorem State.reclaimTestHeld_trackers : (s.reclaimTestHeld).trackers = s.trackers := by
  unfold State.reclaimTestHeld; split <;> (try split) <;> (try split) <;> simp
@[simp] theorem State.reclaimTestHeld_timebases : (s.reclaimTestHeld).timebases = s.timebases := by
  unfold State.reclaimTestHeld; split <;> (try split) <;> (try split) <;> simp
@[simp] theorem State.reclaimTestHeld_sampleIndex : (s.reclaimTestHeld).sampleIndex = s.sampleIndex := by
  unfold State.reclaimTestHeld; split <;> (try split) <;> (try split) <;> simp
@[simp] theorem State.reclaimTestHeld_selector : (s.reclaimTestHeld).selector = s.selector := by
  unfold State.reclaimTestHeld; split <;> (try split) <;> (try split) <;> simp
@[simp] theorem State.reclaimTestHeld_accounts : (s.reclaimTestHeld).accounts = s.accounts := by
  unfold State.reclaimTestHeld; split <;> (try split) <;> (try split) <;> simp
@[simp] theorem State.reclaimTestHeld_clock : (s.reclaimTestHeld).clock = s.clock := by
  unfold State.reclaimTestHeld; split <;> (try split) <;> (try split) <;> simp
@[simp] theorem State.reclaimTestHeld_queue : (s.reclaimTestHeld).queue = s.queue := by
  unfold State.reclaimTestHeld; split <;> (try split) <;> (try split) <;> simp
@[simp] theorem State.reclaimTestHeld_tie : (s.reclaimTestHeld).tie = s.tie := by
  unfold State.reclaimTestHeld; split <;> (try split) <;> (try split) <;> simp
@[simp] theorem State.reclaimTestHeld_msg : (s.reclaimTestHeld).msg = s.msg := by
  unfold State.reclaimTestHeld; split <;> (try split) <;> (try split) <;> simp
@[simp] theorem State.reclaimTestHeld_draws : (s.reclaimTestHeld).draws = s.draws := by
  unfold State.reclaimTestHeld; split <;> (try split) <;> (try split) <;> simp
@[simp] theorem State.reclaimTestHeld_stopped : (s.reclaimTestHeld).stopped = s.stopped := by simp [State.stopped]

/-! `State.reclaimTestRunning` -/

@[simp] theorem State.reclaimTestRunning_pending : (s.reclaimTestRunning).pending = s.pending := by
  unfold State.reclaimTestRunning; split <;> simp
@[simp] theorem State.reclaimTestRunning_resetLine : (s.reclaimTestRunning).resetLine = s.resetLine := by
  unfold State.reclaimTestRunning; split <;> simp
@[simp] theorem State.reclaimTestRunning_unpowered : (s.reclaimTestRunning).unpowered = s.unpowered := by
  unfold State.reclaimTestRunning; split <;> simp
@[simp] theorem State.reclaimTestRunning_warning : (s.reclaimTestRunning).warning = s.warning := by
  unfold State.reclaimTestRunning; split <;> simp
@[simp] theorem State.reclaimTestRunning_op : (s.reclaimTestRunning).op = s.op := by
  unfold State.reclaimTestRunning; split <;> simp
@[simp] theorem State.reclaimTestRunning_path : (s.reclaimTestRunning).path = s.path := by
  unfold State.reclaimTestRunning; split <;> simp
@[simp] theorem State.reclaimTestRunning_settings : (s.reclaimTestRunning).settings = s.settings := by
  unfold State.reclaimTestRunning; split <;> simp
@[simp] theorem State.reclaimTestRunning_store : (s.reclaimTestRunning).store = s.store := by
  unfold State.reclaimTestRunning; split <;> simp
@[simp] theorem State.reclaimTestRunning_lanes : (s.reclaimTestRunning).lanes = s.lanes := by
  unfold State.reclaimTestRunning; split <;> simp
@[simp] theorem State.reclaimTestRunning_channels : (s.reclaimTestRunning).channels = s.channels := by
  unfold State.reclaimTestRunning; split <;> simp
@[simp] theorem State.reclaimTestRunning_trackers : (s.reclaimTestRunning).trackers = s.trackers := by
  unfold State.reclaimTestRunning; split <;> simp
@[simp] theorem State.reclaimTestRunning_timebases : (s.reclaimTestRunning).timebases = s.timebases := by
  unfold State.reclaimTestRunning; split <;> simp
@[simp] theorem State.reclaimTestRunning_sampleIndex : (s.reclaimTestRunning).sampleIndex = s.sampleIndex := by
  unfold State.reclaimTestRunning; split <;> simp
@[simp] theorem State.reclaimTestRunning_selector : (s.reclaimTestRunning).selector = s.selector := by
  unfold State.reclaimTestRunning; split <;> simp
@[simp] theorem State.reclaimTestRunning_accounts : (s.reclaimTestRunning).accounts = s.accounts := by
  unfold State.reclaimTestRunning; split <;> simp
@[simp] theorem State.reclaimTestRunning_clock : (s.reclaimTestRunning).clock = s.clock := by
  unfold State.reclaimTestRunning; split <;> simp
@[simp] theorem State.reclaimTestRunning_queue : (s.reclaimTestRunning).queue = s.queue := by
  unfold State.reclaimTestRunning; split <;> simp
@[simp] theorem State.reclaimTestRunning_tie : (s.reclaimTestRunning).tie = s.tie := by
  unfold State.reclaimTestRunning; split <;> simp
@[simp] theorem State.reclaimTestRunning_msg : (s.reclaimTestRunning).msg = s.msg := by
  unfold State.reclaimTestRunning; split <;> simp
@[simp] theorem State.reclaimTestRunning_draws : (s.reclaimTestRunning).draws = s.draws := by
  unfold State.reclaimTestRunning; split <;> simp
@[simp] theorem State.reclaimTestRunning_stopped : (s.reclaimTestRunning).stopped = s.stopped := by simp [State.stopped]

end Sys2Proof.Machine
end

