-- ==== Sys2Proof/Laws/Memory.lean ====
section
/-! SUPPORT. The canonical form of the archive memory: every operation over segments keeps it, and what a byte reads as
after programming. -/

namespace Sys2Proof.Machine

/-! ### Trimming -/

theorem trimErased_length_le (bs : List Byte) : (trimErased bs).length ≤ bs.length := by
  induction bs with
  | nil => simp [trimErased]
  | cons b bs ih =>
    unfold trimErased
    split
    · split <;> simp
    · rename_i r hr
      simp only [List.length_cons]
      omega

theorem trimErased_getLast? (bs : List Byte) : (trimErased bs).getLast? ≠ some erasedByte := by
  induction bs with
  | nil => simp [trimErased]
  | cons b bs ih =>
    unfold trimErased
    split
    · split <;> simp_all
    · rename_i r hr
      rw [List.getLast?_cons_of_ne_nil hr]
      exact ih

/-- A trimmed area reads as the area did. -/
theorem trimErased_getD (bs : List Byte) (i : Nat) : (trimErased bs).getD i erasedByte = bs.getD i erasedByte := by
  induction bs generalizing i with
  | nil => rfl
  | cons b bs ih =>
    unfold trimErased
    split
    · rename_i h
      have hi : ∀ j, bs.getD j erasedByte = erasedByte := by
        intro j
        rw [← ih j, h]
        rfl
      split
      · rename_i hb
        cases i with
        | zero => simpa using hb.symm
        | succ j => simpa using (hi j).symm
      · cases i with
        | zero => rfl
        | succ j => simpa using (hi j).symm
    · cases i with
      | zero => rfl
      | succ j => simpa using ih j

/-! ### The record area -/

theorem programArea_length_le (area : List Byte) (pos : Nat) (bs : List Byte) :
    (programArea area pos bs).length ≤ Config.areaBytes := by
  unfold programArea
  exact Nat.le_trans (trimErased_length_le _) (by simp)

theorem areaTake_length (k : Nat) (area : List Byte) : (areaTake k area).length = k := by
  simp [areaTake]
  omega

/-- What an offset of the area reads as after programming: as before below `pos`, the bytes programmed from it on. -/
theorem programArea_getD (area : List Byte) (pos i : Nat) (bs : List Byte) (h : area.length ≤ pos)
    (hfit : pos + bs.length ≤ Config.areaBytes) :
    (programArea area pos bs).getD i erasedByte =
      if i < pos then area.getD i erasedByte else bs.getD (i - pos) erasedByte := by
  have htake : area.take pos = area := List.take_of_length_le h
  have hl := areaTake_length pos area
  have hlen : (areaTake pos area ++ bs).length ≤ Config.areaBytes := by simp [hl, hfit]
  rw [programArea, trimErased_getD, List.take_of_length_le hlen]
  split
  · rename_i hi
    rw [List.getD_append _ _ _ _ (by omega)]
    simp only [areaTake, htake]
    by_cases hj : i < area.length
    · rw [List.getD_append _ _ _ _ hj]
    · rw [List.getD_append_right _ _ _ _ (by omega)]
      simp [List.getD_eq_getElem?_getD, List.getElem?_eq_none (by omega : area.length ≤ i), List.getElem?_replicate]
      split <;> rfl
  · rw [List.getD_append_right _ _ _ _ (by omega), hl]

/-! ### Segments -/

theorem Segment.wf_erased : Segment.erased.wf = true := by decide

theorem Segment.wf_retired : (⟨.retired, 0, []⟩ : Segment).wf = true := by decide

theorem Segment.wf_opened (n : Nat) : (⟨.opened, n, []⟩ : Segment).wf = true := by
  simp [Segment.wf]

/-- A marker programmed other than back to ERASED keeps the form. -/
theorem Segment.wf_marker (g : Segment) (m : Marker) (h : g.wf = true) (hm : m ≠ .blank) :
    ({ g with marker := m } : Segment).wf = true := by
  simp only [Segment.wf, Bool.and_eq_true, Bool.or_eq_true] at h ⊢
  exact ⟨h.1, .inl (by simpa using hm)⟩

/-- Programming the record area of a segment that is not ERASED keeps the form. -/
theorem Segment.wf_program (g : Segment) (pos : Nat) (bs : List Byte) (hm : g.marker ≠ .blank) :
    ({ g with area := programArea g.area pos bs } : Segment).wf = true := by
  simp only [Segment.wf, Bool.and_eq_true, Bool.or_eq_true]
  refine ⟨⟨by simpa using programArea_length_le _ _ _, ?_⟩, .inl (by simpa using hm)⟩
  simpa [programArea] using trimErased_getLast? _

/-! ### The 256 segments -/

theorem Memory.wf_iff (t : Table Segment 256) : Memory.wf t = true ↔ ∀ g, (t.get g).wf = true := by
  simp [Memory.wf]

/-- A segment replaced by one in canonical form keeps the form. -/
theorem Memory.wf_put (t : Table Segment 256) (g : Fin 256) (x : Segment) (h : Memory.wf t = true) (hx : x.wf = true) :
    Memory.wf (t.put g x) = true := by
  rw [Memory.wf_iff] at h ⊢
  intro i
  rw [Table.get_put]
  split
  · exact hx
  · exact h i

theorem State.wf_putSeg (s : State) (g : Fin 256) (x : Segment) (h : Memory.wf s.nv.segments = true)
    (hx : x.wf = true) : Memory.wf (s.putSeg g x).nv.segments = true := by
  simpa using Memory.wf_put _ g x h hx

theorem State.wf_mark (s : State) (g : Fin 256) (m : Marker) (h : Memory.wf s.nv.segments = true)
    (hm : m ≠ .blank) : Memory.wf (s.mark g m).nv.segments = true :=
  State.wf_putSeg s g _ h (Segment.wf_marker _ _ ((Memory.wf_iff _).1 h g) hm)

theorem State.wf_retire (s : State) (g : Fin 256) (h : Memory.wf s.nv.segments = true) :
    Memory.wf (s.retire g).nv.segments = true :=
  State.wf_putSeg s g _ h Segment.wf_retired

theorem State.wf_program (s : State) (g : Fin 256) (bs : List Byte) (h : Memory.wf s.nv.segments = true)
    (hm : (s.nv.segments.get g).marker ≠ .blank) : Memory.wf (s.program g bs).nv.segments = true :=
  State.wf_putSeg s g _ h (Segment.wf_program _ _ _ hm)

theorem State.wf_beginErase (s : State) (g : Fin 256) (h : Memory.wf s.nv.segments = true) :
    Memory.wf (s.beginErase g).nv.segments = true := by
  simpa [State.beginErase] using State.wf_mark s g .reclaiming h (by decide)

/-- The memory right after reset is in canonical form. -/
theorem State.wf_reset : Memory.wf State.reset.nv.segments = true := by
  rw [Memory.wf_iff]
  intro g
  show (Table.get (Table.all Segment.erased) g).wf = true
  rw [Table.get_all]
  exact Segment.wf_erased

/-- A segment after the scan is in canonical form. -/
theorem Segment.wf_repaired (g : Segment) (failed : Bool) (h : g.wf = true) : (g.repaired failed).wf = true := by
  unfold Segment.repaired
  split
  · exact Segment.wf_retired
  · split
    · exact Segment.wf_erased
    · split
      · exact Segment.wf_retired
      · exact Segment.wf_erased
  · split
    · exact Segment.wf_retired
    · exact Segment.wf_erased
  · split
    · exact Segment.wf_retired
    · exact Segment.wf_erased
  · split
    · exact Segment.wf_marker g .full h (by decide)
    · exact h
  · exact h

end Sys2Proof.Machine
end

