-- ==== Sys2Proof/Laws/PerInstr.lean ====
section
/-! SUPPORT. Statements made per command: the operands of a well-formed request fit a request frame (9.1, 9.3). -/

namespace Sys2Proof.Laws.Operands

/-- A well-formed command that carries a request carries one of a kind below 0x80 with a body of at most 1 024 bytes. -/
def Statement (i : Instr) : Prop :=
  i.wf = true → ∀ kind tag body, i.request = some (kind, tag, body) → kind.toNat < 0x80 ∧ body.length ≤ 1024

/-- A command of a fixed kind with a body that fits. -/
theorem of_body {i : Instr} {k t : Byte} {b : List Byte} (hr : i.request = some (k, t, b)) (hk : k.toNat < 0x80)
    (hb : i.wf = true → bodyOk b = true) : Statement i := by
  intro hw kind tag body h
  rw [hr] at h
  cases h
  exact ⟨hk, by simpa [bodyOk] using hb hw⟩

/-- A command that carries no request. -/
theorem of_none {i : Instr} (hr : i.request = none) : Statement i := by
  intro _ kind tag body h
  rw [hr] at h
  cases h

theorem powerOn : Statement (.powerOn) := of_none rfl
theorem resetAssert (cause : StopCause) (cut : WriteCut) : Statement (.resetAssert cause cut) := of_none rfl
theorem resetRelease : Statement (.resetRelease) := of_none rfl
theorem scanEnd (failed : List (Fin 256)) : Statement (.scanEnd failed) := of_none rfl
theorem laneFrameComplete (lane : Fin 4) (bytes : List Byte) : Statement (.laneFrameComplete lane bytes) := of_none rfl
theorem laneFrameTimeout (lane : Fin 4) : Statement (.laneFrameTimeout lane) := of_none rfl
theorem rawSampleInstant : Statement (.rawSampleInstant) := of_none rfl
theorem laneEnterDown (lane : Fin 4) : Statement (.laneEnterDown lane) := of_none rfl
theorem laneEnterUp (lane : Fin 4) : Statement (.laneEnterUp lane) := of_none rfl
theorem cycleAbandon (vset : Fin 2) : Statement (.cycleAbandon vset) := of_none rfl
theorem presenceRunEnd (vset : Fin 2) : Statement (.presenceRunEnd vset) := of_none rfl
theorem trackerEnterFreeRun (vset : Fin 2) : Statement (.trackerEnterFreeRun vset) := of_none rfl
theorem windowComplete (timebase : Fin 2) : Statement (.windowComplete timebase) := of_none rfl
theorem snapshot (tag : Byte) (body : List Byte) : Statement (.snapshot tag body) := of_body rfl (by decide) id
theorem switchSample (levels : BitVec 8) : Statement (.switchSample levels) := of_none rfl
theorem debounceComplete (input : Fin 8) : Statement (.debounceComplete input) := of_none rfl
theorem firstSwitchWord : Statement (.firstSwitchWord) := of_none rfl
theorem planOpen (tag : Byte) (body : List Byte) : Statement (.planOpen tag body) := of_body rfl (by decide) id
theorem planAdd (tag : Byte) (body : List Byte) : Statement (.planAdd tag body) := of_body rfl (by decide) id
theorem planConfirm (tag : Byte) (body : List Byte) : Statement (.planConfirm tag body) := of_body rfl (by decide) id
theorem planDrop (tag : Byte) (body : List Byte) : Statement (.planDrop tag body) := of_body rfl (by decide) id
theorem planClear (tag : Byte) (body : List Byte) : Statement (.planClear tag body) := of_body rfl (by decide) id
theorem planGet (tag : Byte) (body : List Byte) : Statement (.planGet tag body) := of_body rfl (by decide) id
theorem accountRead (tag : Byte) (body : List Byte) : Statement (.accountRead tag body) := of_body rfl (by decide) id
theorem limitLoad (tag : Byte) (body : List Byte) : Statement (.limitLoad tag body) := of_body rfl (by decide) id
theorem limitGet (tag : Byte) (body : List Byte) : Statement (.limitGet tag body) := of_body rfl (by decide) id
theorem peakSwap (tag : Byte) (body : List Byte) : Statement (.peakSwap tag body) := of_body rfl (by decide) id
theorem clockMadeClose : Statement (.clockMadeClose) := of_none rfl
theorem syncPulse : Statement (.syncPulse) := of_none rfl
theorem lateAllowanceExpire : Statement (.lateAllowanceExpire) := of_none rfl
theorem align (tag : Byte) (body : List Byte) : Statement (.align tag body) := of_body rfl (by decide) id
theorem closeNow (tag : Byte) (body : List Byte) : Statement (.closeNow tag body) := of_body rfl (by decide) id
theorem writerTakeRecord (headerOk : Bool) : Statement (.writerTakeRecord headerOk) := of_none rfl
theorem recordWriteComplete (bad : List (Nat × Byte)) (headerOk : Bool) : Statement (.recordWriteComplete bad headerOk) := of_none rfl
theorem eraseComplete (blank headerOk : Bool) : Statement (.eraseComplete blank headerOk) := of_none rfl
theorem errorClear (tag : Byte) (body : List Byte) : Statement (.errorClear tag body) := of_body rfl (by decide) id
theorem archiveCollected (tag : Byte) (body : List Byte) : Statement (.archiveCollected tag body) := of_body rfl (by decide) id
theorem pinAdd (tag : Byte) (body : List Byte) : Statement (.pinAdd tag body) := of_body rfl (by decide) id
theorem pinRemove (tag : Byte) (body : List Byte) : Statement (.pinRemove tag body) := of_body rfl (by decide) id
theorem archiveClear (tag : Byte) (body : List Byte) : Statement (.archiveClear tag body) := of_body rfl (by decide) id
theorem archiveRead (tag : Byte) (body : List Byte) : Statement (.archiveRead tag body) := of_body rfl (by decide) id
theorem archiveMore (tag : Byte) (body : List Byte) : Statement (.archiveMore tag body) := of_body rfl (by decide) id
theorem tiePageArrive (bytes : List Byte) : Statement (.tiePageArrive bytes) := of_none rfl
theorem tiePageOverlength (bytes : List Byte) : Statement (.tiePageOverlength bytes) := of_none rfl
theorem tieByteGapTimeout (bytes : List Byte) : Statement (.tieByteGapTimeout bytes) := of_none rfl
theorem tieResendTimer : Statement (.tieResendTimer) := of_none rfl
theorem idlePageSend : Statement (.idlePageSend) := of_none rfl
theorem silenceTimeout : Statement (.silenceTimeout) := of_none rfl
theorem roleAttemptTimeout : Statement (.roleAttemptTimeout) := of_none rfl
theorem tieStatus (tag : Byte) (body : List Byte) : Statement (.tieStatus tag body) := of_body rfl (by decide) id
theorem hostFrameComplete (bytes : List Byte) : Statement (.hostFrameComplete bytes) := of_none rfl
theorem hostFrameOverlength (bytes : List Byte) : Statement (.hostFrameOverlength bytes) := of_none rfl
theorem hostByteGapTimeout (bytes : List Byte) : Statement (.hostByteGapTimeout bytes) := of_none rfl
theorem replySent : Statement (.replySent) := of_none rfl
theorem unknownKind (kind tag : Byte) (body : List Byte) : Statement (.unknownKind kind tag body) := by
  intro hw k t b h
  cases h
  simp only [Instr.wf, kindUnknown, bodyOk, Bool.and_eq_true, decide_eq_true_eq] at hw
  exact ⟨hw.1.1, hw.2⟩
theorem ident (tag : Byte) (body : List Byte) : Statement (.ident tag body) := of_body rfl (by decide) id
theorem stateRequest (tag : Byte) (body : List Byte) : Statement (.stateRequest tag body) := of_body rfl (by decide) id
theorem noticeTake (tag : Byte) (body : List Byte) : Statement (.noticeTake tag body) := of_body rfl (by decide) id
theorem noticeRaise (tag : Byte) (body : List Byte) : Statement (.noticeRaise tag body) := of_body rfl (by decide) id
theorem attentionPulseEnd : Statement (.attentionPulseEnd) := of_none rfl
theorem setSetting (tag : Byte) (body : List Byte) : Statement (.setSetting tag body) := of_body rfl (by decide) id
theorem getSetting (tag : Byte) (body : List Byte) : Statement (.getSetting tag body) := of_body rfl (by decide) id
theorem storeWriteComplete : Statement (.storeWriteComplete) := of_none rfl
theorem powerFailAssert : Statement (.powerFailAssert) := of_none rfl
theorem enterDormant : Statement (.enterDormant) := of_none rfl
theorem powerFailRelease : Statement (.powerFailRelease) := of_none rfl
theorem restart (tag : Byte) (body : List Byte) : Statement (.restart tag body) := of_body rfl (by decide) id
theorem restartPathEnd : Statement (.restartPathEnd) := of_none rfl

end Sys2Proof.Laws.Operands
end

