-- ==== Sys2Proof/Laws/Shared.lean ====
section
/-! SUPPORT. For each shared operation, once, everything it can do; claims cite these in place of its definition. -/

namespace Sys2Proof.Machine

/-! ### Commands and the reset line -/

theorem State.whenAlive_stopped (s : State) (f : State → State) (h : s.stopped = true) : s.whenAlive f = s := by
  simp [State.whenAlive, h]

@[simp] theorem State.whenAlive_running (s : State) (f : State → State) (h : s.stopped = false) :
    s.whenAlive f = f s := by
  simp [State.whenAlive, h]

/-- A stop leaves the part stopped (R186). -/
@[simp] theorem State.stoppedBy_stopped (s : State) (c : StopCause) : (s.stoppedBy c).stopped = true := by
  cases c <;> simp [State.stoppedBy, State.stopped]

/-- The power-on start leaves a part that takes events (R183). -/
@[simp] theorem State.powerOnStart_stopped (s : State) : s.powerOnStart.stopped = false := by
  simp [State.powerOnStart, State.loaded, State.stopped, State.reset]

/-- RESET_ASSERT leaves the part stopped, whatever the cause (R186). -/
@[simp] theorem State.resetAssert_stopped (s : State) (c : StopCause) (cut : WriteCut) :
    (s.resetAssert c cut).stopped = true := by
  simp [State.resetAssert]

/-- What a stop can do to the store write in progress (R131, R181). -/
theorem State.cutStore_cases (s : State) (between : Bool) :
    (s.store = none ∧ s.cutStore between = s) ∨
    (∃ i, s.store = some (.image i) ∧ s.cutStore between = { s with nv := { s.nv with image := none } }) ∨
    (∃ m c, s.store = some (.mark m c) ∧ between = true ∧ s.archive.clear = .marking 1 ∧ s.cutStore between = s) ∨
    ∃ m c, s.store = some (.mark m c) ∧ (between = false ∨ s.archive.clear ≠ .marking 1) ∧
      s.cutStore between = { s with nv := { s.nv with marks := s.nv.marks.put c none } } := by
  cases hs : s.store with
  | none => simp [State.cutStore, hs]
  | some j =>
    cases j with
    | image i => simp [State.cutStore, hs]
    | mark m c =>
      refine .inr (.inr ?_)
      by_cases h : between = true ∧ s.archive.clear = .marking 1
      · exact .inl ⟨m, c, rfl, h.1, h.2, by simp [State.cutStore, State.secondMark, hs, h.1, h.2]⟩
      · refine .inr ⟨m, c, rfl, ?_, ?_⟩
        · cases between <;> simp_all
        · cases between <;> simp_all [State.cutStore, State.secondMark]

/-- What the release of the reset line can do (R186). -/
theorem State.resetRelease_cases (s : State) :
    (s.resetLine = false ∧ s.resetRelease = s) ∨
    (s.resetLine = true ∧ s.unpowered = true ∧ s.resetRelease = { s with resetLine := false }) ∨
    (s.resetLine = true ∧ s.unpowered = false ∧ s.resetRelease = ({ s with resetLine := false }).powerOnStart) := by
  cases h : s.resetLine <;> cases u : s.unpowered <;>
    simp [State.resetRelease, State.startUnlessStopped, State.stopped, h, u]

/-! ### Events of the last raw sample (log 3) -/

/-- Steps that leave a state alone, taken in turn, leave it alone. -/
theorem foldl_fixed {α β : Type} (f : β → α → β) (x : β) (l : List α) (h : ∀ a, f x a = x) : l.foldl f x = x := by
  induction l with
  | nil => rfl
  | cons a l ih => rw [List.foldl_cons, h, ih]

/-- No event of the last raw sample is still due (log 3). -/
structure State.SampleSettled (s : State) : Prop where
  lanes : ∀ l, (s.lanes.get l).downDue = false ∧ (s.lanes.get l).upDue = false
  trackers : ∀ v, (s.trackers.get v).abandonDue = false ∧ (s.trackers.get v).runDue = false ∧
    (s.trackers.get v).freeRunDue = false
  windows : ∀ v, ((s.timebases.get v).window.all fun w => !w.complete) = true
  clock : s.closeDue = false ∧ (s.clock.lateOpen && decide (s.syncSamples ≤ s.clock.position)) = false

/-- With no event still due a raw sample begins on the state as it stands. -/
theorem State.settleSample_settled (s : State) (h : s.SampleSettled) : s.settleSample = s := by
  obtain ⟨hl, ht, hw, hc, ha⟩ := h
  have h1 (v : Fin 2) : s.windowComplete v = s := by
    unfold State.windowComplete
    have hv := hw v
    split
    · next w e => simp_all
    · rfl
  have h2 : s.clockMade = s := by simp [State.clockMade, hc]
  simp only [State.settleSample]
  rw [foldl_fixed _ s _ fun l => by simp [State.laneDown, State.laneUp, hl l],
    foldl_fixed _ s _ fun v => by simp [State.abandonCycle, State.endPresenceRun, ht v],
    foldl_fixed _ s _ h1, foldl_fixed _ s _ fun v => by simp [State.enterFreeRun, ht v], h2]
  unfold State.lateExpire
  rw [ha]
  rfl

/-! ### Notices -/

/-- A notice latched is latched; the others stand as they were. -/
theorem State.latch_latched (s : State) (x : Notice) :
    (s.latch x).notices.latched = s.notices.latched ||| oneBit 18 x.bit := by
  cases x <;> rfl

@[simp] theorem State.latchIf_false (s : State) (x : Notice) : s.latchIf false x = s := rfl
@[simp] theorem State.latchIf_true (s : State) (x : Notice) : s.latchIf true x = s.latch x := rfl

/-! ### Accounts -/

@[simp] theorem State.mapAccounts_get (s : State) (f : Fin 16 → Account → Account) (a : Fin 16) :
    (s.mapAccounts f).accounts.get a = f a (s.accounts.get a) := by
  simp

/-- The tap members of an account on a window (R51). -/
theorem CompletedWindow.tapsOf_eq (c : PlanContent) (a : Fin 16) (w : Window) (v : Fin 2) (p : PhasorTable) :
    CompletedWindow.tapsOf ⟨v, p, w.ownsSet, w.ownsTap, w.binding⟩ c a = c.memberTaps a w := by
  unfold CompletedWindow.tapsOf PlanContent.memberTaps
  congr 1
  funext m
  cases m.point <;> simp

/-- The peer-slot members of an account (R53). -/
theorem PlanContent.peersOf_eq (c : PlanContent) (a : Fin 16) : c.peersOf a = c.memberPeers a := by
  unfold PlanContent.peersOf PlanContent.memberPeers
  congr 1
  funext m
  cases m.point <;> simp

/-- R54 at one account. -/
theorem State.testPeers_get (s : State) (a : Fin 16) :
    s.testPeers.accounts.get a =
      if s.isEnabled a && s.peerMissing a then
        { s.accounts.get a with flags := { (s.accounts.get a).flags with incomplete := true } }
      else s.accounts.get a := by
  simp [State.testPeers]

/-- One contribution changes its account alone. -/
theorem State.contribute_get (s : State) (a b : Fin 16) (c : Contribution) (p : Fin 8) :
    (s.contribute a c p).accounts.get b =
      if a = b then (s.accounts.get a).contribute c p else s.accounts.get b := by
  simp only [State.contribute, State.latchIf_accounts]
  rw [Table.get_put]

/-- What a close leaves of one account (R104, R106, R107). -/
theorem State.settleClose_get (s : State) (concerned formed : List (Fin 16)) (cause : CloseCause)
    (reason : Option CloseReason) (index part : Nat) (aligned advances : Bool) (a : Fin 16) :
    (s.settleClose concerned formed cause reason index part aligned advances).accounts.get a =
      if formed.contains a then
        (s.accounts.get a).afterClose index part (.atStart (!aligned) (s.isEnabled a && s.peerMissing a))
          (s.settings.orderMask.get a)
      else if concerned.contains a then (s.accounts.get a).extend advances
      else s.accounts.get a := by
  simp [State.settleClose]

/-- What a close adds to the queue (R103). -/
theorem State.settleClose_queue (s : State) (concerned formed : List (Fin 16)) (cause : CloseCause)
    (reason : Option CloseReason) (index part : Nat) (aligned advances : Bool) :
    (s.settleClose concerned formed cause reason index part aligned advances).queue =
      s.queue ++ formed.map fun a => .interval (s.formRecord a cause reason) := by
  simp [State.settleClose, State.recordsOf]

/-! ### Reclaim and the writer -/

/-- A reclaim test does one of four things (R121, R122, R125). -/
theorem State.reclaimTest_cases (s : State) :
    (s.archive.state = .stopped ∧ s.reclaimTest = s) ∨
    (s.archive.state ≠ .stopped ∧ s.reclaimWanted = none ∧
      s.reclaimTest = s.onArchive fun a => { a with heldInd := false }) ∨
    (∃ g, s.archive.state ≠ .stopped ∧ s.reclaimWanted = some g ∧ s.reclaimAllowed g = true ∧
      s.reclaimTest = s.beginErase g) ∨
    ∃ g, s.archive.state ≠ .stopped ∧ s.reclaimWanted = some g ∧ s.reclaimAllowed g = false ∧
      s.reclaimTest = s.becomeHeld := by
  by_cases hs : s.archive.state = .stopped
  · exact .inl ⟨hs, by simp [State.reclaimTest, hs]⟩
  · refine .inr ?_
    cases hw : s.reclaimWanted with
    | none => exact .inl ⟨hs, rfl, by simp [State.reclaimTest, hs, hw]⟩
    | some g =>
      refine .inr ?_
      cases ha : s.reclaimAllowed g
      · exact .inr ⟨g, hs, rfl, ha, by simp [State.reclaimTest, hs, hw, ha]⟩
      · exact .inl ⟨g, hs, rfl, ha, by simp [State.reclaimTest, hs, hw, ha]⟩

/-- A reclaim test is wanted only for a FULL segment with no erase running (R121). -/
theorem State.reclaimWanted_spec (s : State) (g : Fin 256) (h : s.reclaimWanted = some g) :
    s.nextSegment = some g ∧ (s.nv.segments.get g).marker = .full ∧ s.archive.erase = none ∧
      (s.archive.state = .idle ∨ s.archive.state = .writing) := by
  unfold State.reclaimWanted at h
  split at h
  · cases h
  · rename_i x hx
    split at h
    · rename_i hc
      cases h
      simp only [Bool.and_eq_true, Bool.or_eq_true, beq_iff_eq, Option.isNone_iff_eq_none] at hc
      exact ⟨hx, hc.1.1.1, hc.1.2, hc.2⟩
    · cases h

/-- Reclaim is wanted as R121 says. -/
theorem State.reclaimWanted_iff (s : State) (g : Fin 256) : s.reclaimWanted = some g ↔ s.wantsReclaim g := by
  unfold State.reclaimWanted State.wantsReclaim
  cases h : s.nextSegment with
  | none => simp
  | some x =>
    simp only [Option.some.injEq]
    constructor
    · intro hx
      split at hx
      · rename_i hc
        obtain rfl := Option.some.inj hx
        simp [State.seg] at hc
        tauto
      · cases hx
    · rintro ⟨rfl, h1, h2, h3, h4⟩
      simp [State.seg, h1, h2, h3, h4]

/-- Reclaim is allowed as R122 says. -/
theorem State.reclaimAllowed_iff (s : State) (g : Fin 256) : s.reclaimAllowed g = true ↔ s.allowsReclaim g := by
  simp [State.reclaimAllowed, State.allowsReclaim, State.seg]

/-- The part is closing in CLOSING and DORMANT. -/
theorem State.closing_iff (s : State) : s.closing = true ↔ s.isClosing := by
  simp [State.closing, State.isClosing]

/-- Everything that a reclaim test outside the writer's need can do (R121, R122, R125, log 37). -/
theorem State.reclaimTestRunning_tested (s : State) : s.reclaimTested s.reclaimTestRunning := by
  have hw := s.reclaimWanted_iff
  have ha := s.reclaimAllowed_iff
  refine ⟨fun h => ?_, fun h => ⟨fun hn => ?_, fun g hg => ⟨fun h1 h2 => ?_, fun h1 h2 => ?_, fun h1 => ?_⟩⟩⟩
  · have : s.reclaimTestRunning = s := by simp [State.reclaimTestRunning, State.reclaimTestHeld, State.reclaimTest, h]
    rw [this]
    exact ⟨⟨rfl, rfl⟩, rfl⟩
  · have : s.reclaimWanted = none := Option.eq_none_iff_forall_ne_some.2 fun g hg => hn g ((hw g).1 hg)
    simp [State.reclaimTestRunning, State.reclaimTestHeld, State.reclaimTest, h, this, State.onArchive]
  · simp [State.reclaimTestRunning, State.reclaimTestHeld, h, (hw g).2 hg, (ha g).2 h1, s.closing_iff.2 h2, State.onArchive]
  · have hc : s.closing = false := by simpa using mt s.closing_iff.1 h2
    have : s.reclaimTestRunning = s.beginErase g := by
      simp [State.reclaimTestRunning, State.reclaimTest, h, (hw g).2 hg, (ha g).2 h1, hc]
    rw [this]
    exact ⟨rfl, rfl, rfl⟩
  · have hf : s.reclaimAllowed g = false := by simpa using mt (ha g).1 h1
    have : s.reclaimTestRunning = s.becomeHeld := by
      simp [State.reclaimTestRunning, State.reclaimTestHeld, State.reclaimTest, h, (hw g).2 hg, hf]
    rw [this]
    cases hi : s.archive.heldInd with
    | true => simp [State.becomeHeld, State.becameHeld, State.latchIf, State.onArchive, hi]
    | false =>
      have hl : (s.latch .archiveHeld).notices.latched.getLsbD 7 = true := by
        simp [s.latch_latched, oneBit, Notice.bit]
      simp only [State.becomeHeld, State.becameHeld, State.latchIf, hi]
      exact ⟨⟨rfl, rfl⟩, rfl, by simp, fun _ => ⟨rfl, hl⟩⟩

/-- Settling an erase resumes it or leaves the state (R124, R138). -/
theorem State.settleErase_cases (s : State) : s.settleErase = s ∨ s.settleErase = s.resumeErase := by
  unfold State.settleErase
  split <;> split <;> simp

/-! ### The ring -/

theorem State.mem_insertSeq (s : State) (g h : Fin 256) (l : List (Fin 256)) :
    h ∈ s.insertSeq g l ↔ h = g ∨ h ∈ l := by
  induction l with
  | nil => simp [State.insertSeq]
  | cons x xs ih =>
    unfold State.insertSeq
    split
    · simp
    · simp only [List.mem_cons, ih]
      tauto

theorem State.mem_bySeq (s : State) (h : Fin 256) (l : List (Fin 256)) : h ∈ s.bySeq l ↔ h ∈ l := by
  induction l with
  | nil => simp [State.bySeq]
  | cons x xs ih =>
    have hb : s.bySeq (x :: xs) = s.insertSeq x (s.bySeq xs) := rfl
    rw [hb, State.mem_insertSeq, ih, List.mem_cons]

/-- The segments in archive order are those whose marker qualifies (R113). -/
theorem State.mem_segmentsWith (s : State) (f : Marker → Bool) (g : Fin 256) :
    g ∈ s.segmentsWith f ↔ f (s.nv.segments.get g).marker = true := by
  simp [State.segmentsWith, State.mem_bySeq, State.seg]

/-! ### Requests -/

/-- A request frame that comes to a link that holds none is held and answered (R162, R163). -/
theorem State.frameArrives_free (s : State) (f : HostFrame) (h : s.msg = ⟨[], none, false⟩) :
    s.frameArrives f =
      let u : State := { s with msg := ⟨[f], none, false⟩ }
      (u.answer f).after.setReply (some (replyTo f (u.answer f))) := by
  simp [State.frameArrives, State.dispatch, h]

/-- A request frame behind one being answered waits (R162). -/
theorem State.frameArrives_waits (s : State) (f : HostFrame) (r : Reply) (h : s.msg.places.length < 2)
    (hr : s.msg.reply = some r) :
    s.frameArrives f = { s with msg := { s.msg with places := s.msg.places ++ [f] } } := by
  simp [State.frameArrives, State.dispatch, h, hr]

/-- A third request frame is an overrun (R162). -/
theorem State.frameArrives_overrun (s : State) (f : HostFrame) (h : ¬ s.msg.places.length < 2) :
    s.frameArrives f = s.countOverrun := by
  simp [State.frameArrives, h]

/-- The four outcomes of the tests at dispatch (R164, R165). -/
theorem State.answerKind_cases (s : State) (k : Kind) (body : List Byte) :
    s.answerKind k body = s.refuse .busy ∨ s.answerKind k body = s.refuse .length ∨
      s.answerKind k body = s.refuse .field ∨
      ((s.op = .running ∨ k.always = true) ∧ k.lengthOk body.length = true ∧ k.reservedOk body = true ∧
        s.answerKind k body = s.owner k body) := by
  unfold State.answerKind
  by_cases h1 : (s.op != .running && !k.always) = true
  · simp [h1]
  · by_cases h2 : k.lengthOk body.length = true
    · by_cases h3 : k.reservedOk body = true
      · refine .inr (.inr (.inr ⟨?_, h2, h3, by simp [h1, h2, h3]⟩))
        revert h1
        cases k.always <;> simp
      · simp [h1, h2, h3]
    · simp [h1, h2]

/-! ### The tie link -/

/-- An entry into DOWN or OFF empties what the link holds (R143, R145). -/
theorem Tie.abandon_spec (t : Tie) (x : TieState) :
    (t.abandon x).state = x ∧ (t.abandon x).inFlight = none ∧ (t.abandon x).sendCount = 0 ∧
      (t.abandon x).holding = none ∧ (t.abandon x).closeList = [] ∧ (t.abandon x).roleList = [] ∧
      (t.abandon x).sendToggle = false ∧ (t.abandon x).partnerToggle = none ∧ (t.abandon x).attempt = 0 ∧
      (t.abandon x).sent = t.sent ∧ (t.abandon x).accepted = t.accepted ∧ (t.abandon x).lastPair = t.lastPair :=
  ⟨rfl, rfl, rfl, rfl, rfl, rfl, rfl, rfl, rfl, rfl, rfl, rfl⟩

/-- A ROLE or ROLE_CONFIRM made due is in flight at once, or waits behind the page in flight (R146, R153). -/
theorem Tie.roleDue_cases (t : Tie) (b : PageBody) :
    (t.inFlight = none ∧ t.roleDue b = { t with inFlight := some b, sendCount := 0 }) ∨
      ∃ x, t.inFlight = some x ∧ t.roleDue b = { t with roleList := t.roleList ++ [b] } := by
  unfold Tie.roleDue
  split <;> simp_all

/-- A failed attempt is followed by the next, or by SOLO (R146, R147). -/
theorem State.failAttempt_cases (s : State) :
    (s.tie.attempt < 3 ∧ s.failAttempt = s.beginAttempt (s.tie.attempt + 1)) ∨
      (3 ≤ s.tie.attempt ∧ s.failAttempt = s.enterSolo) := by
  unfold State.failAttempt
  split
  · exact .inl ⟨‹_›, rfl⟩
  · exact .inr ⟨by omega, rfl⟩

/-- Outside DOWN a valid page that does not begin the session anew has its ack field taken first, its body after, and the page
due is sent last (R139). -/
theorem State.takePage_session (s : State) (p : Page) (hr : s.renewed p = false) (hd : s.tie.state ≠ .down) :
    s.takePage p = (((s.noteAck p).takeAck p.ack).acceptPage p).transmit := by
  simp [State.takePage, hr, State.noteAck, State.onTie, hd]

/-- Sending the page due changes send count and last page alone (R140). -/
theorem Tie.transmit_cases (t : Tie) :
    t.transmit = t ∨ ∃ b, t.inFlight = some b ∧ t.sendCount = 0 ∧
      t.transmit = { t with sendCount := 1, lastSent := some (t.render b t.sendToggle) } := by
  unfold Tie.transmit
  split
  · rename_i b hb
    by_cases h : t.sendCount = 0
    · exact .inr ⟨b, hb, h, by simp [h]⟩
    · exact .inl (by simp [h])
  · exact .inl rfl

end Sys2Proof.Machine
end

