-- ==== Sys2Proof/Tests/Slice0.lean ====
section
/-! SUPPORT. Tests: ill-formed commands, the worked examples of the manual, one-step tests, and for each statement with
hypotheses a witness that meets them. -/

namespace Sys2Proof.Tests

-- One theorem after the other: the many kernel evaluations of this file, waiting for each other in threads of their own,
-- would take the memory that a check may use.
set_option Elab.async false

open Machine

/-! ### Ill-formed commands, one for each check of WellFormed -/

theorem test_wf_reset_assert : (Instr.resetAssert .line ⟨674, true, false⟩).wf = true ∧
    (Instr.resetAssert .supply ⟨675, true, false⟩).wf = false := by decide
theorem test_wf_scan_end : (Instr.scanEnd [1, 2]).wf = true ∧ (Instr.scanEnd [1, 1]).wf = false := by decide
theorem test_wf_lane_frame : (Instr.laneFrameComplete 0 [0xC3]).wf = false := by decide
theorem test_wf_body : ∀ body : List Byte, body.length = 1025 → (Instr.ident 0 body).wf = false := by
  intro body h
  simp [Instr.wf, bodyOk, h]
theorem test_wf_verify : (Instr.recordWriteComplete [(673, 0)] true).wf = true ∧
    (Instr.recordWriteComplete [(674, 0)] true).wf = false := by decide
theorem test_wf_page : (Instr.tiePageArrive [0x00]).wf = false ∧ (Instr.tiePageOverlength []).wf = false ∧
    (Instr.tieByteGapTimeout []).wf = false := by decide
theorem test_wf_frame : (Instr.hostFrameComplete [0xA5, 0x5A]).wf = false ∧
    (Instr.hostFrameOverlength [0xA5]).wf = false ∧ (Instr.hostByteGapTimeout [0xA5]).wf = false := by decide
theorem test_wf_unknown_kind : (Instr.unknownKind 0x60 0 []).wf = false ∧ (Instr.unknownKind 0x80 0 []).wf = false ∧
    (Instr.unknownKind 0x7E 0 []).wf = true := by decide

/-- No row of the table has bits (log 8). -/
theorem test_decode_none (n w : Nat) : decodeTableWord n w = none := rfl

/-- A request of the table is no unknown kind. -/
theorem test_per_instr : Laws.Operands.Statement (.restart 3 []) := Laws.Operands.restart 3 []

/-! ### Worked examples of the manual -/

/-- 2.10: 60 000 mHz gives n = 4 267. -/
theorem test_window_length : windowLength 60000 = 4267 ∧ windowLength 50000 = 5120 := by decide

/-- 2.10: points 1 and 1 023 of channel 27 (delay +64) and 0 and 1 of channel 3 (delay −256), on codes that rise by 1 024. -/
theorem test_resample :
    resample #[-1024, 0, 1024, 2048, 3072, 4096, 5120] 4267 64 1 = 1024 * 4523 ∧
    resample #[-1024, 0, 1024, 2048, 3072, 4096, 5120] 4267 (-256) 0 = 1024 * (-1024) ∧
    resample #[-1024, 0, 1024, 2048, 3072, 4096, 5120] 4267 (-256) 1 = 1024 * 3243 := by decide

/-- 4.10: products and accumulators of the worked contribution. -/
theorem test_products : energyProduct 5120 15897975218000 = 81397633116160000 ∧
    energyProduct 5120 (-180931819500) = -926370915840000 := by decide

theorem test_accumulate : (⟨1204, 100000000000000⟩ : Acc).add 81397633116160000 = ⟨1911, 51233116160000⟩ ∧
    (⟨96, 0⟩ : Acc).add 926370915840000 = ⟨104, 4770915840000⟩ ∧
    (⟨17, 30000000000000⟩ : Acc).add 211200000000000 = ⟨19, 10800000000000⟩ := by decide

/-- 4.10: √(24 000² + 32 000²) = 40 000 mA. -/
theorem test_current : sqrtHalfUp (24000 ^ 2 + 32000 ^ 2) 1 = 40000 := by decide

/-- 4.12: the power clamp, and QI at its greatest value. -/
theorem test_clamp : energyProduct 5120 2000000000000000 = 5120000000000000000 ∧
    overPower 2000000000000000 = true := by decide

theorem test_saturate : (⟨4294967290, 100000000000000⟩ : Acc).add 926370915840000 = ⟨4294967295, 104770915840000⟩ ∧
    (⟨4294967290, 100000000000000⟩ : Acc).saturates 926370915840000 = true := by decide

/-- 8.1: a SUMMARY body of four slots has 1 970 bytes, so a longer one is over-length. -/
theorem test_over_length : pageOver [0x96, 0x10, 0, 0xB3, 0x07] = true ∧ pageOver [0x96, 0x10, 0, 0xB2, 0x07] = false := by
  decide

/-! ### States -/

/-- RUNNING, with the archive IDLE and nothing queued. -/
def running : State := { State.reset with op := .running, archive := { Archive.initial with state := .idle } }

/-- The reset line asserted. -/
def halted : State := { State.reset with resetLine := true }

/-- Supply absent. -/
def dark : State := { State.reset with unpowered := true }

/-- RUNNING with accounts 0 and 1 enabled. -/
def metering : State :=
  { running with settings := { Settings.default with enabled := Table.make fun a => a.val < 2, tieEnable := true } }

/-- A topology record of 20 bytes. -/
def record : Record := .topology ⟨none, 1, 3, 7, 0, 9, false⟩

/-- Segment 0 OPEN and empty, a record write in progress. -/
def writing : State :=
  { running with
    queue := [record]
    nv := { running.nv with segments := running.nv.segments.put 0 ⟨.opened, 1, []⟩ }
    archive := { running.archive with state := .writing, writing := true, head := some 0 } }

/-- The tie link in a state, in RUNNING. -/
def linked (x : TieState) : State := { metering with tie := { Tie.initial true with state := x } }

/-- What holds of the next state of one command. -/
def gives (c : Instr) (s : State) (f : State → Bool) : Bool :=
  match exec c s with
  | .next t => f t
  | _ => false

/-! ### One-step tests -/

/-- R102, R103: CLOSE_NOW with two accounts enabled places two records and advances the index. -/
theorem test_close_now : gives (.closeNow 5 []) metering (fun t =>
    decide (t.queue.length = 2 ∧ t.clock.index = 1 ∧ (t.msg.reply.map (·.body)) = some [1, 0, 0, 0, 1])) = true := by
  decide

/-- R107, R184: the warning in RUNNING closes every enabled account as PARTIAL. -/
theorem test_power_fail : gives .powerFailAssert metering (fun t =>
    decide (t.queue.length = 2 ∧ t.clock.part = 1 ∧ t.op = .closing)) = true := by
  decide

/-- R168: the first byte of STATE is the operating state, 0 in STARTING. -/
theorem test_state_starting : gives (.stateRequest 1 []) State.reset (fun t =>
    decide ((t.msg.reply.map fun r => byteAt r.body 0) = some 0)) = true := by
  decide

/-- R164: a request outside RUNNING is BUSY, an unknown kind is UNKNOWN_KIND. -/
theorem test_busy : gives (.closeNow 5 []) State.reset (fun t =>
    decide ((t.msg.reply.map (·.status)) = some .busy)) = true := by
  decide

theorem test_unknown : gives (.unknownKind 0x7E 5 []) State.reset (fun t =>
    decide ((t.msg.reply.map (·.status)) = some .unknownKind ∧
      (t.msg.reply.map (·.kind)) = some 0xFE)) = true := by
  decide

/-- R117: a write that verifies leaves 20 bytes in the segment. -/
theorem test_write : gives (.recordWriteComplete [] true) writing (fun t =>
    decide (t.queue = [] ∧ t.archive.writePos = 36 ∧ t.archive.state = .idle)) = true := by
  decide +kernel

/-- R110: at a paired secondary the clock makes no close of its own and a sync pulse does nothing. -/
theorem test_secondary : gives .syncPulse (linked .pairedSecondary) (fun t =>
    decide (t.clock.position = 0 ∧ t.clock.aligned = false)) = true := by
  decide

/-- R140: the fifth send without an acknowledgement is the last. -/
theorem test_resend : gives .tieResendTimer { linked .resolving with tie := { (linked .resolving).tie with
      inFlight := some (.role ⟨.either, 1, 1⟩), sendCount := 5 } } (fun t =>
    decide (t.tie.state = .down ∧ t.tie.inFlight = none)) = true := by
  decide

/-! ### Witnesses: the machine, supply, reset, operating states -/

theorem test_witness_StepRunsFront : State.reset.pending = [] ∧ ∃ t, exec .syncPulse metering = .next t := ⟨rfl, _, rfl⟩

/-- The factory image, and an image that fails its check. -/
theorem test_witness_PowerOnStart : halted.resetLine = true ∧ halted.unpowered = false ∧ dark.resetLine = false ∧
    dark.unpowered = true ∧ halted.nv.image = some Image.default ∧
    ({ halted with nv := { halted.nv with image := none } } : State).nv.image = none := by decide +kernel

/-- The first mark write of a clear has put 0 into copy 1, the second is under way in copy 0, which held mark 9. -/
def marking : State :=
  { running with
    store := some (.mark 0 0)
    nv := { running.nv with marks := (running.nv.marks.put 0 (some 9)).put 1 (some 0) }
    archive := { running.archive with state := .clearing, clear := .marking 1 } }

/-- R131: a stop between the two mark writes leaves the older mark, one within the second leaves 0. -/
theorem test_stop_between_marks :
    gives (.resetAssert .line ⟨0, false, true⟩) marking (fun t => decide (t.nv.mark = 9)) = true ∧
    gives (.resetAssert .line ⟨0, false, false⟩) marking (fun t => decide (t.nv.mark = 0)) = true := by
  decide +kernel

/-- R186: supply applied while the reset line is asserted starts nothing; the line's release does. -/
theorem test_supply_under_reset :
    gives .powerOn { halted with unpowered := true } (fun t =>
      decide (t.stopped = true) && gives .resetRelease t fun u => decide (u.stopped = false)) = true := by
  decide +kernel

/-- A part that erases segment 3 while a mark write runs. -/
def erasing : State :=
  { running with
    store := some (.mark 4 1)
    nv := { running.nv with segments := running.nv.segments.put 3 ⟨.reclaiming, 1, []⟩ }
    archive := { running.archive with state := .reclaiming, erase := some 3 } }

theorem test_witness_ResetAssertStops : erasing.stopped = false ∧ erasing.archive.writing = false ∧
    erasing.archive.erase = some 3 ∧ erasing.archive.erase ≠ some 4 ∧ halted.stopped = true ∧ dark.unpowered = true ∧
    halted.resetLine = true ∧ Instr.syncPulse ≠ .powerOn ∧ Instr.syncPulse ≠ .resetRelease ∧
    (∀ x cut, Instr.syncPulse ≠ .resetAssert x cut) ∧ Instr.syncPulse ≠ .powerFailAssert ∧
    Instr.syncPulse ≠ .powerFailRelease ∧ marking.stopped = false ∧ marking.archive.writing = false ∧
    marking.archive.clear = .marking 1 ∧ marking.store = some (.mark 0 0) ∧ marking.nv.marks.get 0 = some 9 ∧
    marking.nv.marks.get (1 - 0) = some 0 :=
  ⟨rfl, rfl, rfl, by decide, rfl, rfl, rfl, by decide, by decide, by simp, by decide, by decide, rfl, rfl, rfl, rfl,
    by decide, by decide⟩

theorem writing_headOpen : writing.headOpen 0 record [] := by
  unfold State.headOpen
  decide +kernel

/-- A head with an empty record area, and one that holds a record. -/
theorem test_witness_ResetAssertStops_write : writing.stopped = false ∧ writing.archive.writing = true ∧
    writing.headOpen 0 record [] ∧ writing.archive.erase ≠ some 0 ∧ (writing.nv.segments.get 0).area = [] ∧
    ({ writing with nv := { writing.nv with segments := writing.nv.segments.put 0 ⟨.opened, 1, [0x3C]⟩ } } : State
      ).nv.segments.get 0 ≠ ⟨.opened, 1, []⟩ :=
  ⟨rfl, rfl, writing_headOpen, by decide, by decide, by decide⟩

/-- A scan that finds a RETIRED, a broken, a torn OPEN and a second OPEN segment. -/
def messy : State :=
  let nv := State.reset.nv
  let torn : Table Segment 256 := (nv.segments.put 0 ⟨.retired, 0, []⟩).put 2 ⟨.opened, 1, [0x3C]⟩
  { State.reset with nv := { nv with segments := (torn.put 1 ⟨.broken, 0, []⟩).put 3 ⟨.opened, 2, []⟩ } }

theorem test_witness_ScanRepairsSegments : messy.stopped = false ∧ messy.op = .starting ∧
    messy.archive.state = .scanning ∧ (messy.nv.segments.get 0).marker = .retired ∧
    (messy.nv.segments.get 1).unclean = true ∧ (1 : Fin 256) ∉ [2] ∧ (1 : Fin 256) ∈ [1] ∧
    (messy.nv.segments.get 2).marker = .opened ∧ (messy.nv.segments.get 2).walk.torn = true ∧
    (messy.nv.segments.get 3).marker = .opened ∧ messy.openUntorn 3 ∧
    (∀ h, messy.openUntorn h → h ≠ 3 → (messy.nv.segments.get h).seq < (messy.nv.segments.get 3).seq) ∧
    ({ messy with warning := true } : State).warning = true := by
  refine ⟨rfl, rfl, rfl, by decide, by decide, by decide, by decide, by decide, by decide, by decide,
    ⟨by decide, by decide⟩, ?_, rfl⟩
  have hs : ∀ h, (messy.nv.segments.get h).marker = .opened → (messy.nv.segments.get h).walk.torn = false → h = 3 := by
    decide +kernel
  exact fun h hh hne => absurd (hs h hh.1 hh.2) hne

/-- Two OPEN segments with no torn slot and a FULL one, and a stored image that fails its check. -/
def twoOpen : State :=
  let nv := State.reset.nv
  let open2 : Table Segment 256 := (nv.segments.put 4 ⟨.opened, 1, []⟩).put 5 ⟨.opened, 2, []⟩
  { State.reset with
    warning := true
    notices := { State.reset.notices with latched := 0x08000#18 }
    nv := { nv with segments := open2.put 3 ⟨.full, 0, []⟩, image := none } }

/-- R136: of two OPEN segments the one with the higher open sequence number stays OPEN. -/
theorem test_two_open : twoOpen.openUntorn 4 ∧ twoOpen.openUntorn 5 ∧
    ((twoOpen.scanRepair []).nv.segments.get 4).marker = .full ∧
    (twoOpen.scanRepair []).nv.segments.get 5 = twoOpen.nv.segments.get 5 :=
  ⟨⟨by decide, by decide⟩, ⟨by decide, by decide⟩, by decide +kernel, by decide +kernel⟩

/-- A scan that finds an interval record of account 1, number 7, with an IMPORT carry of 5. -/
def archived : State :=
  let f := metering.formRecord 1 .clockMade none
  let r : Record := .interval { f with index := 7, mask := 0, orders := [], carries := { f.carries with imp := 5 } }
  { State.reset with nv := { State.reset.nv with segments := State.reset.nv.segments.put 0 ⟨.opened, 1, r.bytes⟩ } }

set_option maxRecDepth 20000 in
theorem test_witness_ScanEndEntersRunning : archived.stopped = false ∧ archived.op = .starting ∧
    archived.archive.state = .scanning ∧ archived.scanQuiet ∧ archived.warning = false ∧ ({ archived with warning := true } : State).warning = true ∧
    ((archived.nv.segments.get 0).walk.records.map fun r => (recIsInterval r.2, recAccount r.2, recIndex r.2)) =
      [(true, 1, 7)] ∧
    ({ archived with nv := { archived.nv with image := none } } : State).nv.image = none ∧ twoOpen.nv.image = none := by
  unfold State.scanQuiet
  decide +kernel

set_option maxRecDepth 20000 in
/-- R137, R156: the head, the write position, the next number and the last close pair come from the archive. -/
theorem test_scan_findings : archived.scanFind.archive.head = some 0 ∧ archived.scanFind.archive.writePos = 16 + 128 ∧
    archived.scanFind.archive.nextSeq = 2 ∧ archived.greatestPair = some (7, 0) := by
  decide +kernel

set_option maxRecDepth 20000 in
/-- R68, R156, R169, R183 (3): with the warning asserted the scan's end restores the carry, the stamp and the last close pair,
and the clock still reads 0. -/
theorem test_scan_end_under_warning : gives (.scanEnd []) { archived with warning := true } (fun t => decide (
    (t.accounts.get 1).mains.imp.residue = 5 ∧ (t.accounts.get 1).stamp = ⟨8, 0, 0⟩ ∧ t.tie.lastPair = some (7, 0) ∧
    t.op = .starting ∧ t.clock.index = 0 ∧ (t.accounts.get 1).recordIndex = 0)) = true := by
  decide +kernel

/-- CLOSING on the power-fail path. -/
def closing : State := { running with op := .closing, path := some .powerFail, warning := true }

theorem test_witness_PowerFailPath : metering.stopped = false ∧ metering.op = .running ∧
    halted.stopped = true ∧ State.reset.op ≠ .running ∧ closing.stopped = false ∧ closing.path = some .powerFail ∧
    closing.op = .closing ∧ closing.archive.writing = false ∧ closing.queue = [] ∧
    ({ writing with op := .closing, path := some .powerFail } : State).archive.writing = true ∧
    ({ closing with op := .dormant } : State).op = .dormant ∧
    ({ closing with archive := { closing.archive with state := .suspended, erase := some 3 } } : State).archive.state =
      .suspended ∧
    ({ closing with queue := [record], archive := { closing.archive with state := .stopped } } : State).archive.state =
      .stopped ∧ erasing.archive.state = .reclaiming ∧ erasing.queue.head? = none := by decide

/-- CLOSING on the power-fail path with a record queued, at a write position, where every other segment is RETIRED. -/
def draining (pos : Nat) : State :=
  { closing with
    queue := [record]
    nv := { closing.nv with segments := (Table.all ⟨.retired, 0, []⟩ : Table Segment 256).put 0 ⟨.opened, 1, []⟩ }
    archive := { closing.archive with head := some 0, writePos := pos } }

/-- The same in RUNNING, where segment 1, the next one, is erased. -/
def reclaiming : State :=
  { draining 32749 with
    op := .running, path := none, warning := false
    nv := { closing.nv with segments := ((draining 32749).nv.segments).put 1 ⟨.reclaiming, 1, []⟩ }
    archive := { (draining 32749).archive with state := .reclaiming, erase := some 1 } }

set_option maxRecDepth 20000 in
theorem test_witness_PowerFailPath_writer : (draining 32749).archive.state = .idle ∧ (draining 32749).archive.erase = none ∧
    (draining 32749).queue = [record] ∧ (draining 32749).fits record.bytes.length = false ∧
    (draining 32748).fits record.bytes.length = true ∧
    (let s : State := { draining 32749 with
       nv := { closing.nv with segments := Table.all ⟨.retired, 0, []⟩ }
       archive := { closing.archive with head := none } }
     s.nextSegment = none ∧ s.fits record.bytes.length = false) ∧
    reclaiming.archive.state = .reclaiming ∧ reclaiming.archive.writing = false ∧ reclaiming.archive.erase ≠ none ∧
    gives .powerFailAssert reclaiming (fun t => decide (t.nextSegment = reclaiming.archive.erase ∧
      t.queue.head? = some record ∧ t.fits record.bytes.length = false)) = true ∧
    (let s : State := { draining 32749 with
       nv := { closing.nv with segments :=
         (draining 32749).nv.segments.put 1 { archived.nv.segments.get 0 with marker := .full } } }
     s.nextSegment = some 1 ∧ (s.nv.segments.get 1).marker = .full ∧ s.reclaimAllowed 1 = false) := by decide +kernel

theorem running_free : running.free := ⟨rfl, rfl⟩

theorem running_ready : running.ready := ⟨running_free, rfl⟩

theorem metering_ready : metering.ready := ⟨⟨rfl, rfl⟩, rfl⟩

theorem test_witness_RestartPath : running.ready ∧
    (∃ (s : State) (f : HostFrame) (r : Reply), s.stopped = false ∧ s.op = .running ∧ s.msg = ⟨[f], some r, false⟩ ∧
      r.restart = true ∧ s.tie.state = .pairedPrimary) ∧
    (∃ s : State, s.stopped = false ∧ s.op = .closing ∧ s.path = some .restart ∧ s.queue = [] ∧
      s.archive.writing = false ∧ s.store = none ∧ s.tie.restartOpen = false) ∧
    ∃ s : State, s.op = .closing ∧ s.path = some .restart ∧ s.tie.restartOpen = true :=
  ⟨running_ready,
   ⟨{ linked .pairedPrimary with msg := ⟨[⟨0x7F, 1, []⟩], some ⟨0xFF, 1, .done, [], true⟩, false⟩ }, ⟨0x7F, 1, []⟩,
     ⟨0xFF, 1, .done, [], true⟩, rfl, rfl, rfl, rfl, rfl⟩,
   ⟨{ running with op := .closing, path := some .restart }, by decide⟩,
   ⟨{ running with op := .closing, path := some .restart, tie := { running.tie with restartOpen := true } }, by decide⟩⟩

/-! ### Witnesses: lanes, trackers, windows -/

/-- Lane 1 as given, in RUNNING. -/
def lane (x : Lane) : State := { running with lanes := running.lanes.put 1 x }

theorem test_witness_LanesTakeEvents : (lane ⟨true, none, none, 15, 0⟩).stopped = false ∧ running.op ≠ .starting ∧
    (List.replicate 29 (0 : Byte)).length = 29 ∧ ((lane ⟨true, none, none, 15, 0⟩).lanes.get 1).place = none ∧
    ((lane ⟨true, some [], none, 15, 0⟩).lanes.get 1).place ≠ none ∧ State.reset.op = .starting ∧
    ((lane ⟨true, none, none, 16, 0⟩).lanes.get 1).up = true ∧ ((lane ⟨true, none, none, 16, 0⟩).lanes.get 1).bad = 16 ∧
    ((lane ⟨true, none, none, 15, 0⟩).lanes.get 1).bad ≠ 16 ∧ ((lane ⟨false, none, none, 0, 64⟩).lanes.get 1).up = false ∧
    ((lane ⟨false, none, none, 0, 64⟩).lanes.get 1).good = 64 ∧
    ((lane ⟨false, none, none, 0, 63⟩).lanes.get 1).good ≠ 64 := by decide

/-- A good lane frame with counter 5 and slot 7 marked held. -/
def goodFrame : List Byte := withCrc ([0xC3, 5] ++ List.replicate 24 0 ++ [0x80])

theorem test_witness_RawSampleLanes :
    (lane ⟨true, some goodFrame, some 5, 0, 63⟩).stopped = false ∧ running.op ≠ .starting ∧
    (Lane.holdsGood ⟨true, some goodFrame, some 5, 0, 63⟩ goodFrame) ∧
    (Lane.holdsSound ⟨true, some goodFrame, some 4, 15, 0⟩ goodFrame) ∧
    (¬ Lane.holdsGood ⟨true, some goodFrame, some 4, 15, 0⟩ goodFrame) ∧
    (∀ f, ¬ Lane.holdsSound ⟨true, none, none, 16, 0⟩ f) ∧ channelPlace 6 = (1, 0) ∧
    (byteAt goodFrame 26).getLsbD 0 = false ∧ channelPlace 13 = (1, 7) ∧ (byteAt goodFrame 26).getLsbD 7 = true := by
  have h : Lane.holdsSound ⟨true, some goodFrame, some 5, 0, 63⟩ goodFrame := by
    unfold Lane.holdsSound
    decide +kernel
  refine ⟨rfl, by decide, ⟨h, .inr (by decide)⟩, h, ?_, (fun f hf => by cases hf.1), by decide, by decide, by decide,
    by decide⟩
  rintro ⟨_, h | h⟩
  · cases h
  · exact absurd h (by decide)

/-- A good lane frame with counter 5 whose slot 0 carries the code 8 388 607. -/
def extremeFrame : List Byte := withCrc ([0xC3, 5, 0xFF, 0xFF, 0x7F] ++ List.replicate 21 0 ++ [0])

/-- Lane 1 delivers that frame to channels whose scale is nonzero. -/
def clipping : State :=
  { lane ⟨true, some extremeFrame, some 5, 0, 63⟩ with settings := { running.settings with scale := Table.all 1000 } }

theorem test_witness_RawSampleLanes_clip : clipping.stopped = false ∧ clipping.op ≠ .starting ∧
    Lane.holdsGood ⟨true, some extremeFrame, some 5, 0, 63⟩ extremeFrame ∧
    channelPlace 6 = (1, 0) ∧ (byteAt extremeFrame 26).getLsbD 0 = false ∧
    ofLeInt (slice extremeFrame 2 3) = 8388607 ∧ clipping.settings.scale.get 6 ≠ 0 ∧
    (clipping.channels.get 6).clip = false ∧ clipping.settleSample = clipping ∧
    clipping.notices.laneErrors.get 0 + 1 ≤ 65535 := by
  refine ⟨rfl, by decide, ⟨?_, .inr (by decide)⟩, by decide, by decide, by decide, by decide, by decide,
    State.settleSample_settled _ ⟨by decide, by decide, by decide, by decide⟩, by decide⟩
  unfold Lane.holdsSound
  decide +kernel

theorem running_settled : running.settleSample = running :=
  State.settleSample_settled _ ⟨by decide, by decide, by decide, by decide⟩

/-- RUNNING with the interval clock at a position. -/
def clockAt (p : Nat) (x : TieState) : State := { linked x with clock := { metering.clock with position := p, closeReady := true } }

/-- A position found at L by a link that has just left PAIRED_SECONDARY. -/
def unready : State :=
  { clockAt 28800000 .solo with clock := { (clockAt 28800000 .solo).clock with closeReady := false } }

/-- R110: after PAIRED_SECONDARY was left at L the close falls at the next raw sample, not before, and to position 0. -/
theorem test_close_after_secondary : gives .clockMadeClose unready (fun t => decide (t = unready)) = true ∧
    gives .rawSampleInstant unready (fun t => decide (t.clock.position = 28800000 ∧ t.clock.index = 0) &&
      gives .clockMadeClose t fun u => decide (u.clock.position = 0 ∧ u.clock.index = 1)) = true := by
  decide +kernel

theorem test_witness_RawSampleClock : State.reset.op = .starting ∧ (clockAt 28799999 .solo).op ≠ .starting ∧
    (clockAt 28799999 .solo).clock.position < (clockAt 28799999 .solo).clock.samples ∧
    (clockAt 28800000 .solo).clock.samples ≤ (clockAt 28800000 .solo).clock.position ∧
    (clockAt 28800000 .solo).tie.state ≠ .pairedSecondary ∧ (clockAt 28800000 .solo).clock.index < Config.max32 ∧
    (clockAt 28800000 .solo).clock.closeReady = true ∧ unready.clock.closeReady = false ∧
    unready.clock.samples ≤ unready.clock.position ∧ unready.tie.state ≠ .pairedSecondary ∧
    0 < (clockAt 28800000 .solo).clock.pendingLength.getD (clockAt 28800000 .solo).clock.length ∧
    (clockAt 28800000 .pairedSecondary).tie.state = .pairedSecondary ∧
    (running.timebases.get 0).window = none ∧ running.arrangement.cuts 0 = true := by decide

/-- COMMON with leader 1. -/
def joined : State :=
  { running with selector := { running.selector with content := some ⟨1, 1, .common 1, [⟨0, .tap 0, true⟩]⟩ } }

/-- SEPARATE with a window of timebase 0 in progress. -/
def startingOne : State :=
  { running with timebases := running.timebases.put 0 ⟨1, some { running.newWindow 0 with n := 5 }, none⟩ }

theorem test_witness_RawSampleClock_start : running.settleSample = running ∧ running.arrangement = .separate ∧
    running.settings.binding.get 0 = 0 ∧
    joined.settleSample = joined ∧ joined.arrangement = .common 1 ∧ joined.arrangement.cuts 1 = true ∧
    (joined.timebases.get 1).window = none ∧ startingOne.settleSample = startingOne ∧
    (startingOne.timebases.get 1).window = none ∧ startingOne.arrangement.cuts 1 = true ∧
    (startingOne.timebases.get 0).window ≠ none ∧
    (let s : State := { startingOne with trackers := startingOne.trackers.change 0 fun x => { x with state := .locked } }
     (s.newWindow 0).locked = true ∧ (s.trackers.get 0).state = .locked) ∧
    (running.lanes.get 0).downAt ∧ ¬ (⟨true, none, none, 15, 0⟩ : Lane).downAt ∧ (⟨true, none, none, 16, 0⟩ : Lane).downAt ∧
    ¬ (⟨false, none, none, 0, 64⟩ : Lane).downAt ∧
    ∀ v w, (startingOne.timebases.get v).window = some w → w.rows.length < w.n := by
  refine ⟨running_settled, rfl, by decide, State.settleSample_settled _ ⟨by decide, by decide, by decide, by decide⟩, rfl,
    by decide, by decide, State.settleSample_settled _ ⟨by decide, by decide, by decide, by decide⟩, by decide, by decide,
    by decide, by decide, by unfold Lane.downAt; decide, by unfold Lane.downAt; decide, by unfold Lane.downAt; decide,
    by unfold Lane.downAt; decide, ?_⟩
  intro v w h
  match v with
  | 0 => cases h; decide
  | 1 => cases h

/-- Tracker 0 as given, in RUNNING. -/
def tracker (x : Tracker) : State := { running with trackers := running.trackers.put 0 x }

theorem test_witness_TrackersTakeEvents : running.stopped = false ∧
    (({ Tracker.initial with opened := some 3, since := 760 } : Tracker).opened ≠ none ∧
      760 ≤ ({ Tracker.initial with since := 760 } : Tracker).since) ∧
    ({ Tracker.initial with opened := some 3, since := 759 } : Tracker).since < 760 ∧
    ((tracker { Tracker.initial with count := 640 }).trackers.get 0).ref = none ∧
    640 ≤ ((tracker { Tracker.initial with count := 640 }).trackers.get 0).count ∧
    ((tracker { Tracker.initial with count := 639 }).trackers.get 0).count < 640 ∧
    ((tracker { Tracker.initial with state := .holdover, holdover := 25 }).trackers.get 0).holdover = 25 ∧
    ((tracker { Tracker.initial with state := .holdover, holdover := 24 }).trackers.get 0).holdover < 25 := by decide

/-- A tracker 640 samples into a cycle of phase A at full scale, with three good cycles behind it. -/
def cycling (x : TrackerState) : Tracker :=
  { Tracker.initial with
    state := x, ref := some 0, run := [50000, 50000, 50000], opened := some 0, since := 639, count := 640
    sumSq := Table.all (640 * 8388607 ^ 2) }

/-- Settings under which full scale is present. -/
def present : Settings := { Settings.default with scale := Table.all 2000000000 }

/-- R9, R11: a fourth cycle of 50 000 mHz locks; R12: a cycle without presence turns LOCKED into HOLDOVER. -/
theorem test_cycle : ((cycling .acquiring).closeCycle present 0 0 0).state = .locked ∧
    ((cycling .acquiring).closeCycle present 0 0 0).freq = 50000 ∧
    ((cycling .locked).closeCycle Settings.default 0 0 0).state = .holdover := by decide +kernel

set_option maxRecDepth 20000 in
theorem test_witness_TrackersMeasureCycles : (cycling .locked).presentOver present 0 0 ∧
    ¬ (cycling .locked).presentOver Settings.default 0 0 ∧ (2 * 8192000000 + 163840) / (2 * 163840) = 50000 ∧
    (∃ y : SetSample, y.before.get 0 < 0 ∧ 0 ≤ y.now.get 0 ∧ y.held.get 0 = true) ∧ 256 ≤ (cycling .locked).since ∧
    Arrangement.common 0 = .common (other 1) ∧ Arrangement.separate ≠ .common (other 1) ∧
    (cycling .following).state = .following ∧ (cycling .acquiring).state ≠ .following ∧
    ((cycling .following).run.length = 3 ∧ (Tracker.initial.run = [])) ∧ running.stopped = false ∧
    running.op ≠ .starting ∧ running.settleSample = running :=
  ⟨⟨rfl, by decide, by decide +kernel⟩, fun h => absurd h.2.1 (by decide), by decide,
    ⟨⟨Table.all (-1), Table.all 1, Table.all true, false⟩, by decide⟩, by decide, by decide, by decide, rfl, by decide,
    ⟨rfl, rfl⟩, rfl, by decide, running_settled⟩

/-- A window of timebase 0 with one raw sample. -/
def window (n : Nat) : Window := { running.newWindow 0 with n := n, rows := [Table.all 0] }

/-- RUNNING with that window, the export set's, at a paired unit. -/
def windowed (n : Nat) : State :=
  { linked .pairedPrimary with
    settings := { metering.settings with exportSlots := Table.make fun j => if j.val = 0 then [⟨0, true⟩] else [] }
    timebases := running.timebases.put 0 ⟨1, some (window n), none⟩ }

/-- A plan of account 0 with tap 0 and peer slot 0. -/
def plan : PlanContent := ⟨1, 1, .separate, [⟨0, .tap 0, true⟩, ⟨0, .peer 0, true⟩]⟩

/-- The same, with plan 0 pending and plan 1 active. -/
def switching : State :=
  { windowed 1 with selector := { (windowed 1).selector with
      slots := Table.make fun p => if p.val < 2 then some ⟨plan, true⟩ else none
      active := some 1, content := some plan, pendingPlan := some 0 } }

/-- The same with the content of plan 1, the active one, replaced, where switch word 1 matches plans 0 and 1. -/
def replacing : State :=
  { switching with selector := { switching.selector with
      pendingPlan := some 1, replacement := true
      inputs := Table.make fun i => ⟨some (i.val == 0), some (i.val == 0), none⟩ } }

/-- R37, R39, R41 (6): selection after the replacement finds the lower plan 0, whose switch is pending then. -/
theorem test_replacement_selects : ((replacing.applyPlan 0 1 1 plan).selector.pendingPlan = some 0 ∧
    (replacing.applyPlan 0 1 1 plan).selector.active = some 1) := by
  decide +kernel

theorem test_witness_WindowCompletes : (windowed 1).stopped = false ∧
    ((windowed 1).timebases.get 0).window = some (window 1) ∧ (window 1).n ≤ (window 1).rows.length ∧
    (windowed 1).selector.pendingPlan = none ∧ (window 2).rows.length < (window 2).n :=
  ⟨rfl, rfl, by decide, rfl, by decide⟩

theorem test_witness_PhasorsAreFormed :
    (let w : Window := { window 1 with scale := Table.all 1000000 }
     let s : State := { windowed 1 with timebases := running.timebases.put 0 ⟨1, some w, none⟩ }
     s.stopped = false ∧ (s.timebases.get 0).window = some w ∧ w.n ≤ w.rows.length ∧
       ownsChannel w.ownsSet w.ownsTap 0 = true ∧ w.scale.get 0 ≠ 0 ∧ w.scale.get 0 ≤ 2000000000 ∧
       ∀ c, w.prior.get c = 0) := by decide +kernel

theorem test_witness_WindowIsAccounted : (windowed 1).selector.active = none ∧
    ({ switching with selector := { switching.selector with pendingPlan := none } } : State).selector.active = some 1 ∧
    switching.selector.content = some plan ∧ switching.arrangement.governing ≠ 1 := by decide

theorem test_witness_PlanSwitchApplies : switching.stopped = false ∧ switching.op = .running ∧
    (switching.timebases.get 0).window = some (window 1) ∧ switching.arrangement.governing = 0 ∧
    switching.selector.pendingPlan = some 0 ∧ switching.selector.slots.get 0 = some ⟨plan, true⟩ ∧
    switching.queue.length < 32 ∧ 32 ≤ (List.replicate 32 record).length ∧
    ({ plan with arrangement := .common 1 } : PlanContent).arrangement ≠ switching.arrangement ∧
    switching.isEnabled 0 = true ∧ (∃ m ∈ plan.members, m.account = 0 ∧ ∃ j, m.point = .peer j) ∧
    (linked .solo).tie.state ≠ .pairedPrimary ∧ switching.tie.state = .pairedPrimary ∧
    replacing.stopped = false ∧ replacing.op = .running ∧ replacing.selector.pendingPlan = some 1 ∧
    replacing.selector.active = some 1 ∧ replacing.selector.word = some 1 ∧ switching.selector.word = none ∧
    replacing.selector.matches 1 0 ∧ ¬ replacing.selector.matches 0 0 ∧
    ownsChannel (window 1).ownsSet (window 1).ownsTap 0 = true ∧ ownsChannel (window 1).ownsSet (window 1).ownsTap 3 = false ∧
    (switching.timebases.get 1).window = none ∧ plan.memberTaps 0 (window 1) = [⟨0, true⟩] ∧
    plan.memberPeers 0 = [⟨0, true⟩] ∧ plan.memberTaps 1 (window 1) = [] ∧
    (∃ ow : Window, ow.ownsTap.get 0 = true ∧ plan.loses 0 ow ∧ ¬ plan.loses 1 ow) :=
  ⟨rfl, rfl, rfl, rfl, rfl, by decide, by decide, by decide, by decide, by decide,
    ⟨⟨0, .peer 0, true⟩, by decide, rfl, 0, rfl⟩, by decide, rfl,
    rfl, rfl, rfl, rfl, by decide, by decide, ⟨⟨plan, true⟩, by decide, by decide⟩,
    (by rintro ⟨sl, h, hm⟩; cases h; exact absurd hm (by decide)),
    by decide, by decide, by decide, by decide, by decide, by decide,
    ⟨{ window 1 with ownsTap := Table.all true }, by decide,
      ⟨⟨0, .tap 0, true⟩, by decide, rfl, 0, rfl, by decide⟩, by
        rintro ⟨m, hm, ha, -⟩
        simp only [plan, List.mem_cons, List.not_mem_nil, or_false] at hm
        rcases hm with rfl | rfl <;> simp at ha⟩⟩

/-! ### Witnesses: accounting, switch inputs, plans -/

/-- A contribution with given fundamental products and order currents of 6 mA. -/
def contribution (p q : Int) : Contribution :=
  ⟨.peer, 1, 1, 5120, p, q, Table.all 0, Table.all 6, false, false, false, false, false, false⟩

theorem test_witness_EnergyIsAccumulated : (⟨4294967294, 0⟩ : Acc).saturates 115200000000000 = false ∧
    (⟨4294967295, 0⟩ : Acc).saturates 115200000000000 = true ∧ 0 < (contribution 1 0).p1n ∧
    0 ≤ (contribution 1 0).q1n ∧ (contribution (-1) 0).p1n < 0 ∧ (contribution 0 1).p1n ≤ 0 ∧
    0 < (contribution 0 1).q1n ∧ (contribution 0 (-1)).q1n < 0 ∧ (contribution 0 0).p1n = 0 ∧
    (let c := contribution 1 0
     (c.track || c.held || c.clip || c.absent || c.clamped || c.incomplete) = false ∧
       ({ c with held := true } : Contribution).held = true) := by decide

/-- Account 0 with limits of `x` mA and nine consecutive exceedances. -/
def limited (x : Nat) : State :=
  { metering with accounts := metering.accounts.change 0 fun a =>
      { a with limits := Table.all x, consecutive := Table.all 9 } }

theorem test_witness_LimitsAreChecked : ((limited 5).accounts.get 0).limits.get 0 ≠ 0 ∧
    ((limited 5).accounts.get 0).limits.get 0 < (contribution 1 1).currents.get ⟨1, by omega⟩ ∧
    ((limited 5).accounts.get 0).consecutive.get 0 = 9 ∧
    (contribution 1 1).currents.get ⟨1, by omega⟩ ≤ ((limited 6).accounts.get 0).limits.get 0 ∧
    ((limited 0).accounts.get 0).limits.get 0 = 0 := by decide

/-- Every switch input as given, in RUNNING. -/
def inputs (x : SwitchInput) : State :=
  { running with selector := { running.selector with inputs := Table.all x } }

theorem test_witness_SwitchInputsAreDebounced : running.stopped = false ∧ running.op ≠ .starting ∧
    (∀ i, (running.selector.inputs.get i).due = false) ∧ running.selector.firstDue = false ∧
    ((inputs ⟨some true, some true, none⟩).selector.inputs.get 0).level = some true ∧
    ((inputs ⟨some true, some true, some ⟨49, 50⟩⟩).selector.inputs.get 0).timer = some ⟨49, 50⟩ ∧
    State.reset.op = .starting ∧ ((inputs ⟨some true, some false, some ⟨50, 50⟩⟩).selector.inputs.get 0).level ≠ none ∧
    (∀ i, ((inputs ⟨none, some true, some ⟨50, 50⟩⟩).selector.inputs.get i).level = none) ∧
    (∀ i, ((inputs ⟨none, some true, some ⟨50, 50⟩⟩).selector.inputs.get i).timer = some ⟨50, 50⟩) := by decide

/-- RUNNING with a pending buffer for slot 0 that holds the given members. -/
def buffered (ms : List Member) : State :=
  { running with selector := { running.selector with buffer := some ⟨0, ms⟩ } }

/-- A member: account 0 at a tap. -/
def tap (k : Fin 8) : Member := ⟨0, .tap k, true⟩

theorem test_witness_PlanOpenAndDropAnswer : running.ready ∧ 7 < (8 : Byte).toNat ∧ (7 : Byte).toNat ≤ 7 ∧
    (buffered []).ready ∧ (buffered []).selector.buffer ≠ none ∧ (7 : Byte).toNat = (7 : Fin 8).val ∧
    running.selector.buffer = none :=
  ⟨running_ready, by decide, by decide, ⟨⟨rfl, rfl⟩, rfl⟩, by decide, by decide, rfl⟩

theorem test_witness_PlanOpenAndDropAnswer_drop : (buffered []).ready ∧ (buffered []).selector.buffer ≠ none ∧
    running.selector.buffer = none ∧ ∃ (t : State) (r : Reply), exec (.planAdd 1 [0]) (buffered []) = .next t ∧
      t.msg.reply = some r ∧ r.status ≠ .done :=
  ⟨⟨⟨rfl, rfl⟩, rfl⟩, by decide, rfl, _, ⟨0xA1, 1, .range, [], false⟩, rfl, by decide, by decide⟩

theorem test_witness_PlanAddAnswers : (buffered [tap 0]).ready ∧ running.selector.buffer = none ∧
    (buffered [tap 0]).selector.buffer = some ⟨0, [tap 0]⟩ ∧ (0 : Byte).toNat = 0 ∧ 8 < (9 : Byte).toNat ∧
    ([0, 0, 0] : List Byte).length ≠ 4 * (1 : Byte).toNat ∧
    ([0, 2, 0, 1] : List Byte) = ([] : List Member).flatMap Member.bytes ++ [0, 2, 0, 1] ++ [] ∧
    ([16, 0, 0, 1] : List Byte) = ([] : List Member).flatMap Member.bytes ++ [16, 0, 0, 1] ++ [] ∧
    1 ≤ [tap 7].length ∧ [tap 7].length ≤ 8 ∧ (List.replicate 31 (tap 0)).length + 1 ≤ 32 ∧
    32 < (List.replicate 32 (tap 0)).length + 1 :=
  ⟨⟨⟨rfl, rfl⟩, rfl⟩, rfl, rfl, by decide⟩

theorem test_witness_PlanConfirmAnswers : (buffered [tap 0]).ready ∧ running.selector.buffer = none ∧
    (buffered [tap 0]).selector.buffer = some ⟨0, [tap 0]⟩ ∧ (buffered [tap 0]).store = none ∧
    ({ buffered [tap 0] with store := some (.mark 1 0) } : State).store ≠ none ∧
    (buffered []).selector.buffer = some ⟨0, []⟩ ∧
    ¬ ([tap 0, tap 0].map fun m => (m.account, m.point)).Nodup ∧
    ([tap 0].map fun m => (m.account, m.point)).Nodup ∧ (2 : Byte) &&& ~~~(1 : Byte) ≠ 0 ∧
    (1 : Byte) &&& ~~~(1 : Byte) = 0 ∧ (1 : Byte).toNat = (1 : Fin 2).val ∧
    ({ buffered [tap 0] with selector := { (buffered [tap 0]).selector with active := some 0 } } : State
      ).selector.active = some 0 :=
  ⟨⟨⟨rfl, rfl⟩, rfl⟩, rfl, rfl, by decide +kernel⟩

theorem test_witness_PlanClearAnswers : switching.ready ∧ (2 : Byte).getLsbD (1 : Fin 8).val = true ∧
    switching.selector.active = some 1 ∧ (1 : Byte).getLsbD (0 : Fin 8).val = true ∧
    switching.selector.slots.get 0 = some ⟨plan, true⟩ ∧ switching.store = none ∧
    ({ switching with store := some (.mark 1 0) } : State).store ≠ none ∧ (0 : Byte).getLsbD (0 : Fin 8).val = false :=
  ⟨⟨⟨rfl, rfl⟩, rfl⟩, by decide, by decide, by decide, by decide, rfl, by decide +kernel, by decide⟩

/-! ### Witnesses: requests that read, notices, limits, intervals -/

theorem test_witness_IdentAndStateAnswer : State.reset.free ∧ State.reset.archive.state = .scanning ∧ running.free ∧
    running.archive.state ≠ .scanning := ⟨⟨rfl, rfl⟩, rfl, running_free, by decide⟩

theorem test_witness_ReadsAnswer : switching.ready ∧ ([15, 1, 0, 0, 0, 0, 0] : List Byte).length = 7 ∧
    field ([16, 1, 0, 0, 0, 0, 0] : List Byte) 0 1 = 16 ∧ field ([15, 128, 0, 0, 0, 0, 0] : List Byte) 1 1 = 128 ∧
    (field ([15, 4, 0, 0, 0, 0, 0] : List Byte) 1 1).testBit 2 = true ∧
    field ([15, 4, 0, 0, 0, 0, 0] : List Byte) 2 5 = 0 ∧ accountReadSize 127 1 ≤ 1024 ∧
    1024 < accountReadSize 127 (2 ^ 40 - 1) ∧ (switching.settings.name.get 15).length = 8 ∧ 15 < (16 : Byte).toNat ∧
    (15 : Byte).toNat = (15 : Fin 16).val ∧ 7 < (8 : Byte).toNat ∧ switching.selector.slots.get 7 = none ∧
    switching.selector.slots.get 1 = some ⟨plan, true⟩ ∧
    field ([0, 6] : List Byte) 0 2 = SettingId.reclaim.id ∧ running.tie.lastPair = none ∧
    running.tie.inFlight = none ∧
    (field ([15, 127, 3, 0, 0, 0, 64] : List Byte) 2 5).testBit (38 : Fin 39).val = true ∧
    (field ([15, 127, 3, 0, 0, 0, 64] : List Byte) 2 5).testBit 1 = true ∧
    accountReadSize 127 (field ([15, 127, 3, 0, 0, 0, 64] : List Byte) 2 5) ≤ 1024 :=
  ⟨⟨⟨rfl, rfl⟩, rfl⟩, by decide +kernel⟩

/-- An id of no setting. -/
theorem test_no_setting (i : SettingId) : field ([0, 0] : List Byte) 0 2 ≠ i.id := by
  have h : field ([0, 0] : List Byte) 0 2 = 0 := by decide
  rw [h]
  cases i <;> simp only [SettingId.id] <;> omega

/-- A completed window in timebase 0's table. -/
def tabled : State :=
  { running with timebases := running.timebases.put 0 ⟨2, none, some ((window 1).toTable running.channels)⟩ }

theorem test_witness_SnapshotAnswers : tabled.ready ∧ ([0, 1, 0, 0, 0, 1, 0, 0, 0, 0] : List Byte).length = 10 ∧
    field ([0, 1, 0, 0, 0, 1, 0, 0, 0, 0] : List Byte) 1 4 = 1 ∧ field ([0, 0, 0, 0, 64] : List Byte) 1 4 = 2 ^ 30 ∧
    (running.timebases.get 0).table = none ∧ (tabled.timebases.get 0).table.isSome = true ∧
    24 + countBits 30 (2 ^ 30 - 1) * (8 + 8 * countBits 40 3) = 744 ∧
    1024 < 24 + countBits 30 (2 ^ 30 - 1) * (8 + 8 * countBits 40 7) + 64 ∧ (1 : Nat).testBit (0 : Fin 30).val = true :=
  ⟨⟨⟨rfl, rfl⟩, rfl⟩, by decide, by decide, by decide, rfl, rfl, by decide, by decide, by decide⟩

theorem test_witness_NoticesAreTaken : State.reset.free ∧ running.ready ∧ running.settings.attentionMode = .level ∧
    running.settings.noticeMask.getLsbD 17 = false ∧
    ({ running with settings := { running.settings with attentionMode := .pulseAny } } : State).settings.attentionMode =
      .pulseAny ∧ running.notices.latched.getLsbD 17 = false ∧ running.stopped = false :=
  ⟨⟨rfl, rfl⟩, running_ready, rfl, by decide, rfl, by decide, rfl⟩

/-- R177 (2): CLOSED pulses the line in PULSE_CLOSE though it is masked. -/
theorem test_witness_NoticesAreTaken_pulse :
    (let s : State := { metering with settings := { metering.settings with attentionMode := .pulseClose, noticeMask := 0x3FFFF#18 } }
     s.ready ∧ s.settings.attentionMode = .pulseClose ∧ s.tie.state ≠ .pairedSecondary ∧ s.clock.index < Config.max32 ∧
       s.enabledAccounts ≠ [] ∧ s.queue.length + s.enabledAccounts.length ≤ 32 ∧
       gives (.closeNow 5 []) s (fun t => t.attentionLine) = true) ∧ running.enabledAccounts = [] :=
  ⟨⟨⟨⟨rfl, rfl⟩, rfl⟩, rfl, by decide, by decide, by decide, by decide, by decide +kernel⟩, by decide⟩

theorem test_witness_LimitLoadAndPeakSwapAnswer : metering.ready ∧ 15 < (16 : Byte).toNat ∧
    40 < (40 : Byte).toNat + (2 : Byte).toNat - 1 ∧ (15 : Byte).toNat = (15 : Fin 16).val ∧ 2 ≤ (2 : Byte).toNat ∧
    (2 : Byte).toNat + (39 : Byte).toNat - 1 ≤ 40 ∧ (39 : Byte).toNat ≤ 39 ∧
    ([1, 0, 0] : List Byte).length ≠ 4 * (1 : Byte).toNat ∧ (List.replicate 156 (0 : Byte)).length = 4 * (39 : Byte).toNat ∧
    ({ metering with store := some (.mark 1 0) } : State).store ≠ none ∧ metering.store = none ∧
    ([3, 0, 0, 0, 0] : List Byte).length = 5 ∧ metering.selector.content = none ∧
    joined.selector.content = some ⟨1, 1, .common 1, [⟨0, .tap 0, true⟩]⟩ ∧ (metering.timebases.get 0).table = none ∧
    (tabled.timebases.get 0).table ≠ none :=
  ⟨metering_ready, by decide +kernel⟩

theorem test_witness_NormalClosesAreTaken : (clockAt 28800000 .solo).stopped = false ∧
    (clockAt 28800000 .solo).op ≠ .starting ∧ (clockAt 28800000 .solo).tie.state ≠ .pairedSecondary ∧
    (clockAt 28800000 .solo).clock.index ≤ Config.max32 ∧
    (clockAt 28800000 .solo).clock.samples ≤ (clockAt 28800000 .solo).clock.position ∧
    (clockAt 28800000 .solo).clock.closeReady = true ∧ unready.clock.closeReady = false ∧
    (clockAt 28799999 .solo).clock.position < (clockAt 28799999 .solo).clock.samples ∧
    ({ clockAt 28800000 .solo with clock := ⟨4294967295, 7, 28800000, 15, none, false, false, true⟩ } : State
      ).clock.index = Config.max32 ∧
    (let s : State := { clockAt 27840000 .solo with clock := { (clockAt 27840000 .solo).clock with aligned := true } }
     s.clock.aligned = true ∧ s.clock.samples ≤ s.clock.position + s.settings.syncWindow * 32000) ∧
    (clockAt 0 .pairedSecondary).tie.state = .pairedSecondary ∧ (clockAt 0 .solo).clock.index < Config.max32 ∧
    (clockAt 0 .solo).queue.length + (clockAt 0 .solo).enabledAccounts.length ≤ 32 ∧
    32 < (List.replicate 31 record).length + (clockAt 0 .solo).enabledAccounts.length ∧
    (clockAt 0 .solo).enabledAccounts ≠ [] ∧ running.enabledAccounts = [] := by decide

theorem linked_ready (x : TieState) : (linked x).ready := ⟨⟨rfl, rfl⟩, rfl⟩

theorem test_witness_CloseNow : (linked .pairedSecondary).ready ∧ (linked .solo).ready ∧
    (linked .solo).tie.state ≠ .pairedSecondary := ⟨linked_ready _, linked_ready _, by decide⟩

/-- The clock with alignment, late allowance and position as given. -/
def synced (aligned late : Bool) (p : Nat) : State :=
  { linked .solo with clock := ⟨3, 0, p, 15, none, aligned, late, false⟩ }

/-- The same, unaligned, with content. -/
def contented : State :=
  { synced false false 5 with accounts := metering.accounts.change 0 fun a => { a with windows := 1 } }

/-- The same at the greatest index, with no place left in the queue. -/
def contentedLast : State :=
  { contented with clock := { contented.clock with index := Config.max32 }, queue := List.replicate 48 record }

/-- R100, R107: the span of an account not formed is raised at the greatest index too. -/
theorem test_sync_span_at_last_index : gives .syncPulse contentedLast (fun t => decide (
    (t.accounts.get 0).span = (contentedLast.accounts.get 0).span + 1 ∧ (t.accounts.get 0).flags.extended = true ∧
    t.clock.index = Config.max32 ∧ t.queue.length = 48)) = true := by
  decide +kernel

theorem test_witness_SyncPulsesAlign : (contentedLast.hasContent = true ∧ contentedLast.clock.aligned = false ∧
    contentedLast.clock.index = Config.max32) ∧ (synced true true 959999).op ≠ .starting ∧
    (synced true true 959999).tie.state ≠ .pairedSecondary ∧ (synced true true 959999).clock.aligned = true ∧
    (synced true true 959999).clock.position + 30 * 32000 < (synced true true 959999).clock.samples ∧
    (synced true true 959999).settings.syncWindow = 30 ∧ (synced true true 959999).clock.position < 30 * 32000 ∧
    (synced true true 959999).clock.lateOpen = true ∧ (synced true false 0).clock.lateOpen = false ∧
    30 * 32000 ≤ (synced true true 960000).clock.position ∧ (synced false false 5).clock.aligned = false ∧
    (synced false false 5).hasContent = false ∧ contented.hasContent = true ∧ contented.clock.index < Config.max32 ∧
    contented.tie.state ≠ .pairedPrimary ∧ contented.isEnabled 1 = true ∧ contented.isEnabled 2 = false := by decide

theorem test_witness_AlignAnswers : (synced false false 5).ready ∧ contented.ready ∧
    ([3, 0, 0, 0, 0x83, 3, 0, 0] : List Byte).length = 8 ∧ field ([3, 0, 0, 0, 0x83, 3, 0, 0] : List Byte) 4 4 = 899 ∧
    field ([3, 0, 0, 0, 0x84, 3, 0, 0] : List Byte) 4 4 = 15 * 60 ∧ contented.clock.length * 60 = 900 ∧
    contented.clock.index = 3 ∧ (linked .pairedSecondary).ready ∧ contented.enabledAccounts.take contented.partialCount ≠ [] ∧
    metering.ready ∧ metering.hasContent = false ∧ metering.isEnabled 1 = true ∧
    (metering.accounts.get 1).recordIndex = metering.clock.index ∧
    metering.clock.index < field ([3, 0, 0, 0, 0x83, 3, 0, 0] : List Byte) 0 4 ∧
    (let s : State := { contented with clock := { contented.clock with part := 255 } }
     s.hasContent = true ∧ s.enabledAccounts.take s.partialCount = []) :=
  ⟨⟨⟨rfl, rfl⟩, rfl⟩, ⟨⟨rfl, rfl⟩, rfl⟩, by decide, by decide, by decide, by decide, by decide, linked_ready _,
    by decide, metering_ready, by decide⟩

/-- R101, R107: with content and clock part 255 no record is formed and the part stays. -/
theorem test_align_no_place : gives (.align 1 [3, 0, 0, 0, 5, 0, 0, 0])
    { contented with clock := { contented.clock with part := 255 } } (fun t =>
      decide (t.clock.part = 255 ∧ t.queue = [] ∧ (t.accounts.get 0).flags.extended = true)) = true := by
  decide +kernel

/-- A paired primary unit at the end of its interval. -/
def primary (flight : Option PageBody) (closes : List CloseBody) : State :=
  { clockAt 28800000 .pairedPrimary with tie := { Tie.initial true with
      state := .pairedPrimary, inFlight := flight, closeList := closes, sendCount := 1 } }

/-- The same unit, unaligned, with content. -/
def primaryContent : State :=
  { primary none [] with accounts := metering.accounts.change 0 fun a => { a with windows := 1 } }

theorem test_witness_ClosesAreHanded : (primary none []).stopped = false ∧ (primary none []).tie.state = .pairedPrimary ∧
    (primary none []).op ≠ .starting ∧ (primary none []).op = .running ∧ (primary none []).ready ∧
    (primary none []).clock.closeReady = true ∧
    (primary none []).clock.samples ≤ (primary none []).clock.position ∧ (primary none []).tie.inFlight = none ∧
    (primary none []).tie.closeList = [] ∧ (primary (some (.close ⟨0, 0, none⟩)) []).tie.inFlight ≠ none ∧
    (List.replicate 3 (⟨0, 0, none⟩ : CloseBody)).length < 4 ∧
    (List.replicate 4 (⟨0, 0, none⟩ : CloseBody)).length = 4 ∧ (primary none []).clock.aligned = false ∧
    primaryContent.hasContent = true ∧ (primary none []).isEnabled 0 = true ∧ (primary none []).clock.part < 255 ∧
    (primary none []).queue.length < 48 ∧ (∃ t, exec .clockMadeClose (primary none []) = .next t) ∧
    (∃ t, exec .syncPulse primaryContent = .next t) ∧
    (∃ t, exec (.align 1 [0, 0, 0, 0, 5, 0, 0, 0]) primaryContent = .next t) ∧
    field ([0, 0, 0, 0, 5, 0, 0, 0] : List Byte) 4 4 < 15 * 60 ∧
    (∃ t, exec (.closeNow 1 []) (primary none []) = .next t) ∧ (∃ t, exec .powerFailAssert (primary none []) = .next t) ∧
    (∃ t, exec (.setSetting 1 (leBytes 2 (SettingId.enabled 0).id ++ [0, 0, 0])) (primary none []) = .next t) ∧
    ∃ (f : HostFrame) (r : Reply) (t : State), r.restart = true ∧
      exec .replySent { primary none [] with msg := ⟨[f], some r, false⟩ } = .next t :=
  ⟨rfl, rfl, by decide, rfl, ⟨⟨rfl, rfl⟩, rfl⟩, rfl, by decide, rfl, rfl, by decide, by decide, by decide, rfl, by decide,
    by decide, by decide, by decide, ⟨_, rfl⟩, ⟨_, rfl⟩, ⟨_, rfl⟩, by decide, ⟨_, rfl⟩, ⟨_, rfl⟩, ⟨_, rfl⟩,
    ⟨0x7F, 1, []⟩, ⟨0xFF, 1, .done, [], true⟩, _, rfl, rfl⟩

theorem test_witness_RecordsAreFormed : (metering.settings.name.get 3).length = 8 ∧
    (Record.interval (State.formRecord
      { metering with accounts := metering.accounts.change 3 fun a => { a with maskInForce := 5 } } 3 .clockMade
      none)).bytes.length = 128 + 14 * 2 := by decide +kernel

/-! ### Witnesses: archive -/

/-- An OPEN head with a record queued and the write position as given. -/
def queued (pos : Nat) : State :=
  { writing with archive := { writing.archive with state := .idle, writing := false, writePos := pos } }

theorem test_witness_WriterTakesRecord : running.queue = [] ∧ writing.archive.writing = true ∧
    ({ writing with archive := { writing.archive with state := .stopped } } : State).archive.state = .stopped ∧
    (queued 32748).archive.writing = false ∧ (queued 32748).archive.state = .idle ∧
    (queued 32748).archive.head = some 0 ∧ ((queued 32748).nv.segments.get 0).marker = .opened ∧
    (queued 32748).queue = [record] ∧ 32748 + record.bytes.length ≤ 32768 ∧ 32768 < 32749 + record.bytes.length ∧
    (queued 32749).nextSegment = some 1 ∧ ((queued 32749).nv.segments.get 1).marker = .blank ∧
    (queued 32748).openHead = some 0 ∧ (queued 32749).openHead ≠ some 1 := by decide +kernel

/-- A record queued at a write position, the next segment 1 FULL with a record of interval index 7. -/
def full (pos : Nat) (overwrite : Bool) : State :=
  { queued pos with
    settings := { running.settings with overwrite := overwrite }
    nv := { running.nv with segments :=
      (queued pos).nv.segments.put 1 { archived.nv.segments.get 0 with marker := .full } } }

set_option maxRecDepth 20000 in
/-- No head at all, with every segment ERASED or RETIRED, and a FULL head before a FULL next segment. -/
theorem test_witness_WriterTakesRecord_next :
    (let s : State := { running with queue := [record] }
     s.openHead = none ∧ s.nextSegment = some 0 ∧ (s.nv.segments.get 0).marker = .blank ∧ s.archive.state = .idle) ∧
    (let s : State := { running with nv := { running.nv with segments := Table.all ⟨.retired, 0, []⟩ }, queue := [record] }
     s.openHead = none ∧ s.nextSegment = none) ∧
    (full 32749 true).openHead ≠ some 1 ∧ (full 32749 true).nextSegment = some 1 ∧
    (full 32749 true).queue = [record] ∧ ((full 32749 true).nv.segments.get 1).marker = .full ∧
    (full 32749 true).archive.erase = none ∧ (full 32749 true).archive.state = .idle ∧
    (full 32749 true).allowsReclaim 1 ∧ ¬ (full 32749 false).allowsReclaim 1 ∧
    (reclaiming.nv.segments.get 1).marker = .reclaiming ∧ reclaiming.archive.erase = some 1 ∧
    reclaiming.nextSegment = some 1 ∧ reclaiming.archive.state = .reclaiming := by
  unfold State.allowsReclaim
  decide +kernel

theorem test_witness_RecordIsWritten : writing.stopped = false ∧ writing.archive.writing = true ∧
    writing.archive.clear ≠ .waiting ∧ writing.headOpen 0 record [] ∧
    writing.archive.writePos + record.bytes.length ≤ 16384 ∧ writing.archive.state = .writing ∧
    (let s : State := { writing with archive := { writing.archive with clear := .waiting } }
     s.stopped = false ∧ s.archive.writing = true ∧ s.archive.clear = .waiting ∧ s.headOpen 0 record [] ∧
       s.archive.erase = none) ∧
    ({ writing with archive := { writing.archive with clear := .waiting, state := .suspended, erase := some 3 } } : State
      ).archive.erase = some 3 :=
  ⟨rfl, rfl, by decide, writing_headOpen, by decide +kernel, rfl, ⟨rfl, rfl, rfl, writing_headOpen, rfl⟩, rfl⟩

/-- A record write in progress that leaves the head past half full, the next segment FULL. -/
def pastHalf (overwrite : Bool) : State :=
  { full 32749 overwrite with
    archive := { (full 32749 overwrite).archive with state := .writing, writing := true, writePos := 16365 } }

set_option maxRecDepth 20000 in
theorem test_witness_RecordIsWritten_half : (pastHalf true).archive.writing = true ∧
    (pastHalf true).headOpen 0 record [] ∧ 16384 < (pastHalf true).archive.writePos + record.bytes.length ∧
    (pastHalf true).archive.state = .writing ∧ (pastHalf true).archive.erase = none ∧
    (pastHalf true).nextSegment = some 1 ∧ ((pastHalf true).nv.segments.get 1).marker = .full ∧
    (pastHalf true).allowsReclaim 1 ∧ ¬ (pastHalf false).allowsReclaim 1 ∧ ¬ (pastHalf true).isClosing ∧
    ({ pastHalf true with op := .closing } : State).isClosing ∧ (pastHalf false).archive.heldInd = false := by
  unfold State.headOpen State.allowsReclaim State.isClosing
  decide +kernel

/-- A record write in progress at a write position, the erase of segment `e` suspended, with the given records behind. -/
def suspended (pos : Nat) (e : Fin 256) (op : OpState) (rest : List Record) : State :=
  { writing with
    op := op, queue := record :: rest
    archive := { writing.archive with state := .suspended, erase := some e, writePos := pos } }

set_option maxRecDepth 20000 in
/-- Completions in SUSPENDED: nothing queued behind, a record that just fits or just does not, the erase of the next segment
or of another one, in RUNNING and in CLOSING. -/
theorem test_witness_RecordIsWritten_suspended : (suspended 16 3 .running []).headOpen 0 record [] ∧
    ¬ (suspended 16 3 .running []).isClosing ∧ (suspended 16 3 .closing []).isClosing ∧
    (suspended 32728 3 .running [record]).headOpen 0 record [record] ∧ 32728 + record.bytes.length + record.bytes.length ≤ 32768 ∧
    (suspended 32729 3 .closing [record]).headOpen 0 record [record] ∧
    32768 < 32729 + record.bytes.length + record.bytes.length ∧ (suspended 32729 1 .closing [record]).nextSegment = some 1 ∧
    (suspended 32729 3 .closing [record]).nextSegment ≠ some 3 := by
  unfold State.headOpen State.isClosing
  decide +kernel

/-- An OPEN head at a write position, the next segment 1 FULL with a record of interval index 7, and nothing queued: reclaim
is wanted past half full, as the archive's state, the pin in place 2, the mark and the policy have it. -/
def wanting (pos : Nat) (x : ArchiveState) (pin : Option (Nat × Nat)) (mark : Nat) (overwrite : Bool) : State :=
  { full pos overwrite with
    queue := []
    archive := { (full pos overwrite).archive with state := x, pins := (Table.all none).put 2 pin, mark := mark } }

set_option maxRecDepth 20000 in
theorem test_witness_ReclaimTested : (wanting 16385 .idle none 0 true).ready ∧
    (wanting 16385 .idle none 0 true).wantsReclaim 1 ∧ (wanting 16385 .idle none 0 true).allowsReclaim 1 ∧
    ¬ (wanting 16384 .idle none 0 true).wantsReclaim 1 ∧ ¬ (wanting 16385 .stopped none 0 true).wantsReclaim 1 ∧
    ¬ (wanting 16385 .idle (some (7, 7)) 0 true).allowsReclaim 1 ∧ (wanting 16385 .idle (some (6, 6)) 7 false).allowsReclaim 1 ∧
    ¬ (wanting 16385 .idle none 6 false).allowsReclaim 1 ∧ (wanting 16385 .idle (some (7, 7)) 0 true).archive.pins.get 2 ≠ none ∧
    (wanting 16385 .stopped none 0 true).archive.erase = none ∧ (wanting 16385 .idle none 0 true).store = none := by
  unfold State.ready State.free State.wantsReclaim State.allowsReclaim
  decide +kernel

set_option maxRecDepth 20000 in
/-- R121 (3), (4), (6): the erase begins at PIN_REMOVE, at a rise of the mark and at ERROR_CLEAR. -/
theorem test_reclaim_begins :
    gives (.pinRemove 1 [2]) (wanting 16385 .idle (some (7, 7)) 0 true) (fun t => decide (t.archive.erase = some 1)) = true ∧
    gives .storeWriteComplete { wanting 16385 .idle none 0 false with store := some (.mark 7 0) }
      (fun t => decide (t.archive.erase = some 1)) = true ∧
    gives (.errorClear 1 []) (wanting 16385 .stopped none 0 true) (fun t => decide (t.archive.erase = some 1)) = true := by
  decide +kernel

theorem test_witness_VerifyFailuresAreTaken : writing.stopped = false ∧ writing.archive.writing = true ∧
    writing.archive.clear = .idle ∧ writing.headOpen 0 record [] ∧ 4 < record.bytes.length ∧
    record.bytes.getD 4 0 ≠ 0x01 ∧ writing.archive.failedOnce = false ∧
    writing.archive.writePos + 2 * record.bytes.length ≤ 32768 ∧ writing.archive.state = .writing ∧
    ({ writing with archive := { writing.archive with failedOnce := true } } : State).archive.failedOnce = true ∧
    record.bytes.getD 3 0 ≠ 0x01 ∧ writing.archive.erase = none ∧ writing.nextSegment = some 1 ∧
    (writing.nv.segments.get 1).marker = .blank ∧
    32768 < ({ writing with archive := { writing.archive with writePos := 32748 } } : State).archive.writePos +
      2 * record.bytes.length :=
  ⟨rfl, rfl, rfl, writing_headOpen, by decide +kernel, by decide +kernel, rfl, by decide +kernel, rfl, rfl,
    by decide +kernel, rfl, by decide +kernel, by decide, by decide +kernel⟩

/-- A clear that erases segment 3, with segment 5 listed. -/
def clearing : State :=
  { erasing with store := none, archive := { erasing.archive with state := .clearing, clear := .erasing [5] } }

theorem test_witness_EraseCompletes : running.stopped = false ∧ running.archive.erase = none ∧
    ({ running with archive := { running.archive with state := .suspended } } : State).archive.state = .suspended ∧
    erasing.archive.erase = some 3 ∧ erasing.archive.state = .reclaiming ∧ erasing.archive.writing = false ∧
    erasing.queue = [] ∧ (erasing.nv.segments.get 3).marker = .reclaiming ∧ clearing.archive.erase = some 3 ∧
    clearing.archive.state = .clearing ∧ clearing.archive.clear = .erasing [5] ∧
    ({ clearing with archive := { clearing.archive with clear := .erasing [] } } : State).archive.clear = .erasing [] ∧
    clearing.store = none ∧ ({ clearing with store := some (.mark 1 0) } : State).store ≠ none := by decide

/-- The writer waits behind a FULL head for segment 1, which is under erase. -/
def awaited : State :=
  { reclaiming with nv := { reclaiming.nv with segments := reclaiming.nv.segments.put 0 ⟨.full, 1, []⟩ } }

theorem test_witness_EraseCompletes_awaited : awaited.stopped = false ∧ awaited.archive.erase = some 1 ∧
    awaited.archive.state = .reclaiming ∧ awaited.archive.writing = false ∧ awaited.queue = [record] ∧
    awaited.archive.head = some 0 ∧ (awaited.nv.segments.get 0).marker = .full ∧ awaited.nextSegment = some 1 ∧
    reclaiming.openHead = some 0 := by decide +kernel

/-- The archive STOPPED with an erase suspended. -/
def stoppedArchive : State :=
  { erasing with store := none, archive := { erasing.archive with state := .stopped, error := .writeFail } }

set_option maxRecDepth 20000 in
theorem test_witness_ErrorAndClearAnswer : running.ready ∧ running.archive.state ≠ .stopped ∧ stoppedArchive.ready ∧
    stoppedArchive.archive.state = .stopped ∧ stoppedArchive.archive.erase ≠ none ∧ stoppedArchive.queue = [] ∧
    stoppedArchive.archive.writing = false ∧ stoppedArchive.archive.error ≠ .none ∧ clearing.ready ∧
    clearing.archive.error = .none ∧ clearing.archive.state = .clearing ∧
    (∀ p, running.archive.pins.get p = none) ∧
    ({ running with archive := { running.archive with pins := Table.all (some (1, 2)) } } : State).archive.pins.get 0 ≠
      none ∧ running.settings.overwrite = false ∧ writing.archive.writing = true ∧
    (∀ g, (writing.nv.segments.get g).indices = []) ∧
    ((archived.nv.segments.get 0).marker = .opened ∧ ∃ i ∈ (archived.nv.segments.get 0).indices, archived.archive.mark < i) ∧
    erasing.archive.erase = some 3 ∧ (writing.archive.erase = none ∧ (writing.nv.segments.get 0).marker = .opened) ∧
    (running.archive.erase = none ∧ running.store = none ∧ ∀ g, (running.nv.segments.get g).marker = .blank) ∧
    (let s : State := { stoppedArchive with queue := [record] }
     s.openHead = none ∧ s.queue.head? = some record) ∧
    (let s : State := { queued 32748 with archive := { (queued 32748).archive with state := .stopped, erase := some 3 } }
     s.openHead ≠ none ∧ s.queue.head? = some record ∧ s.archive.writePos + record.bytes.length ≤ 32768) :=
  ⟨running_ready, by decide, ⟨⟨rfl, rfl⟩, rfl⟩, rfl, by decide, rfl, rfl, by decide, ⟨⟨rfl, rfl⟩, rfl⟩, rfl, rfl,
    by decide, by decide, rfl, rfl, by decide +kernel, by decide +kernel, rfl, by decide, by decide +kernel,
    by decide +kernel, by decide +kernel⟩

theorem test_witness_CollectedMarkIsWritten : running.ready ∧ ([1, 0, 0, 0] : List Byte).length = 4 ∧
    clearing.archive.state = .clearing ∧ erasing.store ≠ none ∧ running.store = none ∧
    field ([0, 0, 0, 0] : List Byte) 0 4 ≤ running.archive.mark ∧ running.archive.mark < field ([1, 0, 0, 0] : List Byte) 0 4 ∧
    running.nv.marks.get 0 = some 0 ∧ running.nv.marks.get 1 = some 0 ∧ erasing.store = some (.mark 4 1) ∧
    erasing.archive.clear ≠ .marking 2 ∧
    (let s : State := { clearing with
       store := some (.image Image.default), archive := { clearing.archive with clear := .marking 2 } }
     s.store = some (.image Image.default) ∧ s.archive.clear = .marking 2) ∧
    (let s : State := { clearing with
       store := some (.mark 4 1), archive := { clearing.archive with clear := .marking 2 } }
     s.store = some (.mark 4 1) ∧ s.archive.clear = .marking 2 ∧ s.archive.state = .clearing) ∧
    ({ clearing with archive := { clearing.archive with clear := .marking 2 } } : State).archive.clear = .marking 2 ∧
    ({ clearing with store := some (.mark 0 0) } : State).store = some (.mark 0 0) :=
  ⟨running_ready, by decide, rfl, by decide +kernel, rfl, by decide, by decide, rfl, rfl, rfl, by decide, ⟨rfl, rfl⟩,
    ⟨rfl, rfl, rfl⟩, rfl, rfl⟩

/-- R127, R131: a mark write that a clear found under way is taken over, and the clear's first mark write follows it. -/
theorem test_mark_before_clear : gives .storeWriteComplete
    { clearing with store := some (.mark 4 1), archive := { clearing.archive with clear := .marking 2 } } (fun t =>
      decide (t.archive.mark = 4 ∧ t.store = some (.mark 0 0) ∧ t.archive.clear = .marking 2)) = true := by
  decide +kernel

/-- RUNNING with pins. -/
def pinned (t : Table (Option (Nat × Nat)) 4) : State := { running with archive := { running.archive with pins := t } }

theorem test_witness_PinsAnswer : running.ready ∧ ([1, 0, 0, 0, 2, 0, 0, 0] : List Byte).length = 8 ∧
    clearing.archive.state = .clearing ∧ running.archive.state ≠ .clearing ∧
    field ([2, 0, 0, 0, 1, 0, 0, 0] : List Byte) 4 4 < field ([2, 0, 0, 0, 1, 0, 0, 0] : List Byte) 0 4 ∧
    (∀ p, (pinned (Table.all (some (1, 2)))).archive.pins.get p ≠ none) ∧
    (pinned ((Table.all (some (1, 2))).put 3 none)).archive.pins.get 3 = none ∧
    (∀ q, q < 3 → (pinned ((Table.all (some (1, 2))).put 3 none)).archive.pins.get q ≠ none) ∧ running.store = none ∧
    erasing.store ≠ none ∧ (erasing.nv.segments.get 3).marker = .reclaiming ∧ 3 < (4 : Byte).toNat ∧
    (3 : Byte).toNat = (3 : Fin 4).val ∧ running.archive.pins.get 3 = none :=
  ⟨running_ready, by decide +kernel⟩

theorem test_witness_ArchiveReadsAnswer : running.ready ∧ ([0, 0, 0, 0, 1, 0, 1] : List Byte).length = 7 ∧
    State.reset.archive.state = .scanning ∧ clearing.archive.state = .clearing ∧ running.archive.state ≠ .scanning ∧
    running.archive.state ≠ .clearing ∧ running.tail = none ∧ writing.tail ≠ none ∧
    (∀ g h, (writing.nv.segments.get g).marker.holds = true → (writing.nv.segments.get h).marker.holds = true →
      (writing.nv.segments.get g).seq = (writing.nv.segments.get h).seq → g = h) ∧
    field ([0, 0, 0, 0, 0, 0, 8] : List Byte) 6 1 = 8 ∧ running.archive.cursor = none ∧
    (let s : State := { writing with archive := { writing.archive with cursor := some ⟨0, 1, 16, ⟨0, 1, 1⟩⟩ } }
     s.archive.cursor = some ⟨0, 1, 16, ⟨0, 1, 1⟩⟩ ∧ 16 ≤ (⟨0, 1, 16, ⟨0, 1, 1⟩⟩ : Cursor).offset ∧ (s.nv.segments.get 0).marker.served = true ∧
       (s.nv.segments.get 0).seq = 1 ∧ (s.nv.segments.get 1).marker.served = false ∧
       ∀ g, (s.nv.segments.get g).marker.served = true → g = 0) := by
  refine ⟨running_ready, by decide, rfl, rfl, by decide, by decide, by decide +kernel, by decide +kernel, ?_, by decide,
    rfl, by decide +kernel⟩
  have hs : ∀ g, (writing.nv.segments.get g).marker.holds = true → g = 0 := by decide +kernel
  intro g h hg hh _
  rw [hs g hg, hs h hh]

/-! ### Witnesses: settings, message link -/

theorem test_witness_SettingsFollowTable : ([0x3C] : List Byte).length = 1 ∧ SettingId.nominalHz.badBits [0x3C] = false ∧
    (SettingId.nominalHz.write [0x3C] Settings.default).isSome = true ∧ ofLe [0x3C] = 60 ∧
    (SettingId.exportSlot 3).size [1, 7, 0xFF] = 3 ∧
    ((SettingId.exportSlot 3).write [1, 7, 0xFF] Settings.default).isSome = true ∧
    ((SettingId.exportSlot 3).write [1, 8, 0xFF] Settings.default).isSome = false ∧
    ((SettingId.exportSlot 3).write [1, 7, 2] Settings.default).isSome = false ∧
    ((SettingId.exportSlot 3).write [2, 7, 1, 7, 0xFF] Settings.default).isSome = false ∧
    ([((8 : Byte), (1 : Byte))].length ≤ 255 ∧ 7 < (8 : Byte).toNat) ∧
    ([⟨7, true⟩] : List ExportMember).length ≤ 8 ∧ ((List.finRange 8).map fun k => (⟨k, true⟩ : ExportMember).tap).Nodup := by
  decide +kernel

theorem test_witness_SetAnswers : metering.ready ∧ (∀ i : SettingId, i.id ≠ 0) ∧
    ([1, 2] : List Byte).length ≠ SettingId.nominalHz.size [1, 2] ∧ SettingId.noticeMask.badBits [0, 0, 4] = true ∧
    SettingId.noticeMask.badBits [255, 255, 3] = false ∧ SettingId.nominalHz.write [55] metering.settings = none ∧
    (SettingId.nominalHz.write [60] metering.settings).isSome = true ∧ metering.store = none ∧ erasing.store ≠ none ∧
    metering.isEnabled 1 = true ∧ ((SettingId.enabled 1).write [0] metering.settings).map (fun x => x.enabled.get 1) =
      some false ∧ 48 ≤ (List.replicate 48 record).length ∧ metering.queue.length < 48 ∧ metering.clock.part ≠ 255 ∧
    SettingId.syncWindow.quiet ∧
    ((SettingId.scale 3).write [0, 0, 1, 0] metering.settings).isSome = true := by
  refine ⟨metering_ready, fun i => ?_, by decide +kernel, by decide, by decide, by decide +kernel, by decide +kernel, rfl,
    by decide +kernel, by decide, by decide +kernel, by decide, by decide, by decide, trivial, by decide +kernel⟩
  cases i <;> simp only [SettingId.id] <;> omega

theorem test_witness_SettingsActAtOnce : metering.ready ∧ metering.isEnabled 0 = true ∧ metering.queue.length < 48 ∧
    metering.clock.part < 255 ∧ metering.isEnabled 2 = false ∧ metering.settings.tieEnable = true ∧
    running.settings.tieEnable = false ∧ (1 : Byte).toNat = Preference.primary.code ∧
    (linked .solo).settings.preference ≠ .primary ∧ (linked .solo).tie.state = .solo ∧
    (linked .solo).tie.inFlight = none ∧ metering.settings.overwrite = false ∧
    metering.store = none ∧ metering.settings.attentionMode = .level ∧
    ({ metering with settings := { metering.settings with attentionMode := .pulseAny } } : State).settings.attentionMode ≠
      .level ∧ (2 : Byte).toNat ≤ 2 ∧ metering.settings.overwrite = decide ((0 : Byte) = 1) ∧
    metering.settings.overwrite ≠ decide ((1 : Byte) = 1) :=
  ⟨metering_ready, by decide +kernel⟩

/-- R177: a pulse mode entered from LEVEL begins with the line deasserted, LEVEL ends a pulse, and one runs on between the two
pulse modes. -/
theorem test_mode_changes :
    let pulsing (x : AttentionMode) : State := { running with
      settings := { running.settings with attentionMode := x }, notices := { running.notices with pulse := true } }
    gives (.setSetting 1 [0x00, 0x05, 0, 0, 2]) (pulsing .level) (fun t => !t.attentionLine) = true ∧
    gives (.setSetting 1 [0x00, 0x05, 0, 0, 2]) (pulsing .pulseClose) (fun t => t.attentionLine) = true ∧
    gives (.setSetting 1 [0x00, 0x05, 0, 0, 0]) (pulsing .pulseClose) (fun t => !t.notices.pulse) = true := by
  decide +kernel

theorem test_witness_DispatchTestsRequests : (Instr.unknownKind 0x7E 1 []).request = some (0x7E, 1, []) ∧
    kindUnknown 0x7E = true ∧ (Instr.planConfirm 1 [0, 0, 0, 1, 0]).request = some (0x22, 1, [0, 0, 0, 1, 0]) ∧
    State.reset.free ∧ (0x22 : Byte) ∈ requestCodes ∧ State.reset.op ≠ .running ∧ running.free ∧
    ((0x22 : Byte), 5) ∈ fixedLengths ∧ ((0x30 : Byte), 8) ∈ fixedParts ∧
    (byteAt ([0, 0, 0, 1, 0] : List Byte) 2 = 0 ∧ byteAt ([0, 0, 0, 1, 0] : List Byte) 3 ≠ 0) ∧
    byteAt ([0, 0, 2, 0] : List Byte) 2 &&& 0xFE ≠ 0 ∧ field ([0, 0, 0, 0, 0, 0, 0, 1] : List Byte) 4 4 ≠ 0 :=
  ⟨rfl, by decide, rfl, ⟨rfl, rfl⟩, by decide, by decide, running_free, by decide, by decide, by decide, by decide,
    by decide⟩

theorem test_witness_BufferHoldsTwo : (Instr.ident 9 []).request = some (0x01, 9, []) ∧ (0x01 : Byte).toNat < 0x80 ∧
    (∃ (s : State) (f : HostFrame) (r : Reply), s.stopped = false ∧ s.msg.places = [f] ∧ s.msg.reply = some r) ∧
    (∃ (s : State) (f g : HostFrame) (r : Reply), s.msg.places.length = 2 ∧ s.msg = ⟨[f, g], some r, false⟩ ∧
      r.restart = false) ∧
    (∃ (s : State) (ps : List HostFrame) (r : Reply), s.msg = ⟨ps, some r, true⟩) ∧ running.msg.reply = none :=
  ⟨rfl, by decide,
   ⟨{ running with msg := ⟨[⟨2, 1, []⟩], some ⟨0x82, 1, .done, [], false⟩, false⟩ }, _, _, rfl, rfl, rfl⟩,
   ⟨{ running with msg := ⟨[⟨2, 1, []⟩, ⟨1, 9, []⟩], some ⟨0x82, 1, .done, [], false⟩, false⟩ }, _, _, _, rfl, rfl, rfl⟩,
   ⟨{ running with msg := ⟨[], some ⟨0xFF, 1, .done, [], true⟩, true⟩ }, _, _, rfl⟩, rfl⟩

theorem test_witness_ReplyKindIsDiscarded : running.stopped = false ∧ 0x80 ≤ (0x80 : Byte).toNat ∧
    ([] : List Byte).length ≤ 1024 ∧ afterNoise 0xA5 [1, 0x5A] (requestFrame 0x80 7 [])
      ([1, 0x5A] ++ requestFrame 0x80 7 []) := ⟨rfl, by decide, by decide, by decide, rfl⟩

theorem test_witness_BrokenInputIsCounted :
    (let f : List Byte := [0xA5, 0x5A, 0, 0, 1, 7, 0, 0]
     f.take 2 = [0xA5, 0x5A] ∧ f.length = 8 + field f 2 2 ∧ field f 2 2 ≤ 1024 ∧ crcOk f = false) ∧
    1024 < field ([0xA5, 0x5A, 1, 4] : List Byte) 2 2 ∧ ([0xA5, 0x5A] : List Byte).length < 4 ∧
    afterNoise 0xA5 [0x5A] [0xA5, 0x5A] [0x5A, 0xA5, 0x5A] ∧
    (let p : List Byte := [0x96, 0, 0, 0, 0, 0, 0]
     p.take 1 = [0x96] ∧ p.length = 7 + field p 3 2 ∧ field p 3 2 ≤ 1970 ∧ pageInvalid p) ∧
    1970 < field ([0x96, 0x10, 0, 0xB3, 7] : List Byte) 3 2 ∧ afterNoise 0x96 [0xA5] [0x96] [0xA5, 0x96] ∧
    (linked .solo).tie.state ≠ .off ∧ (linked .solo).op ≠ .starting ∧ running.tie.state = .off ∧
    State.reset.op = .starting :=
  ⟨by decide +kernel, by decide, by decide, ⟨by decide, rfl⟩,
    ⟨rfl, by decide, by decide, .inl (by decide +kernel)⟩, by decide, ⟨by decide, rfl⟩, by decide, by decide, rfl, rfl⟩

/-- A page with a good check. -/
def pageOf (type seq : Nat) (body : List Byte) : List Byte :=
  withCrc (byte 0x96 ++ byte type ++ byte seq ++ leBytes 2 body.length ++ body)

/-- R139 (2), (3), (4), (6): pages with a good check of an unknown type, with a sequence bit marked zero, of a length their
type does not give, with a field out of its values; each is counted. The last two are good. -/
theorem test_broken_pages :
    ([pageOf 3 0 [], pageOf 0 8 [], pageOf 0 0 [0], pageOf 1 0 [3, 1, 0, 1, 0], pageOf 1 0 [4, 1, 0, 1],
      pageOf 1 0 [3, 0, 0, 1], pageOf 1 0 [3, 1, 0, 4], pageOf 2 0 [0, 1, 1, 0, 1, 0], pageOf 2 0 [1, 3, 1, 0, 1, 0],
      pageOf 0x20 0 [0], pageOf 0x10 0 [1, 0, 0, 0, 1, 0, 0, 0, 1, 0, 0, 0, 32, 0],
      pageOf 0x10 0 [1, 0, 0, 0, 1, 0, 0, 0, 1, 0, 0, 0, 0, 16],
      pageOf 0x10 0 [1, 0, 0, 0, 1, 0, 0, 0, 1, 0, 0, 0, 0, 1]].all fun p =>
      gives (.tiePageArrive p) (linked .solo) fun t => decide (t.notices.badPages = 1)) = true ∧
    ([pageOf 1 0 [3, 1, 0, 3], pageOf 0x10 0 [1, 0, 0, 0, 1, 0, 0, 0, 1, 0, 0, 0, 31, 0]].all fun p =>
      gives (.tiePageArrive p) (linked .solo) fun t => decide (t.notices.badPages = 0)) = true := by
  decide +kernel

theorem test_witness_FrameCarriesRequest : (Instr.getSetting 3 [1, 0]).wf = true ∧
    (Instr.getSetting 3 [1, 0]).request = some (0x11, 3, [1, 0]) ∧
    afterNoise 0xA5 [0] (requestFrame 0x11 3 [1, 0]) ([0] ++ requestFrame 0x11 3 [1, 0]) :=
  ⟨by decide, rfl, by decide, rfl⟩

/-! ### Witnesses: tie link, invariants -/

theorem test_witness_PageCarriesBody : (PageBody.role ⟨.either, 65535, 3⟩).ranged ∧
    (PageBody.close ⟨4294967295, 255, some .sync⟩).ranged :=
  ⟨⟨by decide, by decide, by decide, by decide⟩, by simp [fitsBytes], by decide, fun _ h => by cases h⟩

/-- The link in a state with a page in flight sent `n` times. -/
def flying (x : TieState) (b : PageBody) (n : Nat) : State :=
  { linked x with tie := { (linked x).tie with inFlight := some b, sendCount := n, attempt := 3 } }

theorem test_witness_TieTimersAct : (flying .resolving (.role ⟨.either, 1, 1⟩) 4).stopped = false ∧
    (flying .resolving (.role ⟨.either, 1, 1⟩) 4).tie.inFlight = some (.role ⟨.either, 1, 1⟩) ∧
    1 ≤ (flying .resolving (.role ⟨.either, 1, 1⟩) 4).tie.sendCount ∧
    (flying .resolving (.role ⟨.either, 1, 1⟩) 4).tie.sendCount ≤ 4 ∧
    (flying .resolving (.role ⟨.either, 1, 1⟩) 5).tie.sendCount = 5 ∧ (linked .solo).tie.inFlight = none ∧
    (linked .solo).tie.state ≠ .off ∧ (linked .solo).op ≠ .starting ∧ running.tie.state = .off ∧
    (linked .down).tie.state = .down ∧ (linked .solo).tie.state ≠ .down ∧
    (linked .resolving).tie.attempt < 3 ∧ (flying .resolving .idle 1).tie.attempt = 3 ∧
    (linked .resolving).tie.inFlight = none ∧
    (let s : State := { flying .resolving (.role ⟨.either, 1, 1⟩) 4 with
       tie := { (flying .resolving (.role ⟨.either, 1, 1⟩) 4).tie with attempt := 1 } }
     s.tie.attempt < 3 ∧ s.tie.inFlight ≠ none ∧ 0 < s.tie.sendCount) ∧
    (linked .solo).tie.state ≠ .resolving := by decide

theorem test_witness_ValidPagesAreTaken : (linked .down).stopped = false ∧ (linked .down).op ≠ .starting ∧
    PageBody.idle.ranged ∧ afterNoise 0x96 [1] (Page.bytes ⟨.idle, false, none⟩) ([1] ++ Page.bytes ⟨.idle, false, none⟩) ∧
    (linked .down).tie.inFlight = none ∧ (linked .down).tie.roleList = [] ∧
    ({ linked .solo with tie := { (linked .solo).tie with sawAck := true } } : State).tie.sawAck = true ∧
    (PageBody.role ⟨.either, 1, 1⟩).ranged ∧ (linked .pairedPrimary).tie.partnerToggle ≠ some false ∧
    (linked .pairedPrimary).tie.sawAck = false ∧ (flying .pairedPrimary (.close ⟨0, 0, none⟩) 1).tie.sendToggle = false ∧
    (∀ x, PageBody.close ⟨0, 0, none⟩ ≠ .role x) ∧ (∀ x, PageBody.close ⟨0, 0, none⟩ ≠ .confirm x) ∧
    0 < (flying .pairedPrimary (.close ⟨0, 0, none⟩) 1).tie.sendCount ∧ (0 : Nat) ≤ 65535 ∧
    (flying .pairedPrimary (.close ⟨0, 0, some .restart⟩) 1).tie.inFlight = some (.close ⟨0, 0, some .restart⟩) ∧
    (PageBody.role ⟨.either, 65535, 3⟩).ranged ∧ (PageBody.confirm ⟨1, .primary, 1, 2⟩).ranged ∧
    (PageBody.close ⟨7, 0, none⟩).ranged ∧ (linked .down).tie.partnerToggle ≠ some false ∧
    (linked .roleFault).tie.state = .roleFault ∧ (linked .solo).tie.partnerToggle ≠ some true ∧
    (flying .solo (.role ⟨.either, 1, 3⟩) 1).tie.inFlight ≠ none ∧
    some true ≠ some (flying .solo (.role ⟨.either, 1, 3⟩) 1).tie.sendToggle :=
  ⟨rfl, by decide, trivial, ⟨by decide, rfl⟩, rfl, rfl, rfl, ⟨by decide, by decide, by decide, by decide⟩, by decide, rfl, rfl, by simp, by simp,
    by decide, by decide, rfl, ⟨by decide, by decide, by decide, by decide⟩, ⟨by decide, by decide, by decide, by decide⟩,
    ⟨by simp [fitsBytes], by decide, fun _ h => by cases h⟩, by decide, rfl, by decide, by decide, by decide⟩

/-- The link in attempt `n` with its own ROLE acknowledged. -/
def attempting (n : Nat) : State :=
  { linked .resolving with tie := { (linked .resolving).tie with
      sawAck := true, attempt := n, ownSeed := 5, ownRole := some ⟨.either, 5, n⟩, ownRoleAcked := true } }

theorem test_witness_RolesAreResolved : (attempting 3).stopped = false ∧ (attempting 3).op ≠ .starting ∧
    (attempting 3).tie.state = .resolving ∧ (PageBody.role ⟨.either, 5, 3⟩).ranged ∧
    afterNoise 0x96 [] (Page.bytes ⟨.role ⟨.either, 5, 3⟩, false, some false⟩)
      (Page.bytes ⟨.role ⟨.either, 5, 3⟩, false, some false⟩) ∧
    (attempting 3).tie.partnerToggle ≠ some false ∧ (attempting 3).tie.sawAck = true ∧ some false ≠ (none : Option Bool) ∧
    (attempting 3).tie.inFlight = none ∧ (attempting 3).tie.roleList = [] ∧
    (attempting 3).tie.ownRole = some ⟨.either, 5, 3⟩ ∧ (attempting 3).tie.ownRoleAcked = true ∧
    (attempting 3).tie.resolved = none ∧ (attempting 3).tie.attempt = 3 ∧ (attempting 2).tie.attempt < 3 ∧
    (PageBody.confirm ⟨3, .secondary, 1, 2⟩).ranged ∧
    ({ attempting 3 with tie := { (attempting 3).tie with resolved := some .primary, confirmAcked := true } } : State
      ).tie.resolved = some .primary :=
  ⟨rfl, by decide, rfl, ⟨by decide, by decide, by decide, by decide⟩, ⟨by decide, rfl⟩, by decide, rfl, by decide, rfl, rfl,
    rfl, rfl, rfl, rfl, by decide, ⟨by decide, by decide, by decide, by decide⟩, rfl⟩

/-- Unit B of the worked sequence 8.11 in attempt 2, its ROLE in flight. -/
def unitB : State :=
  { linked .resolving with tie := { (linked .resolving).tie with
      sawAck := true, attempt := 2, ownSeed := 0x2F6C, ownRole := some ⟨.either, 0x2F6C, 2⟩
      inFlight := some (.role ⟨.either, 0x2F6C, 2⟩), sendCount := 1, sendToggle := true
      partnerSeed := 0x8A03, partnerRole := some ⟨.either, 0x8A03, 2⟩, partnerToggle := some true } }

/-- The same after its resolution, A's confirm kept. -/
def unitB2 : State :=
  { unitB with tie := { unitB.tie with
      ownRoleAcked := true, resolved := some .secondary, sendToggle := false, partnerToggle := some false
      inFlight := some (.confirm ⟨2, .secondary, 0x2F6C, 0x8A03⟩)
      partnerConfirm := some ⟨2, .primary, 0x8A03, 0x2F6C⟩ } }

/-- 8.11, step 6: the acknowledgement in A's confirm resolves B as SECONDARY, the confirm is kept, B's own is in flight. -/
theorem test_worked_resolution : gives (.tiePageArrive
      (Page.bytes ⟨.confirm ⟨2, .primary, 0x8A03, 0x2F6C⟩, false, some true⟩)) unitB (fun t =>
    decide (t.tie.resolved = some .secondary ∧ t.tie.inFlight = some (.confirm ⟨2, .secondary, 0x2F6C, 0x8A03⟩) ∧
      t.tie.partnerConfirm = some ⟨2, .primary, 0x8A03, 0x2F6C⟩ ∧ t.tie.state = .resolving)) = true := by
  decide +kernel

/-- 8.11, step 8: the acknowledgement of B's confirm in an IDLE page pairs B as SECONDARY. -/
theorem test_worked_pairing : gives (.tiePageArrive (Page.bytes ⟨.idle, false, some false⟩)) unitB2 (fun t =>
    decide (t.tie.state = .pairedSecondary ∧ t.tie.inFlight = none ∧ t.notices.latched.getLsbD 12 = true)) = true := by
  decide +kernel

/-- Acknowledgements that come second, and ROLE and ROLE_CONFIRM pages of other attempts. -/
theorem test_witness_RolesAreResolved_second : unitB.stopped = false ∧ unitB.op ≠ .starting ∧ PageBody.idle.ranged ∧
    afterNoise 0x96 [] (Page.bytes ⟨.idle, false, some true⟩) (Page.bytes ⟨.idle, false, some true⟩) ∧
    unitB.tie.roleList = [] ∧ unitB.tie.closeList = [] ∧ unitB.tie.holding = none ∧ unitB.rolesHeld ∧
    some true = some unitB.tie.sendToggle ∧ unitB.tie.inFlight = some (.role ⟨.either, 0x2F6C, 2⟩) ∧
    unitB.tie.ownRole = some ⟨.either, 0x2F6C, 2⟩ ∧ unitB.tie.partnerRole = some ⟨.either, 0x8A03, 2⟩ ∧
    unitB.tie.resolved = none ∧ unitB2.rolesHeld ∧ unitB2.tie.resolved = some .secondary ∧
    unitB2.tie.inFlight = some (.confirm ⟨unitB2.tie.attempt, .secondary, unitB2.tie.ownSeed, 0x8A03⟩) ∧
    (PageBody.role ⟨.either, 1, 3⟩).ranged ∧ (PageBody.role ⟨.either, 1, 1⟩).ranged ∧
    (PageBody.confirm ⟨1, .primary, 1, 2⟩).ranged ∧ unitB.tie.attempt < 3 ∧ 1 < unitB.tie.attempt ∧
    unitB.tie.partnerToggle ≠ some false ∧ some false ≠ some unitB.tie.sendToggle ∧ 0 < unitB.tie.sendCount ∧
    unitB.tie.ownRoleAcked = false ∧ unitB2.tie.confirmAcked = false := by
  have h : unitB.rolesHeld := ⟨by rintro _ ⟨⟩; decide, by rintro _ ⟨⟩; decide⟩
  exact ⟨rfl, by decide, trivial, ⟨by decide, rfl⟩, rfl, rfl, rfl, h, rfl, rfl, rfl, rfl, rfl, h, rfl, rfl,
    ⟨by decide, by decide, by decide, by decide⟩, ⟨by decide, by decide, by decide, by decide⟩,
    ⟨by decide, by decide, by decide, by decide⟩, by decide, by decide, by decide, by decide, by decide, rfl, rfl⟩

theorem test_witness_SummariesAreMade : (windowed 1).stopped = false ∧ (windowed 1).tie.state = .pairedPrimary ∧
    (window 1).ownsSet.get (windowed 1).settings.exportSet = true ∧ (window 1).n ≤ (window 1).rows.length ∧
    (windowed 1).settings.exportSlots.get 0 ≠ [] ∧ (windowed 1).tie.inFlight = none ∧ (windowed 1).tie.closeList = [] ∧
    (flying .pairedPrimary (.close ⟨0, 0, none⟩) 1).tie.inFlight ≠ none ∧ (linked .solo).tie.state ≠ .pairedPrimary ∧
    (∀ j, running.settings.exportSlots.get j = []) := by decide +kernel

/-- A summary of no slot. -/
def summary : Summary := ⟨1, 1, 5120, false, false, false, false, false, Table.all none⟩

/-- R154: an accepted SUMMARY is counted in DOWN and in SOLO too. -/
theorem test_summary_counted : ∀ x ∈ [TieState.down, .solo, .pairedPrimary],
    gives (.tiePageArrive (Page.bytes ⟨.summary summary, true, none⟩)) (linked x) (fun t =>
      decide (t.tie.accepted = 1)) = true := by
  decide +kernel

theorem test_witness_SummariesAreAccounted : (PageBody.summary summary).ranged ∧
    afterNoise 0x96 [] (Page.bytes ⟨.summary summary, true, some true⟩) (Page.bytes ⟨.summary summary, true, some true⟩) ∧
    switching.stopped = false ∧ switching.op ≠ .starting ∧ some true ≠ (none : Option Bool) ∧
    ({ switching with tie := { switching.tie with sawAck := true } } : State).tie.sawAck = true ∧
    switching.tie.state = .pairedPrimary ∧ switching.tie.partnerToggle ≠ some true ∧ switching.selector.active = some 1 ∧
    switching.selector.content = some plan ∧ plan.peersOf 0 = [⟨0, true⟩] ∧ plan.peersOf 1 = [] ∧
    switching.isEnabled 0 = true ∧ switching.isEnabled 2 = false ∧ (linked .solo).selector.active = none ∧
    (linked .down).tie.state = .down ∧ (linked .down).tie.partnerToggle ≠ some true ∧
    (linked .solo).tie.state ≠ .off ∧ (linked .solo).tie.state ≠ .down ∧
    ({ switching with tie := { switching.tie with partnerToggle := some true } } : State).tie.partnerToggle =
      some true := by
  refine ⟨⟨by simp [fitsBytes, summary], by simp [fitsBytes, summary], by simp [fitsBytes, summary], ?_⟩,
    ⟨by decide, rfl⟩, rfl, by decide, by decide, rfl, rfl, by decide, rfl, rfl, by decide, by decide, by decide, by decide, rfl, rfl, by decide, by decide,
    by decide, rfl⟩
  intro j sl h
  simp [summary] at h

/-- A paired secondary unit, its pages acknowledged before, with a last close pair. -/
def secondary (last : Option (Nat × Nat)) : State :=
  { linked .pairedSecondary with tie := { (linked .pairedSecondary).tie with lastPair := last, sawAck := true } }

theorem test_witness_SecondaryFollowsClosePages : (secondary none).stopped = false ∧ (secondary none).op ≠ .starting ∧
    (PageBody.close ⟨7, 254, none⟩).ranged ∧ (PageBody.close ⟨7, 254, some (.other 6)⟩).ranged ∧
    afterNoise 0x96 [] (closePage 7 254 1 3 true (some false)) (closePage 7 254 1 3 true (some false)) ∧
    reasonCode (some .sync) = (4 : Byte).toNat ∧ reasonCode (some (.other 6)) = (6 : Byte).toNat ∧
    (3 : Byte) ≠ 1 ∧ (3 : Byte) ≠ 2 ∧ 7 ≤ Config.max32 ∧ (secondary none).tie.inFlight = none ∧
    (secondary none).tie.state = .pairedSecondary ∧ (secondary none).tie.partnerToggle ≠ some true ∧
    (7, 254).1 < Config.max32 ∧ (7, 254).2 < 255 ∧ (secondary none).tie.lastPair = none ∧
    (secondary (some (7, 253))).tie.lastPair = some (7, 253) ∧ (secondary (some (7, 254))).tie.lastPair = some (7, 254) ∧
    (secondary none).queue.length + (secondary none).enabledAccounts.length ≤ 32 ∧
    (secondary none).enabledAccounts.take (48 - (secondary none).queue.length) ≠ [] ∧
    (secondary none).enabledAccounts.take (48 - (List.replicate 48 record).length) = [] ∧
    32 < (List.replicate 31 record).length + (secondary none).enabledAccounts.length ∧
    (secondary none).enabledAccounts ≠ [] ∧ (secondary none).tie.sawAck = true ∧ some false ≠ (none : Option Bool) :=
  ⟨rfl, by decide, ⟨by simp [fitsBytes], by decide, fun _ h => by cases h⟩,
    ⟨by simp [fitsBytes], by decide, fun _ h => by cases h; decide⟩, ⟨by decide, rfl⟩, rfl, rfl, by decide, by decide,
    by decide, rfl, rfl, by decide, by decide, by decide, rfl, rfl, rfl, by decide, by decide, by decide, by decide, by decide, rfl, by decide⟩

/-- R156: the kind alone decides the close: kind 1 with reason 3 is a normal close, kind 2 with reason 9 a partial one whose
records carry reason 9, kind 3 none. -/
theorem test_close_kinds :
    gives (.tiePageArrive (closePage 7 0 1 3 true none)) (linked .pairedSecondary) (fun t =>
      decide (t.clock.index = 8 ∧ t.clock.part = 0 ∧
        t.queue.map (fun r => slice r.bytes 4 3) = [[0x11, 0, 4], [0x11, 0, 4]])) = true ∧
    gives (.tiePageArrive (closePage 7 0 2 9 true none)) (linked .pairedSecondary) (fun t =>
      decide (t.clock.index = 7 ∧ t.clock.part = 1 ∧
        t.queue.map (fun r => slice r.bytes 4 3) = [[0x12, 9, 4], [0x12, 9, 4]])) = true ∧
    gives (.tiePageArrive (closePage 7 0 3 0 true none)) (linked .pairedSecondary) (fun t =>
      decide (t.clock = (linked .pairedSecondary).clock ∧ t.queue = [] ∧ t.tie.partnerToggle = some true)) = true := by
  decide +kernel

/-- 8.1: a CLOSE page as sent. -/
theorem test_close_page : Page.bytes ⟨.close ⟨7, 1, some .align⟩, true, some true⟩ = closePage 7 1 2 3 true (some true) ∧
    Page.bytes ⟨.close ⟨7, 1, none⟩, false, none⟩ = closePage 7 1 1 0 false none := by
  decide +kernel

theorem test_witness_MemoryFormIsKept : Memory.wf State.reset.nv.segments = true ∧ ∃ t, step State.reset = .next t :=
  ⟨State.wf_reset, _, rfl⟩

theorem test_witness_RangesAreKept : metering.bounded ∧ metering.clockRanged ∧ metering.scanQuiet ∧
    State.reset.scanQuiet ∧ metering.rolesHeld ∧ (∃ t, step { metering with pending := [.clockMadeClose] } = .next t) :=
  ⟨⟨by decide, by decide, by decide⟩, ⟨by decide, by decide, by decide, fun _ h => by cases h⟩,
    fun h => absurd h (by decide), fun _ => ⟨rfl, rfl⟩, ⟨fun _ h => (by cases h), fun _ h => by cases h⟩, _, rfl⟩

end Sys2Proof.Tests
end

section
/-! PROOFS. Requests answered at once by their owner, PLAN_OPEN and PLAN_DROP, and what a failed PLAN_ADD or
PLAN_CONFIRM leaves (R44, R47). -/

namespace Sys2Proof.Machine

/-! ### A request that comes to a ready part -/

/-- The link holds one frame, its reply not yet formed (R162). -/
def State.holding (s : State) (f : HostFrame) : State := { s with msg := ⟨[f], none, false⟩ }

@[simp] theorem State.holding_op (s : State) (f : HostFrame) : (s.holding f).op = s.op := rfl
@[simp] theorem State.holding_selector (s : State) (f : HostFrame) : (s.holding f).selector = s.selector := rfl

/-- The table of 9.3 gives each code to one kind. -/
theorem readKind_code (k : Kind) : readKind k.code = some k := by cases k <;> rfl

/-- RESTART alone forms a reply that restarts the part (R171). -/
theorem Kind.code_ne_restart {k : Kind} (h : k ≠ .restart) : k.code ≠ Kind.restart.code := fun he =>
  h (Option.some.inj (by rw [← readKind_code k, he, readKind_code]))

/-- A request in RUNNING whose body passes the tests at dispatch is its owner's (R164, R165). -/
theorem State.answerKind_served (s : State) (k : Kind) (body : List Byte) (ho : s.op = .running)
    (hl : k.lengthOk body.length = true) (hr : k.reservedOk body = true) : s.answerKind k body = s.owner k body := by
  simp [State.answerKind, ho, hl, hr]

/-- A request that comes to a ready part is answered at once (R162, R163). -/
theorem State.request_ready {s : State} (h : s.ready) (k : Kind) (tag : Byte) (body : List Byte) :
    (s.whenAlive fun u => u.request k tag body) =
      ((s.holding ⟨k.code, tag, body⟩).answerKind k body).after.setReply
        (some (replyTo ⟨k.code, tag, body⟩ ((s.holding ⟨k.code, tag, body⟩).answerKind k body))) := by
  obtain ⟨⟨halive, hmsg⟩, -⟩ := h
  rw [State.whenAlive_running _ _ halive, State.request, State.frameArrives_free _ _ hmsg]
  simp only [State.answer, readKind_code, State.holding]

/-- A request served by its owner leaves the owner's state, with the frame held and the owner's answer as its reply. -/
theorem State.request_replied {s t : State} (h : s.ready) {k : Kind} (hk : k ≠ .restart) {tag : Byte}
    {body : List Byte} {x : Status} {reply : List Byte} (hl : k.lengthOk body.length = true) (hr : k.reservedOk body = true)
    (ho : (s.holding ⟨k.code, tag, body⟩).owner k body = ⟨x, reply, t.holding ⟨k.code, tag, body⟩⟩) :
    (s.whenAlive fun u => u.request k tag body) = t.replied k.code tag body x reply := by
  rw [State.request_ready h, State.answerKind_served (s.holding _) k body h.2 hl hr, ho]
  simp [replyTo, State.setReply, State.holding, State.replied, Kind.code_ne_restart hk]

/-! ### The pending buffer -/

/-- The pending buffer set, and nothing else. -/
def State.withBuffer (s : State) (b : Option PlanBuffer) : State :=
  { s with selector := { s.selector with buffer := b } }

@[simp] theorem State.withBuffer_slots (s : State) (b : Option PlanBuffer) :
    (s.withBuffer b).selector.slots = s.selector.slots := rfl
@[simp] theorem State.withBuffer_pendingPlan (s : State) (b : Option PlanBuffer) :
    (s.withBuffer b).selector.pendingPlan = s.selector.pendingPlan := rfl

/-! ### PLAN_OPEN and PLAN_DROP -/

/-- A field of one byte is that byte. -/
theorem field_singleton (b : Byte) : field [b] 0 1 = b.toNat := by simp [field, slice, ofLe]

/-- No slot has the number (R44). -/
theorem State.planOpen_range (s : State) {b : Byte} (h : 7 < b.toNat) : s.planOpen [b] = s.refuse .range := by
  have hb : ¬ field [b] 0 1 < 8 := by rw [field_singleton]; omega
  simp [State.planOpen, hb]

/-- A buffer is present (R44). -/
theorem State.planOpen_sequence (s : State) {b : Byte} (h : b.toNat ≤ 7) (hbuf : s.selector.buffer ≠ none) :
    s.planOpen [b] = s.refuse .sequence := by
  have hb : field [b] 0 1 < 8 := by rw [field_singleton]; omega
  simp [State.planOpen, hb, Option.isSome_iff_ne_none.2 hbuf]

/-- A buffer is made for the slot (R44). -/
theorem State.planOpen_done (s : State) {b : Byte} {p : Fin 8} (h : b.toNat = p.val) (hbuf : s.selector.buffer = none) :
    s.planOpen [b] = (s.withBuffer (some ⟨p, []⟩)).doneNow := by
  have hp : field [b] 0 1 = p.val := by rw [field_singleton, h]
  simp [State.planOpen, hp, hbuf, State.withBuffer]

/-- The buffer is discarded (R47). -/
theorem State.planDrop_done (s : State) (hbuf : s.selector.buffer ≠ none) :
    s.planDrop = (s.withBuffer none).doneNow := by
  simp [State.planDrop, Option.isSome_iff_ne_none.2 hbuf, State.withBuffer]

/-- There is no buffer to discard (R47). -/
theorem State.planDrop_sequence (s : State) (hbuf : s.selector.buffer = none) : s.planDrop = s.refuse .sequence := by
  simp [State.planDrop, hbuf]

/-! ### A failed PLAN_ADD or PLAN_CONFIRM -/

/-- An answer other than DONE leaves the state as it was, but for the pending buffer, which it may discard. -/
def Answer.FailureDiscardsAtMost (x : Answer) (s : State) : Prop :=
  x.status ≠ .done → x.after = s ∨ x.after = s.withBuffer none

/-- A refusal changes nothing (R163). -/
theorem State.refuse_failureDiscardsAtMost (s : State) (x : Status) : (s.refuse x).FailureDiscardsAtMost s :=
  fun _ => .inl rfl

/-- A refusal that discards the buffer changes nothing else (R45, R46). -/
theorem State.discard_failureDiscardsAtMost (s : State) (x : Status) :
    ((s.withBuffer none).refuse x).FailureDiscardsAtMost s :=
  fun _ => .inr rfl

/-- What a failed PLAN_ADD changes (R45, R47). -/
theorem State.planAdd_failureDiscardsAtMost (s : State) (body : List Byte) :
    (s.planAdd body).FailureDiscardsAtMost s := by
  unfold State.planAdd
  split
  · exact s.refuse_failureDiscardsAtMost .sequence
  · dsimp only
    split
    · exact s.refuse_failureDiscardsAtMost .range
    · split
      · exact s.refuse_failureDiscardsAtMost .length
      · split
        · exact s.refuse_failureDiscardsAtMost _
        · split
          · exact s.discard_failureDiscardsAtMost .range
          · exact fun hfail => absurd rfl hfail

/-- What a failed PLAN_CONFIRM changes (R46, R47). -/
theorem State.planConfirm_failureDiscardsAtMost (s : State) (body : List Byte) :
    (s.planConfirm body).FailureDiscardsAtMost s := by
  unfold State.planConfirm
  split
  · exact s.refuse_failureDiscardsAtMost .sequence
  · dsimp only
    split
    · exact s.refuse_failureDiscardsAtMost .busy
    · split
      · exact s.discard_failureDiscardsAtMost .range
      · exact fun hfail => absurd rfl hfail

/-- The tests at dispatch refuse without a change, so they keep what the owner keeps (R164, R165). -/
theorem State.answerKind_failureDiscardsAtMost (s : State) (k : Kind) (body : List Byte)
    (ho : (s.owner k body).FailureDiscardsAtMost s) : (s.answerKind k body).FailureDiscardsAtMost s := by
  obtain hbusy | hlength | hfield | ⟨-, -, -, howner⟩ := s.answerKind_cases k body
  · exact hbusy ▸ s.refuse_failureDiscardsAtMost .busy
  · exact hlength ▸ s.refuse_failureDiscardsAtMost .length
  · exact hfield ▸ s.refuse_failureDiscardsAtMost .field
  · exact howner ▸ ho

/-- A request that fails and at most discards the buffer leaves the slots and the switch-pending marker (R47). -/
theorem State.request_failed_keeps_plans {s t : State} (h : s.ready) {k : Kind} {tag : Byte} {body : List Byte}
    {r : Reply} (ho : ∀ u : State, (u.owner k body).FailureDiscardsAtMost u)
    (ht : (s.whenAlive fun u => u.request k tag body) = t) (hr : t.msg.reply = some r) (hfail : r.status ≠ .done) :
    t.selector.slots = s.selector.slots ∧ t.selector.pendingPlan = s.selector.pendingPlan := by
  obtain rfl := ht
  rw [State.request_ready h] at hr ⊢
  simp only [State.setReply_msg, Option.some.injEq] at hr
  simp only [State.setReply_selector]
  obtain hsame | hdiscard := State.answerKind_failureDiscardsAtMost _ k body (ho _) (hr ▸ hfail)
  · simp [hsame]
  · simp [hdiscard]

/-- Settles O21: PLAN_OPEN and PLAN_DROP by the equation of each of their branches; for the failed requests every
refusal, at dispatch or by the owner, changes at most the pending buffer. -/
theorem planOpenAndDropAnswer : Obligations.PlanOpenAndDropAnswer := by
  have hopen : Kind.planOpen ≠ .restart := by decide
  have hdrop : Kind.planDrop ≠ .restart := by decide
  refine ⟨fun s tag b h => ⟨fun hb => ?_, fun hb hbuf => ?_, fun p hp hbuf => ?_⟩,
    fun s tag h => ⟨fun hbuf => ?_, fun hbuf => ?_, ?_⟩⟩
  · exact congrArg Host.Outcome.next (State.request_replied h hopen rfl rfl (State.planOpen_range _ hb))
  · exact congrArg Host.Outcome.next (State.request_replied h hopen rfl rfl (State.planOpen_sequence _ hb hbuf))
  · exact congrArg Host.Outcome.next (State.request_replied (t := s.withBuffer (some ⟨p, []⟩)) h hopen rfl rfl
      (State.planOpen_done _ hp hbuf))
  · exact congrArg Host.Outcome.next (State.request_replied (t := s.withBuffer none) h hdrop rfl rfl
      (State.planDrop_done _ hbuf))
  · exact congrArg Host.Outcome.next (State.request_replied h hdrop rfl rfl (State.planDrop_sequence _ hbuf))
  · rintro c body t r (rfl | rfl) ht hr hfail
    · exact State.request_failed_keeps_plans h (k := .planAdd) (fun u => u.planAdd_failureDiscardsAtMost body)
        (Host.Outcome.next.inj ht) hr hfail
    · exact State.request_failed_keeps_plans h (k := .planConfirm) (fun u => u.planConfirm_failureDiscardsAtMost body)
        (Host.Outcome.next.inj ht) hr hfail

end Sys2Proof.Machine
end

section
/-! PROOFS. A request frame is found behind any noise, passes the check and is read back, and a good frame of a reply
kind is discarded and counted (R159, R160, R161). -/

namespace Sys2Proof.Machine

/-! ### The hunt -/

/-- The hunt passes over every byte that does not begin a frame, and ends at the frame's two start bytes (R159). -/
theorem huntFrame_afterNoise {noise f line : List Byte} (h : afterNoise 0xA5 noise ([0xA5, 0x5A] ++ f) line) :
    huntFrame line = [0xA5, 0x5A] ++ f := by
  obtain ⟨hnoise, rfl⟩ := h
  induction noise with
  | nil => simp [huntFrame]
  | cons b bs ih =>
    have hb : (b == 0xA5) = false := beq_false_of_ne (hnoise b List.mem_cons_self)
    rw [List.cons_append, huntFrame, if_neg (by rw [hb, Bool.false_and]; exact Bool.false_ne_true)]
    exact ih fun x hx => hnoise x (List.mem_cons_of_mem b hx)

/-! ### What a request frame carries (9.1) -/

section
variable (kind tag : Byte) (body : List Byte)

/-- The parts of a request frame: start bytes, length, kind and tag, body, check. -/
theorem requestFrame_eq : requestFrame kind tag body =
    [0xA5, 0x5A] ++ (leBytes 2 body.length ++ ([kind, tag] ++ (body ++
      leBytes 2 (crc16 ([0xA5, 0x5A] ++ leBytes 2 body.length ++ [kind, tag] ++ body)).toNat))) := by
  simp only [requestFrame, withCrc, List.append_assoc]

theorem requestFrame_length : (requestFrame kind tag body).length = 8 + body.length := by
  simp [requestFrame]
  omega

theorem requestFrame_crcOk : crcOk (requestFrame kind tag body) = true := crcOk_withCrc _

theorem requestFrame_kind : byteAt (requestFrame kind tag body) 4 = kind := by
  simp [requestFrame_eq, byteAt, leBytes]

theorem requestFrame_tag : byteAt (requestFrame kind tag body) 5 = tag := by
  simp [requestFrame_eq, byteAt, leBytes]

theorem requestFrame_bodyLength (hb : body.length ≤ 1024) :
    field (requestFrame kind tag body) 2 2 = body.length := by
  rw [requestFrame_eq, ← List.append_assoc]
  exact (field_append [0xA5, 0x5A] _ 2 body.length).trans (Nat.mod_eq_of_lt (by omega))

theorem requestFrame_body : slice (requestFrame kind tag body) 6 body.length = body := by
  simp [requestFrame_eq, slice, leBytes]

/-- A request frame with a body that may be sent is whole (R159). -/
theorem requestFrame_whole (hb : body.length ≤ 1024) : frameWhole (requestFrame kind tag body) = true := by
  simp [frameWhole, requestFrame_bodyLength kind tag body hb, requestFrame_length, hb]

end

/-- HOST_FRAME_COMPLETE with a request frame behind noise is the arrival of the good frame it carries (R159). -/
theorem exec_hostFrameComplete_requestFrame (s : State) {kind tag : Byte} {body noise line : List Byte}
    (hb : body.length ≤ 1024) (h : afterNoise 0xA5 noise (requestFrame kind tag body) line) :
    exec (.hostFrameComplete line) s = .next (s.whenAlive fun u => u.goodFrame ⟨kind, tag, body⟩) := by
  have hhunt : huntFrame line = requestFrame kind tag body := by
    rw [requestFrame_eq] at h ⊢
    exact huntFrame_afterNoise h
  have hread : State.frameComplete line = fun u => u.goodFrame ⟨kind, tag, body⟩ := by
    funext u
    simp [State.frameComplete, hhunt, requestFrame_whole kind tag body hb, requestFrame_crcOk, requestFrame_kind,
      requestFrame_tag, requestFrame_bodyLength kind tag body hb, requestFrame_body]
  exact congrArg (fun f => Host.Outcome.next (s.whenAlive f)) hread

/-! ### Reply kinds -/

/-- A good frame of a reply kind is discarded and counted (R161). -/
theorem State.goodFrame_replyKind (s : State) {f : HostFrame} (h : 0x80 ≤ f.kind.toNat) :
    s.goodFrame f = s.countDiscarded := by
  have hmsb : f.kind.msb = true := by rw [BitVec.msb_eq_decide]; exact decide_eq_true h
  rw [State.goodFrame, if_pos hmsb]

/-- Settles O48: the frame is found behind the noise, passes the check and is read back, so that its kind decides. -/
theorem replyKindIsDiscarded : Obligations.ReplyKindIsDiscarded := by
  intro s kind tag body noise line halive hkind hb h
  rw [exec_hostFrameComplete_requestFrame s hb h, State.whenAlive_running _ _ halive, State.goodFrame_replyKind s hkind]
  rfl

end Sys2Proof.Machine
end

section
/-! PROOFS. Every step keeps the canonical form of the archive memory and the ranges that the spec names (O58, O59): what an
operation keeps is a reflexive and transitive relation between states, proved once for each operation. -/

/- The whole text is compiled as one file: these proofs are elaborated one after another, to stay within its memory. -/
set_option Elab.async false

namespace Sys2Proof.Machine

/-! ### The relation -/

/-- The places of the receive buffer in their range (9.2). -/
def MessageLink.placesRanged (m : MessageLink) : Prop := m.places.length ≤ 2

/-- The consecutive counts of a lane in their ranges (R5, R6). -/
def Lane.counted (l : Lane) : Prop := l.bad ≤ 16 ∧ l.good ≤ 64

/-- The clock in its ranges (6.1). -/
def Clock.ranged (c : Clock) : Prop := c.position ≤ c.samples ∧ c.part ≤ 255 ∧ c.index ≤ Config.max32

/-- A pair of index and part in its ranges (6.1). -/
def pairRanged (p : Nat × Nat) : Prop := p.1 ≤ Config.max32 ∧ p.2 ≤ 255

/-- The ROLE pages that the link holds are those of its attempt (`State.rolesHeld`). -/
def Tie.rolesHeld (x : Tie) : Prop :=
  (∀ own, x.ownRole = some own → own.seed = x.ownSeed ∧ own.attempt = x.attempt) ∧
  ∀ r, x.partnerRole = some r → r.seed = x.partnerSeed ∧ r.attempt = x.attempt

/-- The link's volatile archive values while SCANNING (`State.scanQuiet`). -/
def Archive.quiet (a : Archive) : Prop := a.state = .scanning → a.writing = false ∧ a.erase = none

/-- The read cursor behind a segment's header (`State.cursorRanged`). -/
def Archive.cursorRanged (a : Archive) : Prop := ∀ c, a.cursor = some c → 16 ≤ c.offset

/-- What tie link `x` holds in its ranges, `y` holds in its ranges; the last close pair is the same. -/
structure Tie.Keeps (x y : Tie) : Prop where
  closeList : x.closeList.length ≤ 4 → y.closeList.length ≤ 4
  roles : x.rolesHeld → y.rolesHeld
  lastPair : y.lastPair = x.lastPair

/-- Each invariant of the part that holds in `s` holds in `t`, and the same commands wait. -/
structure State.Keeps (s t : State) : Prop where
  pending : t.pending = s.pending
  queue : s.queue.length ≤ 48 → t.queue.length ≤ 48
  places : s.msg.placesRanged → t.msg.placesRanged
  closeList : s.tie.closeList.length ≤ 4 → t.tie.closeList.length ≤ 4
  clock : s.clockRanged → t.clockRanged
  lanes : (∀ l, (s.lanes.get l).counted) → ∀ l, (t.lanes.get l).counted
  trackers : (∀ v, (s.trackers.get v).holdover ≤ 25) → ∀ v, (t.trackers.get v).holdover ≤ 25
  notices : s.notices.counted → t.notices.counted
  cursor : s.archive.cursorRanged → t.archive.cursorRanged
  quiet : s.archive.quiet → t.archive.quiet
  roles : s.tie.rolesHeld → t.tie.rolesHeld
  wholes : (∀ a, (s.accounts.get a).wholesRanged) → ∀ a, (t.accounts.get a).wholesRanged
  memory : Memory.wf s.nv.segments = true → Memory.wf t.nv.segments = true

namespace State

theorem Keeps.trans {s t u : State} (h : s.Keeps t) (k : t.Keeps u) : s.Keeps u where
  pending := k.pending.trans h.pending
  queue := k.queue ∘ h.queue
  places := k.places ∘ h.places
  closeList := k.closeList ∘ h.closeList
  clock := k.clock ∘ h.clock
  lanes := k.lanes ∘ h.lanes
  trackers := k.trackers ∘ h.trackers
  notices := k.notices ∘ h.notices
  cursor := k.cursor ∘ h.cursor
  quiet := k.quiet ∘ h.quiet
  roles := k.roles ∘ h.roles
  wholes := k.wholes ∘ h.wholes
  memory := k.memory ∘ h.memory

theorem Keeps.after {s t u : State} (k : t.Keeps u) (h : s.Keeps t) : s.Keeps u := h.trans k

/-- A change of other fields than those that the invariants speak of keeps every invariant. -/
theorem keeps_of_frame {s t : State} (hq : t.queue = s.queue := by simp) (hm : t.msg = s.msg := by simp)
    (ht : t.tie = s.tie := by simp) (hc : t.clock = s.clock := by simp) (hl : t.lanes = s.lanes := by simp)
    (hv : t.trackers = s.trackers := by simp) (hn : t.notices = s.notices := by simp)
    (ha : t.archive = s.archive := by simp) (hacc : t.accounts = s.accounts := by simp)
    (hs : t.nv.segments = s.nv.segments := by simp) (hp : t.pending = s.pending := by simp) : s.Keeps t := by
  constructor <;> simp_all [clockRanged]

theorem keeps_refl (s : State) : s.Keeps s := keeps_of_frame

theorem keeps_queue (s : State) {q : List Record} (h : s.queue.length ≤ 48 → q.length ≤ 48) :
    s.Keeps { s with queue := q } :=
  { s.keeps_refl with queue := h }

theorem keeps_msg (s : State) {m : MessageLink} (h : s.msg.placesRanged → m.placesRanged) :
    s.Keeps { s with msg := m } :=
  { s.keeps_refl with places := h }

theorem keeps_tie (s : State) {x : Tie} (h : s.tie.Keeps x) : s.Keeps { s with tie := x } :=
  { s.keeps_refl with
    closeList := h.closeList, roles := h.roles
    clock := fun hc => ⟨hc.1, hc.2.1, hc.2.2.1, by simpa [h.lastPair] using hc.2.2.2⟩ }

theorem keeps_lastPair (s : State) {p : Option (Nat × Nat)} (h : s.clockRanged → ∀ q, p = some q → pairRanged q) :
    s.Keeps { s with tie := { s.tie with lastPair := p } } :=
  { s.keeps_refl with clock := fun hc => ⟨hc.1, hc.2.1, hc.2.2.1, h hc⟩ }

theorem keeps_clock (s : State) {c : Clock} (h : s.clockRanged → c.ranged) : s.Keeps { s with clock := c } :=
  { s.keeps_refl with clock := fun hc => ⟨(h hc).1, (h hc).2.1, (h hc).2.2, hc.2.2.2⟩ }

theorem keeps_lanes (s : State) {x : Table Lane 4} (h : ∀ l, (s.lanes.get l).counted → (x.get l).counted) :
    s.Keeps { s with lanes := x } :=
  { s.keeps_refl with lanes := fun hl l => h l (hl l) }

theorem keeps_trackers (s : State) {x : Table Tracker 2}
    (h : ∀ v, (s.trackers.get v).holdover ≤ 25 → (x.get v).holdover ≤ 25) : s.Keeps { s with trackers := x } :=
  { s.keeps_refl with trackers := fun hv v => h v (hv v) }

theorem keeps_notices (s : State) {n : Notices} (h : s.notices.counted → n.counted) : s.Keeps { s with notices := n } :=
  { s.keeps_refl with notices := h }

theorem keeps_archive (s : State) {a : Archive} (hc : s.archive.cursorRanged → a.cursorRanged)
    (hq : s.archive.quiet → a.quiet) : s.Keeps { s with archive := a } :=
  { s.keeps_refl with cursor := hc, quiet := hq }

theorem keeps_accounts (s : State) {x : Table Account 16}
    (h : ∀ a, (s.accounts.get a).wholesRanged → (x.get a).wholesRanged) : s.Keeps { s with accounts := x } :=
  { s.keeps_refl with wholes := fun hw a => h a (hw a) }

theorem keeps_segments (s : State) {x : Table Segment 256}
    (h : Memory.wf s.nv.segments = true → Memory.wf x = true) :
    s.Keeps { s with nv := { s.nv with segments := x } } :=
  { s.keeps_refl with memory := h }

theorem keeps_ite {s t u : State} {p : Prop} [Decidable p] (h : p → s.Keeps t) (k : ¬ p → s.Keeps u) :
    s.Keeps (if p then t else u) := by
  split
  · exact h ‹_›
  · exact k ‹_›

/-- A condition that does nothing where it fails. -/
theorem keeps_when {s t : State} {p : Prop} [Decidable p] (h : p → s.Keeps t) : s.Keeps (if p then t else s) :=
  keeps_ite h fun _ => s.keeps_refl

theorem keeps_foldl {α : Type} (f : State → α → State) (l : List α) (s : State) (h : ∀ (u : State) a, u.Keeps (f u a)) :
    s.Keeps (l.foldl f s) := by
  induction l generalizing s with
  | nil => exact s.keeps_refl
  | cons a l ih => exact (h s a).trans (ih _)

theorem keeps_whenAlive {s : State} {f : State → State} (h : s.Keeps (f s)) : s.Keeps (s.whenAlive f) :=
  keeps_ite (fun _ => s.keeps_refl) fun _ => h

/-! ### Notices and counters -/

theorem latch_keeps (s : State) (x : Notice) : s.Keeps (s.latch x) :=
  s.keeps_notices (by cases x <;> exact id)

theorem latchIf_keeps (s : State) (b : Bool) (x : Notice) : s.Keeps (s.latchIf b x) :=
  keeps_when fun _ => s.latch_keeps x

theorem recordLows_keeps (s : State) : s.Keeps s.recordLows := s.keeps_notices id

theorem clearNotices_keeps (s : State) : s.Keeps s.clearNotices :=
  s.keeps_notices fun _ => by simp [Notices.counted, Notices.initial]

theorem countLaneError_keeps (s : State) (l : Fin 4) : s.Keeps (s.countLaneError l) :=
  s.keeps_notices fun ⟨h, hrest⟩ => ⟨fun k => by
    simp only [Table.change, Table.get_put]
    split
    · exact bump_le _
    · exact h k, hrest⟩

theorem countDiscarded_keeps (s : State) : s.Keeps s.countDiscarded :=
  s.keeps_notices fun ⟨h, _, hrest⟩ => ⟨h, bump_le _, hrest⟩

theorem countOverrun_keeps (s : State) : s.Keeps s.countOverrun :=
  s.keeps_notices fun ⟨h, h1, _, hrest⟩ => ⟨h, h1, bump_le _, hrest⟩

theorem countResent_keeps (s : State) : s.Keeps s.countResent :=
  s.keeps_notices fun ⟨h, h1, h2, _, hrest⟩ => ⟨h, h1, h2, bump_le _, hrest⟩

theorem countBadPage_keeps (s : State) : s.Keeps s.countBadPage :=
  s.keeps_notices fun ⟨h, h1, h2, h3, _, hrest⟩ => ⟨h, h1, h2, h3, bump_le _, hrest⟩

theorem countAbandoned_keeps (s : State) : s.Keeps s.countAbandoned :=
  s.keeps_notices fun ⟨h, h1, h2, h3, h4, _, hrest⟩ => ⟨h, h1, h2, h3, h4, bump_le _, hrest⟩

theorem countSyncFault_keeps (s : State) : s.Keeps s.countSyncFault :=
  s.keeps_notices fun ⟨h, h1, h2, h3, h4, h5, _, h7⟩ => ⟨h, h1, h2, h3, h4, h5, bump_le _, h7⟩

theorem countDroppedTopology_keeps (s : State) : s.Keeps s.countDroppedTopology :=
  s.keeps_notices fun ⟨h, h1, h2, h3, h4, h5, h6, _⟩ => ⟨h, h1, h2, h3, h4, h5, h6, bump_le _⟩

theorem mapAccounts_keeps (s : State) {f : Fin 16 → Account → Account}
    (h : ∀ a acc, acc.wholesRanged → (f a acc).wholesRanged) : s.Keeps (s.mapAccounts f) :=
  s.keeps_accounts fun a ha => by simpa using h a _ ha

theorem testPeers_keeps (s : State) : s.Keeps s.testPeers :=
  s.mapAccounts_keeps fun _ acc h => by split <;> exact h


/-! ### Lanes and trackers -/

end State

theorem Lane.sample_counted (l : Lane) : l.sample.counted := by
  unfold Lane.sample
  split
  · exact ⟨Nat.zero_le _, satAdd_le _ _ _⟩
  · exact ⟨satAdd_le _ _ _, Nat.zero_le _⟩
  · exact ⟨satAdd_le _ _ _, Nat.zero_le _⟩
  · exact ⟨satAdd_le _ _ _, Nat.zero_le _⟩

theorem Tracker.goodCycle_holdover_le (t : Tracker) (f : Nat) : (t.goodCycle f).holdover ≤ t.holdover := by
  unfold Tracker.goodCycle
  dsimp only
  split
  · exact Nat.le_refl _
  · exact Nat.le_refl _
  all_goals
    split
    · exact Nat.zero_le _
    · exact Nat.le_refl _

theorem Tracker.failCycle_holdover_le (t : Tracker) : t.failCycle.holdover ≤ t.holdover := by
  unfold Tracker.failCycle
  dsimp only
  split
  · exact Nat.zero_le _
  · exact Nat.le_refl _

theorem Tracker.closeCycle_holdover_le (t : Tracker) (x : Settings) (v : Fin 2) (opening frac : Nat) :
    (t.closeCycle x v opening frac).holdover ≤ t.holdover := by
  unfold Tracker.closeCycle
  dsimp only
  split <;> split
  · exact (t.judgePresence x v).failCycle_holdover_le
  · exact (t.judgePresence x v).goodCycle_holdover_le _
  · exact (t.judgePresence x v).failCycle_holdover_le
  · exact (t.judgePresence x v).goodCycle_holdover_le _

theorem Tracker.sample_holdover_le (t : Tracker) (x : Settings) (v : Fin 2) (y : SetSample) :
    (t.sample x v y).holdover ≤ t.holdover := by
  unfold Tracker.sample
  split
  · split
    · exact Nat.le_refl _
    · exact t.closeCycle_holdover_le x v _ _
  · exact Nat.le_refl _

theorem Tracker.arrange_holdover_le (t : Tracker) (v : Fin 2) (a : Arrangement) :
    (t.arrange v a).holdover ≤ t.holdover := by
  unfold Tracker.arrange
  split
  · exact Nat.zero_le _
  · split
    · split
      · exact Nat.zero_le _
      · exact Nat.zero_le _
    · exact Nat.le_refl _

namespace State

theorem intake_keeps (s : State) : s.Keeps s.intake := by
  unfold intake
  dsimp only
  refine (keeps_foldl _ _ _ fun u c => u.latchIf_keeps _ _).after ((keeps_foldl _ _ _ fun u l =>
    keeps_ite (fun _ => u.keeps_refl) fun _ => u.countLaneError_keeps l).after ?_)
  exact (s.keeps_lanes (x := s.lanes.each fun _ l => l.sample) fun l _ => by
    simpa using Lane.sample_counted _).trans keeps_of_frame

/-- A lane changed but for its counts. -/
theorem changeLane_keeps (s : State) (l : Fin 4) (f : Lane → Lane) (hf : ∀ x, x.counted → (f x).counted) :
    s.Keeps { s with lanes := s.lanes.change l f } :=
  s.keeps_lanes fun k h => by
    simp only [Table.change, Table.get_put]
    split
    · next hk => exact hk ▸ hf _ (hk ▸ h)
    · exact h

theorem laneFrame_keeps (s : State) (l : Fin 4) (bytes : List Byte) : s.Keeps (laneFrame l bytes s) := by
  unfold laneFrame
  split
  · split
    · exact s.changeLane_keeps l _ fun _ h => h
    · exact s.countLaneError_keeps l
  · exact s.keeps_refl

theorem laneTimeout_keeps (s : State) (l : Fin 4) : s.Keeps (laneTimeout l s) :=
  keeps_when fun _ => s.countLaneError_keeps l

theorem laneDown_keeps (s : State) (l : Fin 4) : s.Keeps (laneDown l s) :=
  keeps_when fun _ => ((s.changeLane_keeps l (fun x => { x with up := false }) fun _ h => h).trans
    (latch_keeps _ _)).trans (recordLows_keeps _)

theorem laneUp_keeps (s : State) (l : Fin 4) : s.Keeps (laneUp l s) :=
  keeps_when fun _ => s.changeLane_keeps l _ fun _ h => h

theorem refreshLocks_keeps (s : State) : s.Keeps s.refreshLocks := keeps_of_frame

theorem setTracker_keeps (s : State) (v : Fin 2) (t : Tracker) (h : t.holdover ≤ (s.trackers.get v).holdover) :
    s.Keeps (s.setTracker v t) := by
  have hput : s.Keeps { s with trackers := s.trackers.put v t } := s.keeps_trackers fun k hk => by
    rw [Table.get_put]
    split
    · next hv => exact Nat.le_trans h (hv ▸ hk)
    · exact hk
  exact ((hput.trans (latchIf_keeps _ _ _)).trans (refreshLocks_keeps _)).trans (recordLows_keeps _)

theorem trackSample_keeps (s old : State) : s.Keeps (s.trackSample old) :=
  keeps_foldl _ _ _ fun u v => u.setTracker_keeps v _ (Tracker.sample_holdover_le _ _ _ _)

theorem abandonCycle_keeps (s : State) (v : Fin 2) : s.Keeps (abandonCycle v s) :=
  keeps_when fun _ => s.setTracker_keeps v _
    ((s.trackers.get v).judgePresence s.settings v).failCycle_holdover_le

theorem endPresenceRun_keeps (s : State) (v : Fin 2) : s.Keeps (endPresenceRun v s) :=
  keeps_when fun _ => s.setTracker_keeps v _ (Nat.le_refl _)

theorem enterFreeRun_keeps (s : State) (v : Fin 2) : s.Keeps (enterFreeRun v s) :=
  keeps_when fun _ => s.setTracker_keeps v _ (Nat.zero_le _)

theorem arrangeTrackers_keeps (s : State) (a : Arrangement) : s.Keeps (s.arrangeTrackers a) :=
  ((s.keeps_trackers fun v h => by
    simpa using Nat.le_trans (Tracker.arrange_holdover_le _ _ _) h).trans (refreshLocks_keeps _)).trans
    (recordLows_keeps _)

/-! ### Window analysers -/

theorem startWindows_keeps (s : State) : s.Keeps s.startWindows :=
  keeps_foldl _ _ _ fun u t => by
    split
    · exact keeps_of_frame
    · exact u.keeps_refl

theorem sampleWindows_keeps (s : State) : s.Keeps s.sampleWindows := by
  unfold sampleWindows
  exact keeps_of_frame

theorem finishWindow_keeps (s : State) (t : Fin 2) (w : Window) : s.Keeps (s.finishWindow t w) := by
  have hcount : s.Keeps { s with trackers := s.trackers.change (w.joined.getD t) Tracker.countWindow } :=
    s.keeps_trackers fun v h => by
      simp only [Table.change, Table.get_put]
      split
      · next hv =>
        unfold Tracker.countWindow
        split
        · exact satAdd_le _ _ _
        · exact hv ▸ h
      · exact h
  unfold finishWindow clearClips
  exact hcount.trans keeps_of_frame

theorem abandonWindow_keeps (s : State) (t : Fin 2) (w : Window) : s.Keeps (s.abandonWindow t w) := by
  unfold abandonWindow clearClips
  exact (countAbandoned_keeps _).after keeps_of_frame

/-! ### The topology selector -/

theorem writeImage_keeps (s : State) (f : Image → Image) : s.Keeps (s.writeImage f) := keeps_of_frame

theorem select_keeps (s : State) : s.Keeps s.select := by
  unfold select
  split
  · exact s.keeps_refl
  · split
    · exact (latch_keeps _ _).after keeps_of_frame
    · exact keeps_of_frame

theorem debounce_keeps (s : State) (i : Fin 8) : s.Keeps (debounce i s) := by
  unfold debounce changeInput
  exact keeps_when fun _ => (select_keeps _).after keeps_of_frame

theorem firstWord_keeps (s : State) : s.Keeps s.firstWord :=
  keeps_when fun _ => (select_keeps _).after keeps_of_frame

theorem switchSample_keeps (s : State) (levels : BitVec 8) : s.Keeps (switchSample levels s) := by
  have hsettle : s.Keeps s.settleDebounce := (firstWord_keeps _).after (keeps_foldl _ _ s fun u i => u.debounce_keeps i)
  exact keeps_ite (fun _ => s.keeps_refl) fun _ => hsettle.trans keeps_of_frame

@[simp] theorem refuse_after (s : State) (x : Status) : (s.refuse x).after = s := rfl
@[simp] theorem doneNow_after (s : State) : s.doneNow.after = s := rfl

theorem planOpen_keeps (s : State) (body : List Byte) : s.Keeps (s.planOpen body).after := by
  unfold planOpen
  split
  · split <;> exact keeps_of_frame
  · exact s.keeps_refl

theorem planAdd_keeps (s : State) (body : List Byte) : s.Keeps (s.planAdd body).after := by
  unfold planAdd
  split
  · exact s.keeps_refl
  · dsimp only
    split
    · exact s.keeps_refl
    · split
      · exact s.keeps_refl
      · split
        · exact s.keeps_refl
        · split <;> exact keeps_of_frame

theorem confirmSlot_keeps (s : State) (p : Fin 8) (c : PlanContent) (persist : Bool) :
    s.Keeps (s.confirmSlot p c persist) := by
  have h : s.Keeps
      (if s.selector.active == some p then
        { s with selector := { s.selector with
            slots := s.selector.slots.put p (some ⟨c, persist⟩), buffer := none
            replacement := true, pendingPlan := some p } }
      else ({ s with selector := { s.selector with
          slots := s.selector.slots.put p (some ⟨c, persist⟩), buffer := none } }).select) :=
    keeps_ite (fun _ => keeps_of_frame) fun _ => (select_keeps _).after keeps_of_frame
  exact keeps_ite (fun _ => h.trans (writeImage_keeps _ _)) fun _ => h

theorem planConfirm_keeps (s : State) (body : List Byte) : s.Keeps (s.planConfirm body).after := by
  unfold planConfirm
  split
  · exact s.keeps_refl
  · dsimp only
    split
    · exact s.keeps_refl
    · split
      · exact keeps_of_frame
      · exact s.confirmSlot_keeps _ _ _

theorem planDrop_keeps (s : State) : s.Keeps s.planDrop.after := by
  unfold planDrop
  split <;> exact keeps_of_frame

theorem clearSlots_keeps (s : State) (mask : Byte) : s.Keeps (s.clearSlots mask) := by
  unfold clearSlots
  dsimp only
  split
  · refine (writeImage_keeps _ _).after ?_
    exact keeps_ite (fun _ => (select_keeps _).after keeps_of_frame) fun _ => keeps_of_frame
  · exact keeps_ite (fun _ => (select_keeps _).after keeps_of_frame) fun _ => keeps_of_frame

theorem planClear_keeps (s : State) (body : List Byte) : s.Keeps (s.planClear body).after := by
  unfold planClear
  dsimp only
  split
  · exact s.keeps_refl
  · split
    · exact s.keeps_refl
    · exact s.clearSlots_keeps _

end State
end Sys2Proof.Machine
end

section
/-! PROOFS. Every step keeps its ranges, continued: accounts, what the tie link sends, and the close queue. -/

/- The whole text is compiled as one file: these proofs are elaborated one after another, to stay within its memory. -/
set_option Elab.async false

namespace Sys2Proof.Machine

/-! ### Accounts -/

theorem Acc.add_whole_le (a : Acc) (c : Nat) : (a.add c).whole ≤ Config.max32 := Nat.min_le_left _ _

theorem Account.contribute_wholesRanged (acc : Account) (c : Contribution) (p : Fin 8) :
    (acc.contribute c p).wholesRanged := by
  refine ⟨?_, ?_, ?_⟩
  · simp [Account.contribute, Mains.zip, Mains.toList, Acc.add_whole_le]
  · simp [Account.contribute, Acc.add_whole_le]
  · simp [Account.contribute, Acc.add_whole_le]

theorem Account.afterClose_wholesRanged (acc : Account) (index part : Nat) (flags : IntervalFlags) (mask : BitVec 39) :
    (acc.afterClose index part flags mask).wholesRanged := by
  refine ⟨?_, ?_, ?_⟩
  · simp [Account.afterClose, Mains.map, Mains.toList, Acc.afterClose]
  · simp [Account.afterClose, Acc.afterClose]
  · simp [Account.afterClose, Acc.afterClose]

theorem Account.initial_wholesRanged (limits : Table Nat 39) (mask : BitVec 39) :
    (Account.initial limits mask).wholesRanged := by
  refine ⟨?_, ?_, ?_⟩
  · simp [Account.initial, Mains.toList]
  · simp [Account.initial]
  · simp [Account.initial]

theorem Account.loadLimits_wholesRanged (acc : Account) (body : List Byte) (h : acc.wholesRanged) :
    (acc.loadLimits body).wholesRanged := by
  unfold Account.loadLimits
  exact ⟨h.1, h.2.1, h.2.2⟩

theorem Account.restore_wholesRanged (acc : Account) (bs : List Byte) (h : acc.wholesRanged) :
    (acc.restore bs).wholesRanged := by
  obtain ⟨hm, ha, he⟩ := h
  refine ⟨?_, ha, he⟩
  simpa [Account.restore, Mains.toList] using hm

namespace State

/-- One account replaced. -/
theorem putAccount_keeps (s : State) (a : Fin 16) (acc : Account)
    (h : (s.accounts.get a).wholesRanged → acc.wholesRanged) : s.Keeps { s with accounts := s.accounts.put a acc } :=
  s.keeps_accounts fun b hb => by
    rw [Table.get_put]
    split
    · next hab => exact h (hab ▸ hb)
    · exact hb

theorem contribute_keeps (s : State) (a : Fin 16) (c : Contribution) (p : Fin 8) : s.Keeps (s.contribute a c p) :=
  (latchIf_keeps _ _ _).after ((latchIf_keeps _ _ _).after
    (s.putAccount_keeps a _ fun _ => Account.contribute_wholesRanged _ _ _))

theorem accountWindow_keeps (s : State) (ev : CompletedWindow) : s.Keeps (s.accountWindow ev) := by
  unfold accountWindow
  split
  · exact keeps_foldl _ _ _ fun u a => keeps_when fun _ => u.contribute_keeps _ _ _
  · exact s.keeps_refl

theorem accountSummary_keeps (s : State) (x : Summary) : s.Keeps (s.accountSummary x) := by
  unfold accountSummary
  split
  · exact keeps_foldl _ _ _ fun u a => keeps_when fun _ => u.contribute_keeps _ _ _
  · exact s.keeps_refl

theorem accountRead_keeps (s : State) (body : List Byte) : s.Keeps (s.accountRead body).after := by
  unfold accountRead
  dsimp only
  repeat' split
  all_goals exact s.keeps_refl

theorem limitLoad_keeps (s : State) (body : List Byte) : s.Keeps (s.limitLoad body).after := by
  unfold limitLoad
  dsimp only
  split
  · next ha =>
    have hput := s.putAccount_keeps ⟨field body 0 1, ha⟩ ((s.accounts.get ⟨field body 0 1, ha⟩).loadLimits body)
      (Account.loadLimits_wholesRanged _ body)
    repeat' split
    any_goals exact s.keeps_refl
    · rw [doneNow_after]
      exact hput.trans (writeImage_keeps _ _)
    · exact hput
  · exact s.keeps_refl

theorem limitGet_keeps (s : State) (body : List Byte) : s.Keeps (s.limitGet body).after := by
  unfold limitGet
  split <;> exact s.keeps_refl

theorem peakSwap_keeps (s : State) (body : List Byte) : s.Keeps (s.peakSwap body).after := by
  unfold peakSwap
  dsimp only
  split
  · exact s.putAccount_keeps _ _ id
  · exact s.keeps_refl

end State

/-! ### The tie link: what it sends -/

namespace Tie

theorem Keeps.trans {x y z : Tie} (h : x.Keeps y) (k : y.Keeps z) : x.Keeps z where
  closeList := k.closeList ∘ h.closeList
  roles := k.roles ∘ h.roles
  lastPair := k.lastPair.trans h.lastPair

/-- A change of the link that leaves its CLOSE pages, the ROLE pages of its attempt and the last close pair. -/
theorem keeps_of_frame {x y : Tie} (hc : y.closeList = x.closeList := by rfl) (hp : y.lastPair = x.lastPair := by rfl)
    (ho : y.ownRole = x.ownRole := by rfl) (hs : y.ownSeed = x.ownSeed := by rfl)
    (ha : y.attempt = x.attempt := by rfl) (hr : y.partnerRole = x.partnerRole := by rfl)
    (hq : y.partnerSeed = x.partnerSeed := by rfl) : x.Keeps y where
  closeList h := by rwa [hc]
  roles h := by simpa only [Tie.rolesHeld, ho, hs, ha, hr, hq] using h
  lastPair := hp

theorem keeps_refl (x : Tie) : x.Keeps x := keeps_of_frame

theorem transmit_keeps (x : Tie) : x.Keeps x.transmit := by
  unfold transmit
  split
  · split <;> exact keeps_of_frame
  · exact keeps_of_frame

theorem resend_keeps (x : Tie) : x.Keeps x.resend := by
  unfold resend
  split <;> exact keeps_of_frame

theorem roleDue_keeps (x : Tie) (b : PageBody) : x.Keeps (x.roleDue b) := by
  unfold roleDue
  split <;> exact keeps_of_frame

theorem closeDue_keeps (x : Tie) (b : CloseBody) : x.Keeps (x.closeDue b) := by
  unfold closeDue
  split
  · exact keeps_of_frame
  · split
    · next h =>
      refine ⟨fun _ => ?_, id, rfl⟩
      simp only [List.length_append, List.length_singleton]
      omega
    · refine ⟨fun _ => ?_, id, rfl⟩
      simp only [List.length_append, List.length_singleton, List.length_take]
      omega

theorem nextPage_keeps (x : Tie) : x.Keeps x.nextPage := by
  unfold nextPage
  split
  · exact keeps_of_frame
  · split
    · next c cs hc =>
      refine ⟨fun h => ?_, id, rfl⟩
      rw [hc, List.length_cons] at h
      exact Nat.le_of_succ_le h
    · split <;> exact keeps_of_frame

theorem abandon_keeps (x : Tie) (st : TieState) : x.Keeps (x.abandon st) :=
  ⟨fun _ => Nat.zero_le _, fun _ => ⟨fun _ h => (Option.some_ne_none _ h.symm).elim,
    fun _ h => (Option.some_ne_none _ h.symm).elim⟩, rfl⟩

theorem beginAttempt_keeps (x : Tie) (n seed : Nat) (p : Preference) : x.Keeps (x.beginAttempt n seed p) := by
  refine Keeps.trans ⟨?_, ?_, ?_⟩ (roleDue_keeps _ _)
  · exact id
  · refine fun _ => ⟨fun own h => ?_, fun _ h => (Option.some_ne_none _ h.symm).elim⟩
    obtain rfl := Option.some.inj h
    exact ⟨rfl, rfl⟩
  · rfl

theorem acknowledged_keeps (x : Tie) : x.Keeps x.acknowledged :=
  Keeps.trans keeps_of_frame (nextPage_keeps _)

theorem confirmDue_keeps (x : Tie) (r : Role) : x.Keeps (x.confirmDue r) :=
  Keeps.trans keeps_of_frame (roleDue_keeps _ _)

theorem summaryDue_keeps (x : Tie) (y : Summary) : x.Keeps (x.summaryDue y) := by
  unfold summaryDue
  split
  · exact keeps_of_frame
  · split <;> exact keeps_of_frame

/-- The partner's ROLE of the link's own attempt taken over with its seed. -/
theorem takeRole_keeps (x : Tie) (r : RoleBody) (h : r.attempt = x.attempt) :
    x.Keeps { x with partnerRole := some r, partnerSeed := r.seed } := by
  refine ⟨id, fun hr => ⟨hr.1, fun q hq => ?_⟩, rfl⟩
  obtain rfl := Option.some.inj hq
  exact ⟨rfl, h⟩

end Tie

namespace State

theorem onTie_keeps (s : State) {f : Tie → Tie} (h : s.tie.Keeps (f s.tie)) : s.Keeps (s.onTie f) := s.keeps_tie h

theorem transmit_keeps (s : State) : s.Keeps s.transmit := s.onTie_keeps s.tie.transmit_keeps

theorem tieChanged_keeps (s : State) : s.Keeps s.tieChanged := s.testPeers_keeps.trans (recordLows_keeps _)

theorem enterDown_keeps (s : State) : s.Keeps s.enterDown :=
  (tieChanged_keeps _).after (s.onTie_keeps (s.tie.abandon_keeps .down))

theorem enterOff_keeps (s : State) : s.Keeps s.enterOff :=
  (tieChanged_keeps _).after (s.onTie_keeps (s.tie.abandon_keeps .off))

theorem enterTie_keeps (s : State) (x : TieState) : s.Keeps (s.enterTie x) :=
  (tieChanged_keeps _).after (s.onTie_keeps Tie.keeps_of_frame)

theorem beginAttempt_keeps (s : State) (n : Nat) : s.Keeps (s.beginAttempt n) := by
  unfold beginAttempt
  exact (s.keeps_tie (s.tie.beginAttempt_keeps n s.nextSeed s.settings.preference)).trans keeps_of_frame

theorem enterSolo_keeps (s : State) : s.Keeps s.enterSolo :=
  (enterTie_keeps _ _).after (s.onTie_keeps Tie.keeps_of_frame)

theorem failAttempt_keeps (s : State) : s.Keeps s.failAttempt :=
  keeps_ite (fun _ => s.beginAttempt_keeps _) fun _ => s.enterSolo_keeps

theorem beginResolving_keeps (s : State) : s.Keeps s.beginResolving :=
  (beginAttempt_keeps _ _).after (s.enterTie_keeps _)

theorem resendTimer_keeps (s : State) : s.Keeps s.resendTimer :=
  keeps_ite (fun _ => s.keeps_refl) fun _ =>
    keeps_ite (fun _ => (countResent_keeps _).after (s.onTie_keeps s.tie.resend_keeps)) fun _ => s.enterDown_keeps

theorem idlePage_keeps (s : State) : s.Keeps s.idlePage := keeps_when fun _ => s.onTie_keeps Tie.keeps_of_frame

theorem silence_keeps (s : State) : s.Keeps s.silence := keeps_when fun _ => s.enterDown_keeps

theorem attemptTimeout_keeps (s : State) : s.Keeps s.attemptTimeout :=
  keeps_when fun _ => s.failAttempt_keeps.trans (transmit_keeps _)

theorem exportWindow_keeps (s : State) (ev : CompletedWindow) : s.Keeps (s.exportWindow ev) :=
  keeps_when fun _ => (transmit_keeps _).after
    (s.onTie_keeps ((s.tie.summaryDue_keeps (ev.summary s.settings.exportSlots)).trans Tie.keeps_of_frame))

/-! ### Intervals and the close queue -/

theorem settleClose_keeps (s : State) (concerned formed : List (Fin 16)) (cause : CloseCause)
    (reason : Option CloseReason) (index part : Nat) (aligned advances : Bool)
    (hroom : formed.length ≠ 0 → s.queue.length + formed.length ≤ 48) :
    s.Keeps (s.settleClose concerned formed cause reason index part aligned advances) := by
  unfold settleClose
  dsimp only
  refine (latchIf_keeps _ _ _).after ((latchIf_keeps _ _ _).after ?_)
  refine Keeps.trans (s.keeps_accounts (x := s.accounts.each fun a acc =>
    if formed.contains a then
      acc.afterClose index part (.atStart (!aligned) (s.isEnabled a && s.peerMissing a)) (s.settings.orderMask.get a)
    else if concerned.contains a then acc.extend advances
    else acc) fun a ha => ?_) (keeps_queue _ fun hq => ?_)
  · rw [Table.get_each]
    split
    · exact Account.afterClose_wholesRanged _ _ _ _ _
    · split <;> exact ha
  · simp only [List.length_append, recordsOf, List.length_map]
    by_cases h : formed.length = 0
    · simpa [h] using hq
    · exact hroom h

theorem notePair_keeps (s : State) : s.Keeps s.notePair :=
  s.keeps_lastPair fun hc q hq => by
    obtain rfl := Option.some.inj hq
    exact ⟨hc.2.2.1, hc.2.1⟩

theorem handClose_keeps (s : State) (reason : Option CloseReason) : s.Keeps (s.handClose reason) :=
  keeps_when fun _ => (transmit_keeps _).after (s.onTie_keeps (s.tie.closeDue_keeps _))

theorem nextPair_ranged {c : Clock} (h : c.ranged) : pairRanged c.nextPair := by
  obtain ⟨-, hp, hi⟩ := h
  unfold Clock.nextPair pairRanged
  split
  · exact ⟨by omega, Nat.zero_le _⟩
  · refine ⟨hi, ?_⟩
    dsimp only
    split <;> omega

theorem restart_ranged (c : Clock) {p : Nat × Nat} (aligned lateOpen : Bool) (h : pairRanged p) :
    (c.restart p aligned lateOpen).ranged := ⟨Nat.zero_le _, h.2, h.1⟩

/-- A record is formed only where its close finds its places free (R105). -/
theorem normalForms_room (s : State) (h : s.normalForms = true) (hne : s.enabledAccounts.length ≠ 0) :
    s.queue.length + s.enabledAccounts.length ≤ 48 := by
  have hcount : s.enabledCount = s.enabledAccounts.length := rfl
  simp [normalForms, closeRoom, hcount, hne, Config.normalPlaces] at h
  omega

/-- A partial close forms no more records than the queue has places (R107). -/
theorem partialFormed_room (s : State) (concerned : List (Fin 16)) (h : (s.partialFormed concerned).length ≠ 0) :
    s.queue.length + (s.partialFormed concerned).length ≤ 48 := by
  simp only [partialFormed, List.length_take, partialPlaces, Config.queuePlaces] at *
  split at h <;> split <;> omega

theorem partAfter_le (s : State) (concerned : List (Fin 16)) (h : s.clock.part ≤ 255) :
    s.partAfter (s.partialFormed concerned) ≤ 255 := by
  by_cases hp : s.clock.part = 255
  · simp [partAfter, partialFormed, partialPlaces, hp]
  · unfold partAfter
    split <;> omega

theorem clockRanged_ranged {s : State} (h : s.clockRanged) : s.clock.ranged := ⟨h.1, h.2.1, h.2.2.1⟩

theorem normalClose_keeps (s : State) (cause : CloseCause) (aligned lateOpen : Bool) :
    s.Keeps (s.normalClose cause aligned lateOpen) := by
  have hclose : s.Keeps (((s.handClose none).notePair).settleClose s.enabledAccounts
      (if s.normalForms then s.enabledAccounts else []) cause none s.clock.nextPair.1 s.clock.nextPair.2 aligned true) := by
    refine (settleClose_keeps _ _ _ _ _ _ _ _ _ ?_).after ((notePair_keeps _).after (s.handClose_keeps none))
    split
    · next h => simpa [notePair] using s.normalForms_room h
    · simp
  unfold normalClose
  dsimp only
  exact { hclose with
    clock := fun hc => ⟨Nat.zero_le _, (nextPair_ranged (clockRanged_ranged hc)).2,
      (nextPair_ranged (clockRanged_ranged hc)).1, (hclose.clock hc).2.2.2⟩ }

/-- A close followed by a clock in its ranges. -/
theorem Keeps.withClock {s t : State} (h : s.Keeps t) {c : Clock} (hc : s.clockRanged → c.ranged) :
    s.Keeps { t with clock := c } :=
  { h with clock := fun k => ⟨(hc k).1, (hc k).2.1, (hc k).2.2, (h.clock k).2.2.2⟩ }

end State
end Sys2Proof.Machine
end

section
/-! PROOFS. Every step keeps its ranges, continued: closes, what the tie link takes, and the raw-sample instant. -/

/- The whole text is compiled as one file: these proofs are elaborated one after another, to stay within its memory. -/
set_option Elab.async false

namespace Sys2Proof.Machine
namespace State

theorem partialClose_keeps (s : State) (concerned : List (Fin 16)) (cause : CloseCause) (reason : CloseReason) :
    s.Keeps (s.partialClose concerned cause reason) := by
  have hnoted : s.Keeps (if reason == .disable then s else s.handClose (some reason)).notePair :=
    (notePair_keeps _).after (keeps_ite (fun _ => s.keeps_refl) fun _ => s.handClose_keeps _)
  have hqueue : (if reason == .disable then s else s.handClose (some reason)).notePair.queue = s.queue := by
    split <;> simp
  unfold partialClose
  dsimp only
  refine Keeps.withClock ((settleClose_keeps _ _ _ _ _ _ _ _ _ ?_).after hnoted) fun hc =>
    ⟨hc.1, s.partAfter_le _ hc.2.1, hc.2.2.1⟩
  rw [hqueue]
  exact s.partialFormed_room concerned

theorem clockMade_keeps (s : State) : s.Keeps s.clockMade := keeps_when fun _ => s.normalClose_keeps _ _ _

theorem clearUnaligned_keeps (s : State) : s.Keeps s.clearUnaligned :=
  s.mapAccounts_keeps fun _ _ h => by split <;> exact h

theorem syncPair_ranged (s : State) (part : Nat) (hc : s.clockRanged) (hp : part ≤ 255) :
    pairRanged (s.syncPair part) := by
  unfold syncPair pairRanged
  split
  · exact ⟨by omega, Nat.zero_le _⟩
  · exact ⟨hc.2.2.1, hp⟩

theorem syncAlign_keeps (s : State) : s.Keeps s.syncAlign := by
  unfold syncAlign
  dsimp only
  split
  · refine (clearUnaligned_keeps _).after (Keeps.withClock ((settleClose_keeps _ _ _ _ _ _ _ _ _ ?_).after
      ((notePair_keeps _).after (s.handClose_keeps _))) fun hc =>
        restart_ranged _ _ _ (s.syncPair_ranged _ hc (s.partAfter_le _ hc.2.1)))
    simpa [notePair] using s.partialFormed_room s.enabledAccounts
  · exact (clearUnaligned_keeps _).after (s.keeps_clock fun hc => restart_ranged _ _ _ ⟨hc.2.2.1, hc.2.1⟩)

theorem syncPulse_keeps (s : State) : s.Keeps s.syncPulse :=
  keeps_ite (fun _ => s.keeps_refl) fun _ => keeps_ite (fun _ => s.syncAlign_keeps) fun _ =>
    keeps_ite (fun _ => s.normalClose_keeps _ _ _) fun _ =>
      keeps_ite (fun _ => s.keeps_clock fun hc => ⟨Nat.zero_le _, hc.2.1, hc.2.2.1⟩) fun _ =>
        (s.latch_keeps _).trans (countSyncFault_keeps _)

theorem lateExpire_keeps (s : State) : s.Keeps s.lateExpire :=
  keeps_when fun _ => s.keeps_clock fun hc => ⟨hc.1, hc.2.1, hc.2.2.1⟩

/-- The clock that an ALIGN within the length and the index range leaves (R101). -/
theorem alignClock_ranged (c : Clock) (index part seconds : Nat) (hi : index ≤ Config.max32) (hp : part ≤ 255)
    (hs : seconds < c.pendingLength.getD c.length * 60) :
    ({ c.restart (index, part) true false with position := seconds * 32000 } : Clock).ranged := by
  refine ⟨?_, hp, hi⟩
  simp only [Clock.samples, Clock.restart, Config.samplesPerMinute]
  omega

theorem alignTo_keeps (s : State) (index seconds : Nat) (hi : index ≤ Config.max32)
    (hs : seconds < s.clock.pendingLength.getD s.clock.length * 60) : s.Keeps (s.alignTo index seconds) := by
  have hclock (part : Nat) (hp : part ≤ 255) :
      ({ s.clock.restart (index, if decide (s.clock.index < index) then 0 else part) true false with
        position := seconds * 32000 } : Clock).ranged :=
    alignClock_ranged _ _ _ _ hi (by split <;> omega) hs
  unfold alignTo
  dsimp only
  split
  · refine Keeps.withClock ((settleClose_keeps _ _ _ _ _ _ _ _ _ ?_).after
      ((notePair_keeps _).after (s.handClose_keeps _))) fun hc => hclock _ (s.partAfter_le _ hc.2.1)
    simpa [notePair] using s.partialFormed_room s.enabledAccounts
  · exact s.keeps_clock fun hc => hclock _ hc.2.1

theorem renumber_keeps (s old : State) : s.Keeps (s.renumber old) :=
  s.mapAccounts_keeps fun _ _ h => by split <;> exact h

theorem align_keeps (s : State) (body : List Byte) : s.Keeps (s.align body).after := by
  unfold align
  dsimp only
  split
  · exact s.keeps_refl
  · split
    · exact s.keeps_refl
    · split
      · exact s.keeps_refl
      · next hs _ =>
        refine (renumber_keeps _ _).after (s.alignTo_keeps _ _ ?_ (Nat.lt_of_not_le hs))
        exact Nat.le_of_lt_succ (field_lt body 0 4)

theorem closeNow_keeps (s : State) : s.Keeps s.closeNow.after := by
  unfold closeNow
  dsimp only
  split
  · exact s.keeps_refl
  · exact s.normalClose_keeps _ _ _

theorem setEnabled_keeps (s : State) (a : Fin 16) (b : Bool) : s.Keeps (s.setEnabled a b) := by
  unfold setEnabled
  exact keeps_of_frame

theorem disable_keeps (s : State) (a : Fin 16) : s.Keeps (s.disable a) :=
  (setEnabled_keeps _ _ _).after (s.partialClose_keeps _ _ _)

theorem enable_keeps (s : State) (a : Fin 16) : s.Keeps (s.enable a) := by
  unfold enable
  exact (s.setEnabled_keeps a true).trans (putAccount_keeps _ _ _ fun h => h)

theorem setPair_keeps (s : State) (p : Nat × Nat) (hp : s.clockRanged → pairRanged p) : s.Keeps (s.setPair p) := by
  have hacc : s.Keeps (s.mapAccounts fun _ acc =>
      if acc.recordIndex == s.clock.index && acc.part == s.clock.part && !acc.flags.extended then
        { acc with recordIndex := p.1, part := p.2 }
      else acc) := s.mapAccounts_keeps fun _ _ h => by split <;> exact h
  exact hacc.withClock fun hc => ⟨hc.1, (hp hc).2, (hp hc).1⟩

theorem pageClose_keeps (s : State) (reason : Option CloseReason) : s.Keeps (s.pageClose reason) := by
  unfold pageClose
  split
  · exact s.normalClose_keeps _ _ _
  · refine Keeps.withClock ((settleClose_keeps _ _ _ _ _ _ _ _ _ ?_).after s.notePair_keeps) fun hc =>
      restart_ranged _ _ _ ⟨hc.2.2.1, s.partAfter_le _ hc.2.1⟩
    simpa [notePair] using s.partialFormed_room s.enabledAccounts

theorem blockedClose_keeps (s : State) (last : Nat) (reason : Option CloseReason) :
    s.Keeps (s.blockedClose last reason) :=
  Keeps.withClock ((settleClose_keeps _ _ _ _ _ _ _ _ _ fun h => absurd rfl h).after s.notePair_keeps) fun _ =>
    restart_ranged _ _ _ ⟨Nat.min_le_left _ _, Nat.zero_le _⟩

theorem secondaryClose_keeps (s : State) (b : CloseBody) (hb : pairRanged (b.index, b.part)) :
    s.Keeps (s.secondaryClose b) := by
  unfold secondaryClose
  split
  · exact (pageClose_keeps _ _).after (s.setPair_keeps _ fun _ => hb)
  · next last hlast =>
    split
    · exact (pageClose_keeps _ _).after (s.setPair_keeps _ fun _ => hb)
    · split
      · exact (blockedClose_keeps _ _ _).after (s.latch_keeps _)
      · refine (pageClose_keeps _ _).after ((setPair_keeps _ _ fun hc => ?_).after (s.latch_keeps _))
        have hr := hc.2.2.2 last (by simpa using hlast)
        exact ⟨hr.1, by dsimp only; omega⟩

end State

/-! ### The tie link: what it takes -/

/-- A body whose CLOSE page carries a pair in its ranges. -/
def PageBody.closeRanged (b : PageBody) : Prop :=
  ∀ c, b = .close c → pairRanged (c.index, c.part)

theorem readClosePage_closeRanged {bs : List Byte} {b : PageBody} (h : readClosePage bs = some b) : b.closeRanged := by
  rintro c rfl
  unfold readClosePage at h
  split at h
  · cases h
  · split at h
    · simp only [Option.some.injEq, PageBody.close.injEq] at h
      subst h
      exact ⟨Nat.le_of_lt_succ (field_lt bs 0 4), Nat.le_of_lt_succ (field_lt bs 4 1)⟩
    · cases h

theorem readPageBody_closeRanged {code : Nat} {bs : List Byte} {b : PageBody} (h : readPageBody code bs = some b) :
    b.closeRanged := by
  unfold readPageBody at h
  split at h
  · split at h <;> cases h
    rintro c ⟨⟩
  split at h
  · unfold readRolePage at h
    dsimp only at h
    repeat' split at h
    all_goals cases h
    rintro c ⟨⟩
  split at h
  · unfold readConfirmPage at h
    dsimp only at h
    repeat' split at h
    all_goals cases h
    rintro c ⟨⟩
  split at h
  · unfold readSummary at h
    dsimp only at h
    repeat' split at h
    all_goals cases h
    rintro c ⟨⟩
  split at h
  · exact readClosePage_closeRanged h
  · cases h

/-- The pair that a CLOSE page read from bytes carries is in its ranges (8.1). -/
theorem readPage_closeRanged {bs : List Byte} {p : Page} (h : readPage bs = some p) :
    p.body.closeRanged := by
  unfold readPage at h
  dsimp only at h
  split at h
  · cases h
  · split at h
    · cases h
    · next b hb =>
      obtain rfl := Option.some.inj h
      exact readPageBody_closeRanged hb

namespace State

theorem enterRoleFault_keeps (s : State) : s.Keeps s.enterRoleFault := (s.enterTie_keeps _).trans (latch_keeps _ _)

theorem enterPaired_keeps (s : State) (r : Role) : s.Keeps (s.enterPaired r) :=
  (s.enterTie_keeps _).trans (latch_keeps _ _)

theorem tryResolve_keeps (s : State) : s.Keeps s.tryResolve := by
  unfold tryResolve
  split
  · refine keeps_when fun _ => ?_
    split
    · exact s.onTie_keeps (s.tie.confirmDue_keeps _)
    · exact s.failAttempt_keeps
    · exact s.enterRoleFault_keeps
  · exact s.keeps_refl

theorem tryPair_keeps (s : State) : s.Keeps s.tryPair := by
  unfold tryPair
  split
  · exact keeps_when fun _ => keeps_ite (fun _ => s.failAttempt_keeps) fun _ => s.enterPaired_keeps _
  · exact s.keeps_refl

theorem acked_keeps (s : State) (b : PageBody) : s.Keeps (s.acked b) :=
  keeps_ite (fun _ => (tryResolve_keeps _).after (s.onTie_keeps Tie.keeps_of_frame)) fun _ =>
    keeps_when fun _ => (tryPair_keeps _).after (s.onTie_keeps Tie.keeps_of_frame)

theorem takeAck_keeps (s : State) (ack : Option Bool) : s.Keeps (s.takeAck ack) := by
  unfold takeAck
  split
  · exact keeps_when fun _ => (acked_keeps _ _).after (s.onTie_keeps s.tie.acknowledged_keeps)
  · exact s.keeps_refl

theorem beginAttempt_attempt (s : State) (n : Nat) : (s.beginAttempt n).tie.attempt = n := by
  simp only [beginAttempt, Tie.beginAttempt, Tie.roleDue]
  split <;> rfl

theorem followRole_keeps (s : State) (r : RoleBody) : s.Keeps (s.followRole r) :=
  (onTie_keeps _ (Tie.takeRole_keeps _ r (s.beginAttempt_attempt r.attempt).symm)).after (s.beginAttempt_keeps _)

theorem takeRole_keeps (s : State) (r : RoleBody) : s.Keeps (s.takeRole r) :=
  keeps_ite (fun h => (tryResolve_keeps _).after (s.onTie_keeps (Tie.takeRole_keeps _ r h))) fun _ =>
    keeps_when fun _ => s.followRole_keeps r

theorem takeConfirm_keeps (s : State) (c : ConfirmBody) : s.Keeps (s.takeConfirm c) :=
  keeps_when fun _ => (tryPair_keeps _).after (s.onTie_keeps Tie.keeps_of_frame)

theorem takeSummary_keeps (s : State) (x : Summary) : s.Keeps (s.takeSummary x) :=
  (onTie_keeps _ Tie.keeps_of_frame).after (keeps_when fun _ => s.accountSummary_keeps x)

theorem takeBody_keeps (s : State) (b : PageBody) (hb : b.closeRanged) : s.Keeps (s.takeBody b) := by
  unfold takeBody
  split
  · exact s.takeRole_keeps _
  · exact s.takeConfirm_keeps _
  · exact s.enterDown_keeps
  · exact s.enterDown_keeps
  · exact s.takeSummary_keeps _
  · exact s.secondaryClose_keeps _ (hb _ rfl)
  · exact (s.enterTie_keeps _).trans (followRole_keeps _ _)
  · exact (s.enterTie_keeps _).trans (followRole_keeps _ _)
  · exact s.keeps_refl

theorem acceptPage_keeps (s : State) (p : Page) (hb : p.body.closeRanged) : s.Keeps (s.acceptPage p) :=
  keeps_when fun _ => (takeBody_keeps _ _ hb).after (s.onTie_keeps Tie.keeps_of_frame)

theorem takePage_keeps (s : State) (p : Page) (hb : p.body.closeRanged) : s.Keeps (s.takePage p) := by
  have hnote : s.Keeps (s.noteAck p) := s.onTie_keeps Tie.keeps_of_frame
  refine keeps_ite (fun _ => s.enterDown_keeps) fun _ => ?_
  refine (transmit_keeps _).after ((acceptPage_keeps _ p hb).after (Keeps.after ?_ hnote))
  exact keeps_ite (fun _ => beginResolving_keeps _) fun _ => takeAck_keeps _ _

theorem pageArrive_keeps (s : State) (bytes : List Byte) : s.Keeps (pageArrive bytes s) := by
  unfold pageArrive
  refine keeps_when fun _ => ?_
  split
  · next h => exact s.takePage_keeps _ (readPage_closeRanged h)
  · exact s.countBadPage_keeps

theorem pageOverlength_keeps (s : State) (bytes : List Byte) : s.Keeps (pageOverlength bytes s) :=
  keeps_when fun _ => s.countBadPage_keeps

theorem pageGap_keeps (s : State) (bytes : List Byte) : s.Keeps (pageGap bytes s) :=
  keeps_when fun _ => s.countBadPage_keeps

/-! ### Window completion and the raw-sample instant -/

theorem countAbandonedAccounts_keeps (s : State) (old : Option PlanContent) (w : Window) :
    s.Keeps (s.countAbandonedAccounts old w) := by
  unfold countAbandonedAccounts
  split
  · exact s.keeps_refl
  · exact s.mapAccounts_keeps fun _ _ h => by split <;> exact h

theorem rearrange_keeps (s : State) (old : Option PlanContent) (t : Fin 2) (a : Arrangement) :
    s.Keeps (s.rearrange old t a) := by
  unfold rearrange
  refine (arrangeTrackers_keeps _ _).after ?_
  split
  · exact (countAbandonedAccounts_keeps _ _ _).after (s.abandonWindow_keeps _ _)
  · exact s.keeps_refl

theorem placeTopology_keeps (s : State) (r : TopologyRecord) : s.Keeps (s.placeTopology r) := by
  refine keeps_ite (fun h => s.keeps_queue fun _ => ?_) fun _ => s.countDroppedTopology_keeps
  simp only [List.length_append, List.length_singleton, Config.normalPlaces] at *
  omega

theorem applyPlan_keeps (s : State) (t : Fin 2) (number : Nat) (p : Fin 8) (c : PlanContent) :
    s.Keeps (s.applyPlan t number p c) := by
  have hswitch : s.Keeps { s with selector := { s.selector with
      active := some p, content := some c, pendingPlan := none, replacement := false } } := keeps_of_frame
  have hplaced := hswitch.trans
    (placeTopology_keeps _ (s.topologyOf t number p (c.arrangement != s.arrangement)))
  have harranged := hplaced.trans (keeps_ite (p := (c.arrangement != s.arrangement) = true)
    (fun _ => rearrange_keeps _ s.selector.content t c.arrangement) fun _ => keeps_refl _)
  have hlatched := (harranged.trans (latch_keeps _ .planSwitched)).trans (testPeers_keeps _)
  exact keeps_ite (fun _ => hlatched.trans (select_keeps _)) fun _ => hlatched

theorem governSwitch_keeps (s : State) (t : Fin 2) (number : Nat) : s.Keeps (s.governSwitch t number) := by
  refine keeps_when fun _ => ?_
  split
  · exact s.keeps_refl
  · split
    · exact s.keeps_refl
    · exact s.applyPlan_keeps _ _ _ _

theorem completeWindow_keeps (s : State) (t : Fin 2) (w : Window) : s.Keeps (s.completeWindow t w) :=
  (governSwitch_keeps _ _ _).after ((exportWindow_keeps _ _).after ((accountWindow_keeps _ _).after
    (s.finishWindow_keeps t w)))

theorem windowComplete_keeps (s : State) (t : Fin 2) : s.Keeps (windowComplete t s) := by
  unfold windowComplete
  split
  · exact keeps_when fun _ => s.completeWindow_keeps _ _
  · exact s.keeps_refl

theorem settleSample_keeps (s : State) : s.Keeps s.settleSample := by
  unfold settleSample
  dsimp only
  refine (lateExpire_keeps _).after ((clockMade_keeps _).after ?_)
  refine (keeps_foldl _ _ _ fun u v => u.enterFreeRun_keeps v).after ?_
  refine (keeps_foldl _ _ _ fun u v => u.windowComplete_keeps v).after ?_
  refine (keeps_foldl _ _ _ fun u v => (u.abandonCycle_keeps v).trans (endPresenceRun_keeps _ v)).after ?_
  exact keeps_foldl _ _ _ fun u l => (u.laneDown_keeps l).trans (laneUp_keeps _ l)

theorem tickClock_keeps (s : State) : s.Keeps s.tickClock :=
  s.keeps_clock fun hc => ⟨by simp only [Clock.samples]; exact Nat.min_le_left _ _, hc.2.1, hc.2.2.1⟩

theorem takeSample_keeps (s : State) : s.Keeps s.takeSample :=
  (tickClock_keeps _).after ((sampleWindows_keeps _).after ((trackSample_keeps _ _).after
    ((intake_keeps _).after s.startWindows_keeps)))

theorem rawSample_keeps (s : State) : s.Keeps s.rawSample :=
  keeps_ite (fun _ => s.keeps_refl) fun _ => (takeSample_keeps _).after s.settleSample_keeps

end State
end Sys2Proof.Machine
end

section
/-! PROOFS. Every step keeps its ranges, continued: the archive, its requests, its reads and the scan. -/

/- The whole text is compiled as one file: these proofs are elaborated one after another, to stay within its memory. -/
set_option Elab.async false

namespace Sys2Proof.Machine

/-! ### Where a walk stands (7.10) -/

/-- A walk stands at or behind the offset it began at: its end, and each record it finds. -/
theorem walkFrom_behind (k off : Nat) (rest : List Byte) :
    off ≤ (walkFrom k off rest).endAt ∧ ∀ r ∈ (walkFrom k off rest).records, off ≤ r.1 := by
  induction k generalizing off rest with
  | zero => exact ⟨Nat.le_refl _, by simp [walkFrom]⟩
  | succ k ih =>
    unfold walkFrom
    split
    · next bs _ =>
      obtain ⟨hend, hrec⟩ := ih (off + bs.length) (rest.drop bs.length)
      refine ⟨Nat.le_trans (Nat.le_add_right _ _) hend, fun r hr => ?_⟩
      obtain rfl | hr := List.mem_cons.1 hr
      · exact Nat.le_refl _
      · exact Nat.le_trans (Nat.le_add_right _ _) (hrec r hr)
    · next n _ =>
      obtain ⟨hend, hrec⟩ := ih (off + n) (rest.drop n)
      exact ⟨Nat.le_trans (Nat.le_add_right _ _) hend, fun r hr => Nat.le_trans (Nat.le_add_right _ _) (hrec r hr)⟩
    · exact ⟨Nat.le_refl _, by simp⟩

theorem State.readSegments_behind (s : State) (f : ReadFilter) (gs : List (Fin 256)) (off : Nat) (pos : Position)
    (hoff : 16 ≤ off) (hpos : 16 ≤ pos.offset) :
    16 ≤ (s.readSegments f gs off pos).endAt.offset ∧ ∀ r ∈ (s.readSegments f gs off pos).found, 16 ≤ r.1.offset := by
  induction gs generalizing off pos with
  | nil => exact ⟨hpos, by simp [State.readSegments]⟩
  | cons g gs ih =>
    obtain ⟨hend, hrec⟩ := walkFrom_behind ((s.seg g).area.length + 1) off ((s.seg g).area.drop (off - 16))
    have hnext : 16 ≤ (if ((s.seg g).walkAt off).endAt = 16 then pos
        else ⟨g, ((s.seg g).walkAt off).endAt⟩ : Position).offset := by
      split
      · exact hpos
      · exact Nat.le_trans hoff hend
    obtain ⟨hrest, hfound⟩ := ih 16 _ (Nat.le_refl _) hnext
    refine ⟨hrest, fun r hr => ?_⟩
    simp only [State.readSegments, List.mem_append, List.mem_map, List.mem_filter] at hr
    obtain ⟨x, ⟨hx, -⟩, rfl⟩ | hr := hr
    · exact Nat.le_trans hoff (hrec x hx)
    · exact hfound r hr

theorem takeRecords_rest_mem {room : Nat} {xs : List (Position × List Byte)} {x : Position × List Byte}
    (h : x ∈ (takeRecords room xs).2) : x ∈ xs := by
  induction xs generalizing room with
  | nil => exact absurd h (by simp [takeRecords])
  | cons y ys ih =>
    unfold takeRecords at h
    split at h
    · exact List.mem_cons_of_mem _ (ih h)
    · exact h

/-- The walk that serves a read from a position (R132, R133). -/
def State.readWalk (s : State) (f : ReadFilter) (start : Position) : ReadWalk :=
  let later := (s.segmentsWith Marker.served).filter fun g => (s.seg start.segment).seq < (s.seg g).seq
  if (s.seg start.segment).marker.served then s.readSegments f (start.segment :: later) start.offset start
  else s.readSegments f later 16 ⟨later.headD start.segment, 16⟩

/-- Where the cursor stands after the records that a reply takes (R132, R133). -/
def ReadWalk.rest (w : ReadWalk) : Position :=
  match (takeRecords 1016 w.found).2 with | x :: _ => x.1 | [] => w.endAt

/-- A read by its walk. -/
theorem State.readFrom_eq (s : State) (f : ReadFilter) (start : Position) :
    s.readFrom f start = ⟨.done,
      readHeader (takeRecords 1016 (s.readWalk f start).found).1.length
        (!(takeRecords 1016 (s.readWalk f start).found).2.isEmpty) (s.readWalk f start).rest ++
        (takeRecords 1016 (s.readWalk f start).found).1.flatten,
      s.onArchive fun a =>
        { a with
          cursor := some ⟨(s.readWalk f start).rest.segment, (s.seg (s.readWalk f start).rest.segment).seq,
            (s.readWalk f start).rest.offset, f⟩ }⟩ := rfl

theorem ReadWalk.rest_behind {w : ReadWalk} (hend : 16 ≤ w.endAt.offset) (hfound : ∀ r ∈ w.found, 16 ≤ r.1.offset) :
    16 ≤ w.rest.offset := by
  unfold ReadWalk.rest
  split
  · next x xs hx => exact hfound x (takeRecords_rest_mem (hx ▸ List.mem_cons_self))
  · exact hend

namespace State

/-! ### The archive -/

/-- A change of the archive's volatile state that leaves its cursor and what runs while SCANNING. -/
theorem onArchive_keeps (s : State) {f : Archive → Archive} (hc : (f s.archive).cursor = s.archive.cursor ∨
    (f s.archive).cursor = none := by exact .inl rfl) (hq : s.archive.quiet → (f s.archive).quiet) :
    s.Keeps (s.onArchive f) := by
  refine s.keeps_archive (fun h c hcur => ?_) hq
  obtain hc | hc := hc
  · exact h c (hc ▸ hcur)
  · exact (Option.some_ne_none c (hcur.symm.trans hc)).elim

theorem putSeg_keeps (s : State) (g : Fin 256) (x : Segment) (h : Memory.wf s.nv.segments = true → x.wf = true) :
    s.Keeps (s.putSeg g x) :=
  s.keeps_segments fun hm => Memory.wf_put _ g x hm (h hm)

theorem mark_keeps (s : State) (g : Fin 256) (m : Marker) (hm : m ≠ .blank) : s.Keeps (s.mark g m) :=
  s.putSeg_keeps g _ fun h => Segment.wf_marker _ _ ((Memory.wf_iff _).1 h g) hm

theorem retire_keeps (s : State) (g : Fin 256) : s.Keeps (s.retire g) := s.putSeg_keeps g _ fun _ => Segment.wf_retired

theorem stopArchive_keeps (s : State) (e : ArchiveError) : s.Keeps (s.stopArchive e) :=
  (latch_keeps _ _).after (s.onArchive_keeps (hq := fun _ h => by cases h))

theorem beginErase_keeps (s : State) (g : Fin 256) : s.Keeps (s.beginErase g) := by
  refine (onArchive_keeps _ (hq := fun _ h => ?_)).after (s.mark_keeps g .reclaiming (by decide))
  dsimp only at h
  split at h <;> cases h

theorem becomeHeld_keeps (s : State) : s.Keeps s.becomeHeld :=
  (latchIf_keeps _ _ _).after (s.onArchive_keeps (hq := fun h => h))

theorem reclaimTest_keeps (s : State) : s.Keeps s.reclaimTest := by
  obtain ⟨-, h⟩ | ⟨-, -, h⟩ | ⟨g, -, -, -, h⟩ | ⟨g, -, -, -, h⟩ := s.reclaimTest_cases <;> rw [h]
  · exact s.keeps_refl
  · exact s.onArchive_keeps (hq := fun h => h)
  · exact s.beginErase_keeps g
  · exact s.becomeHeld_keeps

theorem reclaimTestHeld_keeps (s : State) : s.Keeps s.reclaimTestHeld := by
  have hclear : s.Keeps (s.onArchive fun a => { a with heldInd := false }) := s.onArchive_keeps (hq := fun h => h)
  unfold reclaimTestHeld
  refine keeps_ite (fun _ => s.keeps_refl) fun _ => ?_
  split
  · exact hclear
  · exact keeps_ite (fun _ => hclear) fun _ => s.becomeHeld_keeps

theorem reclaimTestRunning_keeps (s : State) : s.Keeps s.reclaimTestRunning :=
  keeps_ite (fun _ => s.reclaimTestHeld_keeps) fun _ => s.reclaimTest_keeps

theorem beginWrite_keeps (s : State) : s.Keeps s.beginWrite := by
  refine s.onArchive_keeps (hq := fun _ h => ?_)
  dsimp only at h
  split at h <;> cases h

theorem resumeErase_keeps (s : State) : s.Keeps s.resumeErase := by
  by_cases hs : (s.archive.state == .suspended && !s.archive.writing) = true
  · simp only [resumeErase, onArchive, hs]
    exact s.keeps_archive (fun h => h) fun _ h => by cases h
  · simp only [resumeErase, onArchive, hs]
    exact s.keeps_refl

theorem settleErase_keeps (s : State) : s.Keeps s.settleErase := by
  obtain h | h := s.settleErase_cases <;> rw [h]
  · exact s.keeps_refl
  · exact s.resumeErase_keeps

/-- The head is OPEN. -/
theorem openHead_marker {s : State} {h : Fin 256} (ho : s.openHead = some h) :
    s.archive.head = some h ∧ (s.seg h).marker = .opened := by
  unfold openHead at ho
  split at ho
  · split at ho
    · next hm =>
      obtain rfl := Option.some.inj ho
      exact ⟨‹_›, by simpa using hm⟩
    · cases ho
  · cases ho

theorem fillHead_keeps (s : State) : s.Keeps s.fillHead := by
  unfold fillHead
  split
  · exact s.mark_keeps _ _ (by decide)
  · exact s.keeps_refl

theorem openSegment_keeps (s : State) (g : Fin 256) (ok : Bool) : s.Keeps (s.openSegment g ok) := by
  have hseq : s.Keeps (s.onArchive fun a => { a with nextSeq := s.archive.nextSeq + 1 }) :=
    s.onArchive_keeps (hq := fun h => h)
  refine keeps_ite (fun _ => ?_) fun _ => ?_
  · exact (beginWrite_keeps _).after ((onArchive_keeps _ (hq := fun h => h)).after
      ((putSeg_keeps _ g _ fun _ => Segment.wf_opened _).after hseq))
  · exact (stopArchive_keeps _ _).after ((retire_keeps _ g).after hseq)

theorem needSegment_keeps (s : State) (ok : Bool) : s.Keeps (s.needSegment ok) := by
  unfold needSegment
  split
  · exact s.keeps_refl
  · split
    · exact s.openSegment_keeps _ _
    · exact s.settleErase_keeps.trans (reclaimTest_keeps _)
    · exact s.settleErase_keeps

theorem writerTake_keeps (s : State) (ok : Bool) : s.Keeps (writerTake ok s) := by
  unfold writerTake
  split
  · exact s.keeps_refl
  · exact keeps_ite (fun _ => s.keeps_refl) fun _ => keeps_ite (fun _ => s.beginWrite_keeps) fun _ =>
      s.fillHead_keeps.trans (needSegment_keeps _ _)

theorem writeMark_keeps (s : State) (value : Nat) (copy : Fin 2) : s.Keeps (s.writeMark value copy) := by
  unfold writeMark
  exact keeps_of_frame

theorem clearMarks_keeps (s : State) : s.Keeps s.clearMarks := by
  have hdone : s.Keeps (s.onArchive fun a => { a with erase := none, clear := .marking 2 }) :=
    s.onArchive_keeps (hq := fun h hs => ⟨(h hs).1, rfl⟩)
  exact keeps_ite (fun _ => hdone) fun _ => hdone.trans (writeMark_keeps _ _ _)

theorem clearNext_keeps (s : State) (gs : List (Fin 256)) (hs : s.archive.state = .clearing) :
    s.Keeps (s.clearNext gs) := by
  cases gs with
  | nil => exact s.clearMarks_keeps
  | cons g gs =>
    refine (onArchive_keeps _ (f := fun a => { a with erase := some g, clear := .erasing gs })
      (hq := fun _ h => ?_)).after (s.mark_keeps g .reclaiming (by decide))
    simp [hs] at h

theorem clearBegin_keeps (s : State) : s.Keeps s.clearBegin := by
  have hbegun : s.Keeps (s.onArchive fun a => { a with state := .clearing, cursor := none, heldInd := false }) :=
    s.onArchive_keeps (hc := .inr rfl) (hq := fun _ h => by cases h)
  unfold clearBegin
  dsimp only
  split
  · exact hbegun.trans (onArchive_keeps _ (hq := fun h => h))
  · exact hbegun.trans (clearNext_keeps _ _ rfl)

theorem endWrite_keeps (s : State) : s.Keeps s.endWrite := by
  refine s.onArchive_keeps (hq := fun hq h => ?_)
  dsimp only at h
  split at h
  · cases h
  · exact ⟨rfl, (hq h).2⟩

theorem program_keeps (s : State) (h : Fin 256) (bytes : List Byte) (hm : (s.seg h).marker ≠ .blank) :
    s.Keeps (s.program h bytes) :=
  s.putSeg_keeps h _ fun _ => Segment.wf_program _ _ _ hm

theorem advance_keeps (s : State) (n : Nat) : s.Keeps (s.advance n) := s.onArchive_keeps (hq := fun h => h)

theorem halfTest_keeps (s : State) : s.Keeps s.halfTest := keeps_when fun _ => s.reclaimTestRunning_keeps

theorem dropOldest_keeps (s : State) : s.Keeps s.dropOldest := by
  refine (s.keeps_queue (q := s.queue.drop 1) fun h => ?_).trans (keeps_archive _ (fun h => h) fun h => h)
  simp only [List.length_drop]
  omega

theorem writeDone_keeps (s : State) (h : Fin 256) (bs : List Byte) (hm : (s.seg h).marker ≠ .blank) :
    s.Keeps (s.writeDone h bs) := by
  have hdone := (((s.program_keeps h bs hm).trans (advance_keeps _ bs.length)).trans (endWrite_keeps _)).trans
    (dropOldest_keeps _)
  exact keeps_ite (fun _ => hdone.trans (clearBegin_keeps _)) fun _ =>
    (hdone.trans (halfTest_keeps _)).trans (settleErase_keeps _)

theorem deadSlot_keeps (s : State) (h : Fin 256) (bs back : List Byte) (hm : (s.seg h).marker ≠ .blank) :
    s.Keeps (s.deadSlot h bs back) :=
  keeps_ite (fun _ => (s.program_keeps h _ hm).trans (advance_keeps _ _)) fun _ =>
    (s.program_keeps h _ hm).trans (mark_keeps _ h .full (by decide))

theorem writeFailed_keeps (s : State) (h : Fin 256) (bs back : List Byte) (ok : Bool) (hm : (s.seg h).marker ≠ .blank) :
    s.Keeps (s.writeFailed h bs back ok) := by
  have hfailed := ((s.deadSlot_keeps h bs back hm).trans (endWrite_keeps _)).trans
    (onArchive_keeps _ (f := fun a => { a with failedOnce := true }) (hq := fun h => h))
  exact keeps_ite (fun _ => hfailed.trans (clearBegin_keeps _)) fun _ => hfailed.trans (writerTake_keeps _ _)

theorem writeLost_keeps (s : State) (h : Fin 256) (bs back : List Byte) (hm : (s.seg h).marker ≠ .blank) :
    s.Keeps (s.writeLost h bs back) :=
  (stopArchive_keeps _ _).after ((onArchive_keeps _ (hq := fun h => h)).after ((dropOldest_keeps _).after
    ((endWrite_keeps _).after (s.deadSlot_keeps h bs back hm))))

theorem writeComplete_keeps (s : State) (bad : List (Nat × Byte)) (ok : Bool) : s.Keeps (writeComplete bad ok s) := by
  unfold writeComplete
  split
  · next bs h _ ho =>
    have hm : (s.seg h).marker ≠ .blank := by simp [(openHead_marker ho).2]
    exact keeps_ite (fun _ => s.keeps_refl) fun _ => keeps_ite (fun _ => s.writeDone_keeps h _ hm) fun _ =>
      keeps_ite (fun _ => s.writeLost_keeps h _ _ hm) fun _ => s.writeFailed_keeps h _ _ ok hm
  · exact s.keeps_refl

theorem dropHead_keeps (s : State) : s.Keeps s.dropHead :=
  keeps_ite (fun _ => s.keeps_refl) fun _ => s.onArchive_keeps (hq := fun h => h)

theorem eraseDone_keeps (s : State) (g : Fin 256) (ok : Bool) : s.Keeps (s.eraseDone g ok) := by
  have hdone := ((s.putSeg_keeps g Segment.erased fun _ => Segment.wf_erased).trans (onArchive_keeps _
    (f := fun a => { a with erase := none, state := if a.writing then .writing else .idle })
    (hq := fun _ h => by dsimp only at h; split at h <;> cases h))).trans (dropHead_keeps _)
  exact keeps_ite (fun _ => hdone.trans (writerTake_keeps _ _)) fun _ => hdone

theorem eraseFailed_keeps (s : State) (g : Fin 256) : s.Keeps (s.eraseFailed g) :=
  (stopArchive_keeps _ _).after ((dropHead_keeps _).after
    ((onArchive_keeps _ (hq := fun h hs => ⟨(h hs).1, rfl⟩)).after (s.retire_keeps g)))

theorem eraseComplete_keeps (s : State) (blank ok : Bool) : s.Keeps (eraseComplete blank ok s) := by
  unfold eraseComplete
  split
  · exact s.keeps_refl
  · refine keeps_ite (fun _ => keeps_ite (fun _ => s.eraseDone_keeps _ _) fun _ => s.eraseFailed_keeps _) fun _ =>
      keeps_when fun hs => keeps_ite (fun _ => ?_) fun _ => s.eraseFailed_keeps _
    split
    · refine (clearNext_keeps _ _ ?_).after (s.putSeg_keeps _ _ fun _ => Segment.wf_erased)
      simpa using hs
    · exact s.keeps_refl

/-! ### Archive requests and store writes -/

theorem leaveStopped_keeps (s : State) : s.Keeps s.leaveStopped :=
  (reclaimTestRunning_keeps _).after ((settleErase_keeps _).after
    (s.onArchive_keeps (hq := fun _ h => by dsimp only at h; split at h <;> cases h)))

theorem errorClear_keeps (s : State) : s.Keeps s.errorClear.after := keeps_when fun _ => s.leaveStopped_keeps

theorem archiveCollected_keeps (s : State) (body : List Byte) : s.Keeps (s.archiveCollected body).after := by
  unfold archiveCollected
  dsimp only
  repeat' split
  · exact s.keeps_refl
  · exact s.keeps_refl
  · exact s.keeps_refl
  · exact s.writeMark_keeps _ _

theorem setPins_keeps (s : State) (pins : Table (Option (Nat × Nat)) 4) : s.Keeps (s.setPins pins) :=
  (writeImage_keeps _ _).after (s.onArchive_keeps (hq := fun h => h))

theorem pinAdd_keeps (s : State) (body : List Byte) : s.Keeps (s.pinAdd body).after := by
  unfold pinAdd
  dsimp only
  repeat' split
  any_goals exact s.keeps_refl
  exact s.setPins_keeps _

theorem pinRemove_keeps (s : State) (body : List Byte) : s.Keeps (s.pinRemove body).after := by
  unfold pinRemove
  dsimp only
  repeat' split
  any_goals exact s.keeps_refl
  exact (s.setPins_keeps _).trans (reclaimTestRunning_keeps _)

theorem archiveClear_keeps (s : State) : s.Keeps s.archiveClear.after := by
  unfold archiveClear
  repeat' split
  any_goals exact s.keeps_refl
  · exact s.keeps_archive (fun h => h) fun h => h
  · exact s.clearBegin_keeps

theorem markCleared_keeps (s : State) (copy : Fin 2) : s.Keeps (s.markCleared copy) := by
  unfold markCleared
  split
  · exact (writeMark_keeps _ _ _).after
      (s.onArchive_keeps (f := fun a => { a with clear := .marking 1 }) (hq := fun h => h))
  · exact s.onArchive_keeps (hq := fun _ h => by cases h)

theorem clearMarksIfDue_keeps (s : State) : s.Keeps s.clearMarksIfDue := keeps_when fun _ => s.writeMark_keeps _ _

theorem markCollected_keeps (s : State) (value : Nat) : s.Keeps (s.markCollected value) :=
  (reclaimTestRunning_keeps _).after
    (s.onArchive_keeps (f := fun a => { a with mark := value }) (hq := fun h => h))

theorem storeComplete_keeps (s : State) : s.Keeps s.storeComplete := by
  unfold storeComplete
  split
  · exact s.keeps_refl
  · exact (clearMarksIfDue_keeps _).after keeps_of_frame
  · next value copy _ =>
    have hstored : s.Keeps { s with store := none, nv := { s.nv with marks := s.nv.marks.put copy (some value) } } :=
      keeps_of_frame
    exact keeps_ite (fun _ => hstored.trans (markCleared_keeps _ _)) fun _ =>
      (hstored.trans (markCollected_keeps _ _)).trans (clearMarksIfDue_keeps _)

theorem readWalk_behind (s : State) (f : ReadFilter) (start : Position) (h : 16 ≤ start.offset) :
    16 ≤ (s.readWalk f start).endAt.offset ∧ ∀ r ∈ (s.readWalk f start).found, 16 ≤ r.1.offset := by
  unfold readWalk
  split
  · exact s.readSegments_behind f _ _ _ h h
  · exact s.readSegments_behind f _ _ _ (Nat.le_refl _) (Nat.le_refl _)

theorem readFrom_keeps (s : State) (f : ReadFilter) (start : Position)
    (h : s.archive.cursorRanged → 16 ≤ start.offset) : s.Keeps (s.readFrom f start).after := by
  rw [readFrom_eq]
  refine s.keeps_archive (fun hc c hcur => ?_) fun hq => hq
  obtain rfl := Option.some.inj hcur
  obtain ⟨hend, hfound⟩ := s.readWalk_behind f start (h hc)
  exact ReadWalk.rest_behind hend hfound

theorem archiveRead_keeps (s : State) (body : List Byte) : s.Keeps (s.archiveRead body).after := by
  unfold archiveRead
  dsimp only
  repeat' split
  any_goals exact s.keeps_refl
  · exact s.keeps_archive (fun _ _ h => by cases h) fun h => h
  · exact s.readFrom_keeps _ _ fun _ => Nat.le_refl _

theorem archiveMore_keeps (s : State) : s.Keeps s.archiveMore.after := by
  unfold archiveMore
  split
  · exact s.keeps_refl
  · split
    · exact s.keeps_refl
    · next c hc =>
      split
      · exact s.readFrom_keeps _ _ fun h => h c hc
      · exact s.keeps_archive (fun _ _ h => by cases h) fun h => h

/-! ### The scan -/

theorem scanRepair_keeps (s : State) (failed : List (Fin 256)) : s.Keeps (s.scanRepair failed) := by
  refine Keeps.trans (s.keeps_segments fun h => ?_) (keeps_foldl _ _ _ fun u g => u.mark_keeps g .full (by decide))
  rw [Memory.wf_iff] at h ⊢
  intro g
  rw [Table.get_each]
  exact Segment.wf_repaired _ _ (h g)

theorem scanFind_keeps (s : State) : s.Keeps s.scanFind :=
  s.keeps_archive (fun h => h) fun _ h => by cases h

theorem endScan_keeps (s : State) (failed : List (Fin 256)) : s.Keeps (s.endScan failed) := by
  have hfound := ((s.scanRepair_keeps failed).trans (scanFind_keeps _)).trans
    (latchIf_keeps _ ((List.finRange 256).any fun g => (s.seg g).tornFound) .tornFound)
  exact keeps_ite (fun _ => hfound.trans (stopArchive_keeps _ _)) fun _ => hfound

theorem cutArchive_keeps (s : State) (programmed : Nat) (headerCut : Bool) :
    s.Keeps (s.cutArchive programmed headerCut) := by
  have hwrite : s.Keeps
      (match s.oldest, s.openHead with
        | some bs, some h =>
          if !s.archive.writing then s
          else if headerCut && (s.seg h).area.isEmpty then s.mark h .broken
          else s.program h (bs.take programmed)
        | _, _ => s) := by
    split
    · next bs h _ ho =>
      exact keeps_ite (fun _ => s.keeps_refl) fun _ => keeps_ite (fun _ => s.mark_keeps _ _ (by decide)) fun _ =>
        s.program_keeps _ _ (by simp [(openHead_marker ho).2])
    · exact s.keeps_refl
  unfold cutArchive
  dsimp only
  split
  · exact hwrite.trans (mark_keeps _ _ _ (by decide))
  · exact hwrite

end State
end Sys2Proof.Machine
end

section
/-! PROOFS. Every step keeps its ranges, concluded: settings, supervisor, message link, and every command (O1, O58 to O60). -/

/- The whole text is compiled as one file: these proofs are elaborated one after another, to stay within its memory. -/
set_option Elab.async false

namespace Sys2Proof.Machine
theorem Notices.initial_counted : Notices.initial.counted := by simp [Notices.counted, Notices.initial]

namespace State

/-! ### Settings -/

theorem setLength_keeps (s : State) (n : Nat) : s.Keeps (s.setLength n) :=
  s.keeps_clock fun hc => ⟨hc.1, hc.2.1, hc.2.2.1⟩

theorem changeEnabled_keeps (s : State) (a : Fin 16) (b : Bool) : s.Keeps (s.changeEnabled a b) :=
  keeps_ite (fun _ => s.disable_keeps a) fun _ => keeps_when fun _ => s.enable_keeps a

theorem changeTieEnable_keeps (s : State) (old : Bool) : s.Keeps (s.changeTieEnable old) :=
  keeps_ite (fun _ => s.enterOff_keeps) fun _ => keeps_when fun _ => s.enterDown_keeps

theorem changePreference_keeps (s : State) (old : Preference) : s.Keeps (s.changePreference old) := by
  refine keeps_ite (fun _ => s.keeps_refl) fun _ => ?_
  split
  · exact s.beginResolving_keeps.trans (transmit_keeps _)
  · exact s.beginResolving_keeps.trans (transmit_keeps _)
  · exact s.beginResolving_keeps.trans (transmit_keeps _)
  · exact s.keeps_refl

theorem changeMode_keeps (s : State) (old : AttentionMode) : s.Keeps (s.changeMode old) := s.keeps_notices id

theorem applySetting_keeps (s : State) (i : SettingId) (x : Settings) : s.Keeps (s.applySetting i x) := by
  have hset : s.Keeps { s with settings := x } := keeps_of_frame
  unfold applySetting
  dsimp only
  split
  · exact hset.trans (setLength_keeps _ _)
  · exact s.changeEnabled_keeps _ _
  · exact hset.trans (recordLows_keeps _)
  · exact hset.trans (changeTieEnable_keeps _ _)
  · exact hset.trans (changePreference_keeps _ _)
  · exact hset.trans (changeMode_keeps _ _)
  · exact keeps_ite (fun _ => hset) fun _ => hset.trans (reclaimTestRunning_keeps _)
  · exact hset

theorem persistSetting_keeps (s : State) (i : SettingId) (value : List Byte) : s.Keeps (s.persistSetting i value) :=
  s.writeImage_keeps _

theorem setSetting_keeps (s : State) (body : List Byte) : s.Keeps (s.setSetting body).after := by
  unfold setSetting
  dsimp only
  split
  · exact s.keeps_refl
  · next i _ =>
    repeat' split
    any_goals exact s.keeps_refl
    · exact (persistSetting_keeps _ i _).after (s.applySetting_keeps i _)
    · exact s.applySetting_keeps i _

theorem getSetting_keeps (s : State) (body : List Byte) : s.Keeps (s.getSetting body).after := by
  unfold getSetting
  split <;> exact s.keeps_refl

/-! ### The supervisor -/

/-- A state that begins anew, on memories in canonical form where they were. -/
theorem keeps_of_initial {s t : State} (hpend : t.pending = s.pending) (hq : t.queue = []) (hm : t.msg = ⟨[], none, false⟩) (hc : t.tie.closeList = [])
    (ho : t.tie.ownRole = none) (hr : t.tie.partnerRole = none) (hp : t.tie.lastPair = none)
    (hk : t.clock.ranged) (hl : t.lanes = Table.all Lane.initial) (hv : t.trackers = Table.all Tracker.initial)
    (hn : t.notices.counted) (hcur : t.archive.cursor = none) (hw : t.archive.writing = false)
    (he : t.archive.erase = none) (ha : ∀ a, (t.accounts.get a).wholesRanged)
    (hs : Memory.wf s.nv.segments = true → Memory.wf t.nv.segments = true) : s.Keeps t where
  pending := hpend
  queue _ := by simp [hq]
  places _ := by simp [hm, MessageLink.placesRanged]
  closeList _ := by simp [hc]
  clock _ := ⟨hk.1, hk.2.1, hk.2.2, by simp [hp]⟩
  lanes _ l := by simp [hl, Lane.initial, Lane.counted]
  trackers _ v := by simp [hv, Tracker.initial]
  notices _ := hn
  cursor _ := by simp [Archive.cursorRanged, hcur]
  quiet _ _ := ⟨hw, he⟩
  roles _ := ⟨by simp [ho], by simp [hr]⟩
  wholes _ := ha
  memory := hs

theorem loaded_keeps (s : State) : s.Keeps s.loaded :=
  keeps_of_initial rfl rfl rfl rfl rfl rfl rfl ⟨Nat.zero_le _, Nat.zero_le _, Nat.zero_le _⟩ rfl rfl
    Notices.initial_counted rfl rfl rfl (fun a => by simp [loaded, Account.initial_wholesRanged]) id

theorem powerOnStart_keeps (s : State) : s.Keeps s.powerOnStart :=
  (latchIf_keeps _ _ _).after ((recordLows_keeps _).after s.loaded_keeps)

theorem reset_counted : State.reset.notices.counted := by simp [State.reset, Notices.counted, Notices.initial]

theorem lose_keeps (s : State) (cut : WriteCut) : s.Keeps (s.lose cut) := by
  refine keeps_of_initial rfl rfl rfl rfl rfl rfl rfl ⟨Nat.zero_le _, Nat.zero_le _, Nat.zero_le _⟩ rfl rfl
    reset_counted rfl rfl rfl (fun a => ?_) fun h => ?_
  · simp [lose, State.reset, Account.initial_wholesRanged]
  · have hcut := (s.cutArchive_keeps cut.programmed cut.headerCut).memory h
    show Memory.wf ((s.cutArchive cut.programmed cut.headerCut).cutStore cut.betweenMarks).nv.segments = true
    obtain ⟨-, hc⟩ | ⟨i, -, hc⟩ | ⟨m, c, -, -, -, hc⟩ | ⟨m, c, -, -, hc⟩ :=
      (s.cutArchive cut.programmed cut.headerCut).cutStore_cases cut.betweenMarks <;> rw [hc] <;> exact hcut

theorem stoppedBy_keeps (s : State) (c : StopCause) : s.Keeps (s.stoppedBy c) := by
  cases c
  · unfold stoppedBy
    exact keeps_of_frame
  · unfold stoppedBy
    exact keeps_of_frame

theorem resetAssert_keeps (s : State) (cause : StopCause) (cut : WriteCut) : s.Keeps (resetAssert cause cut s) :=
  (stoppedBy_keeps _ _).after (keeps_ite (fun _ => s.keeps_refl) fun _ => s.lose_keeps cut)

theorem startUnlessStopped_keeps (s : State) : s.Keeps s.startUnlessStopped :=
  keeps_ite (fun _ => s.keeps_refl) fun _ => s.powerOnStart_keeps

theorem resetRelease_keeps (s : State) : s.Keeps s.resetRelease :=
  keeps_when fun _ => (startUnlessStopped_keeps _).after keeps_of_frame

theorem powerOn_keeps (s : State) : s.Keeps s.powerOn :=
  (startUnlessStopped_keeps _).after ((s.resetAssert_keeps .supply ⟨0, false, false⟩).trans keeps_of_frame)

theorem startIndex_le (s : State) : s.startIndex ≤ Config.max32 := by
  unfold startIndex
  split
  · exact Nat.zero_le _
  · exact Nat.min_le_left _ _

theorem foldl_maxPair_mem (ps : List (Nat × Nat)) (p : Nat × Nat) : ps.foldl maxPair p ∈ p :: ps := by
  induction ps generalizing p with
  | nil => exact List.mem_cons_self
  | cons q ps ih =>
    have hmem := ih (maxPair p q)
    have hpair : maxPair p q = p ∨ maxPair p q = q := by unfold maxPair; split <;> simp
    rw [List.foldl_cons]
    simp only [List.mem_cons] at hmem ⊢
    obtain h | h := hmem
    · obtain hp | hq := hpair
      · exact .inl (h.trans hp)
      · exact .inr (.inl (h.trans hq))
    · exact .inr (.inr h)

/-- The greatest pair is that of the latest record of an account (R156). -/
theorem greatestPair_mem {s : State} {p : Nat × Nat} (h : s.greatestPair = some p) :
    ∃ a bs, s.latestRecord a = some bs ∧ p = (recIndex bs, recPart bs) := by
  unfold greatestPair at h
  split at h
  · cases h
  · next q qs hq =>
    obtain rfl := Option.some.inj h
    have hmem := foldl_maxPair_mem qs q
    rw [← hq] at hmem
    simp only [List.mem_map, List.mem_filterMap, List.mem_finRange, true_and] at hmem
    obtain ⟨bs, ⟨a, ha⟩, hp⟩ := hmem
    exact ⟨a, bs, ha, hp.symm⟩

theorem handFindings_keeps (s : State) : s.Keeps s.handFindings := by
  unfold handFindings
  refine (s.keeps_accounts (x := s.foundAccounts) fun a h => ?_).trans (keeps_lastPair _ fun _ p hp => ?_)
  · unfold foundAccounts
    rw [Table.get_each]
    dsimp only
    split
    · exact Account.restore_wholesRanged _ _ h
    · exact h
  · obtain ⟨a, bs, -, rfl⟩ := greatestPair_mem hp
    exact ⟨Nat.le_of_lt_succ (field_lt bs 8 4), Nat.le_of_lt_succ (field_lt bs 12 1)⟩

theorem startInterval_keeps (s : State) : s.Keeps s.startInterval :=
  (s.keeps_accounts (x := s.startAccounts) fun a h => by
    unfold startAccounts
    rw [Table.get_each]
    exact h).trans (keeps_clock _ fun _ => ⟨Nat.zero_le _, Nat.zero_le _, s.startIndex_le⟩)

theorem rewriteDefaults_keeps (s : State) : s.Keeps s.rewriteDefaults := keeps_when fun _ => keeps_of_frame

theorem enterRunning_keeps (s : State) : s.Keeps s.enterRunning :=
  (rewriteDefaults_keeps _).after ((reclaimTest_keeps _).after ((startInterval_keeps _).after keeps_of_frame))

theorem scanEnd_keeps (s : State) (failed : List (Fin 256)) : s.Keeps (scanEnd failed s) := by
  have hfound := (s.endScan_keeps failed).trans (handFindings_keeps _)
  exact keeps_when fun _ => keeps_ite (fun _ => hfound) fun _ => hfound.trans (enterRunning_keeps _)

theorem suspendErase_keeps (s : State) : s.Keeps s.suspendErase := by
  refine (settleErase_keeps _).after ?_
  by_cases hs : (s.archive.state == .reclaiming) = true
  · simp only [onArchive, hs]
    exact s.keeps_archive (fun h => h) fun _ h => by cases h
  · simp only [onArchive, hs]
    exact s.keeps_refl

theorem openRestartPage_keeps (s : State) (p : Path) : s.Keeps (s.openRestartPage p) :=
  s.onTie_keeps Tie.keeps_of_frame

theorem enterClosing_keeps (s : State) (p : Path) : s.Keeps (s.enterClosing p) :=
  (suspendErase_keeps _).after ((partialClose_keeps _ _ _ _).after ((openRestartPage_keeps _ _).after keeps_of_frame))

theorem setWarning_keeps (s : State) (b : Bool) : s.Keeps (s.setWarning b) := by
  unfold setWarning
  exact keeps_of_frame

theorem powerFail_keeps (s : State) : s.Keeps s.powerFail := keeps_when fun _ => s.enterClosing_keeps _

theorem enterDormant_keeps (s : State) : s.Keeps s.enterDormant := keeps_when fun _ => keeps_of_frame

theorem returnRunning_keeps (s : State) : s.Keeps s.returnRunning :=
  (reclaimTest_keeps _).after ((resumeErase_keeps _).after keeps_of_frame)

theorem powerFailRelease_keeps (s : State) : s.Keeps s.powerFailRelease :=
  keeps_ite (fun _ => s.returnRunning_keeps) fun _ => keeps_when fun _ => s.enterRunning_keeps

theorem restartEnd_keeps (s : State) : s.Keeps s.restartEnd :=
  keeps_when fun _ => { s.powerOnStart_keeps with
    places := fun h => by dsimp only; split
                          · exact h
                          · exact Nat.zero_le _ }

/-! ### The message link -/

theorem owner_keeps (s : State) (k : Kind) (body : List Byte) : s.Keeps (s.owner k body).after := by
  cases k with
  | errorClear => exact s.errorClear_keeps
  | setSetting => exact s.setSetting_keeps body
  | getSetting => exact s.getSetting_keeps body
  | planOpen => exact s.planOpen_keeps body
  | planAdd => exact s.planAdd_keeps body
  | planConfirm => exact s.planConfirm_keeps body
  | planDrop => exact s.planDrop_keeps
  | planClear => exact s.planClear_keeps body
  | planGet =>
    simp only [owner, planGet]
    split <;> exact s.keeps_refl
  | limitLoad => exact s.limitLoad_keeps body
  | limitGet => exact s.limitGet_keeps body
  | accountRead => exact s.accountRead_keeps body
  | peakSwap => exact s.peakSwap_keeps body
  | archiveRead => exact s.archiveRead_keeps body
  | archiveMore => exact s.archiveMore_keeps
  | archiveCollected => exact s.archiveCollected_keeps body
  | pinAdd => exact s.pinAdd_keeps body
  | pinRemove => exact s.pinRemove_keeps body
  | archiveClear => exact s.archiveClear_keeps
  | align => exact s.align_keeps body
  | closeNow => exact s.closeNow_keeps
  | noticeTake => exact s.clearNotices_keeps
  | noticeRaise => exact s.latch_keeps _
  | ident | stateRequest | snapshot | tieStatus | restart => exact s.keeps_refl

theorem answer_keeps (s : State) (f : HostFrame) : s.Keeps (s.answer f).after := by
  unfold answer
  split
  · exact s.keeps_refl
  · next k _ =>
    obtain h | h | h | ⟨-, -, -, h⟩ := s.answerKind_cases k f.body <;> rw [h]
    · exact s.keeps_refl
    · exact s.keeps_refl
    · exact s.keeps_refl
    · exact s.owner_keeps k f.body

theorem setReply_keeps (s : State) (r : Option Reply) : s.Keeps (s.setReply r) := s.keeps_msg fun h => h

theorem dispatch_keeps (s : State) : s.Keeps s.dispatch := by
  unfold dispatch
  split
  · exact (setReply_keeps _ _).after (s.answer_keeps _)
  · exact s.keeps_refl

theorem frameArrives_keeps (s : State) (f : HostFrame) : s.Keeps (s.frameArrives f) := by
  refine keeps_ite (fun h => (dispatch_keeps _).after (s.keeps_msg fun _ => ?_)) fun _ => s.countOverrun_keeps
  simp only [MessageLink.placesRanged, List.length_append, List.length_singleton]
  omega

theorem goodFrame_keeps (s : State) (f : HostFrame) : s.Keeps (s.goodFrame f) :=
  keeps_ite (fun _ => s.countDiscarded_keeps) fun _ => s.frameArrives_keeps f

theorem frameComplete_keeps (s : State) (bytes : List Byte) : s.Keeps (frameComplete bytes s) :=
  keeps_ite (fun _ => s.keeps_refl) fun _ =>
    keeps_ite (fun _ => s.goodFrame_keeps _) fun _ => s.countDiscarded_keeps

theorem frameOverlength_keeps (s : State) (bytes : List Byte) : s.Keeps (frameOverlength bytes s) :=
  keeps_when fun _ => s.countDiscarded_keeps

theorem frameGap_keeps (s : State) (bytes : List Byte) : s.Keeps (frameGap bytes s) :=
  keeps_when fun _ => s.countDiscarded_keeps

theorem freePlace_keeps (s : State) : s.Keeps s.freePlace := s.keeps_msg fun h => by
  simp only [MessageLink.placesRanged] at *
  split
  · exact Nat.zero_le _
  · rw [List.length_drop]
    omega

theorem replySent_keeps (s : State) : s.Keeps s.replySent := by
  unfold replySent
  split
  · exact s.keeps_refl
  · exact (dispatch_keeps _).after ((freePlace_keeps _).after (keeps_when fun _ => s.enterClosing_keeps _))

theorem pulseEnd_keeps (s : State) : s.Keeps s.pulseEnd := s.keeps_notices id

/-! ### Every command -/

/-- A request as a command (log 6). -/
theorem request_keeps (s : State) (k : Kind) (tag : Byte) (body : List Byte) :
    s.Keeps (s.whenAlive fun u => u.request k tag body) :=
  keeps_whenAlive (s.frameArrives_keeps _)

end State

/-- Each invariant of the part is kept by every command. -/
theorem exec_keeps (c : Instr) (s : State) : ∃ t, exec c s = .next t ∧ s.Keeps t := by
  cases c with
  | powerOn => exact ⟨_, rfl, s.powerOn_keeps⟩
  | resetAssert cause cut => exact ⟨_, rfl, s.resetAssert_keeps cause cut⟩
  | resetRelease => exact ⟨_, rfl, s.resetRelease_keeps⟩
  | scanEnd failed => exact ⟨_, rfl, State.keeps_whenAlive (s.scanEnd_keeps failed)⟩
  | laneFrameComplete lane bytes => exact ⟨_, rfl, State.keeps_whenAlive (s.laneFrame_keeps lane bytes)⟩
  | laneFrameTimeout lane => exact ⟨_, rfl, State.keeps_whenAlive (s.laneTimeout_keeps lane)⟩
  | rawSampleInstant => exact ⟨_, rfl, State.keeps_whenAlive s.rawSample_keeps⟩
  | laneEnterDown lane => exact ⟨_, rfl, State.keeps_whenAlive (s.laneDown_keeps lane)⟩
  | laneEnterUp lane => exact ⟨_, rfl, State.keeps_whenAlive (s.laneUp_keeps lane)⟩
  | cycleAbandon v => exact ⟨_, rfl, State.keeps_whenAlive (s.abandonCycle_keeps v)⟩
  | presenceRunEnd v => exact ⟨_, rfl, State.keeps_whenAlive (s.endPresenceRun_keeps v)⟩
  | trackerEnterFreeRun v => exact ⟨_, rfl, State.keeps_whenAlive (s.enterFreeRun_keeps v)⟩
  | windowComplete t => exact ⟨_, rfl, State.keeps_whenAlive (s.windowComplete_keeps t)⟩
  | switchSample levels => exact ⟨_, rfl, State.keeps_whenAlive (s.switchSample_keeps levels)⟩
  | debounceComplete i => exact ⟨_, rfl, State.keeps_whenAlive (s.debounce_keeps i)⟩
  | firstSwitchWord => exact ⟨_, rfl, State.keeps_whenAlive s.firstWord_keeps⟩
  | clockMadeClose => exact ⟨_, rfl, State.keeps_whenAlive s.clockMade_keeps⟩
  | syncPulse => exact ⟨_, rfl, State.keeps_whenAlive s.syncPulse_keeps⟩
  | lateAllowanceExpire => exact ⟨_, rfl, State.keeps_whenAlive s.lateExpire_keeps⟩
  | writerTakeRecord ok => exact ⟨_, rfl, State.keeps_whenAlive (s.writerTake_keeps ok)⟩
  | recordWriteComplete bad ok => exact ⟨_, rfl, State.keeps_whenAlive (s.writeComplete_keeps bad ok)⟩
  | eraseComplete blank ok => exact ⟨_, rfl, State.keeps_whenAlive (s.eraseComplete_keeps blank ok)⟩
  | tiePageArrive bytes => exact ⟨_, rfl, State.keeps_whenAlive (s.pageArrive_keeps bytes)⟩
  | tiePageOverlength bytes => exact ⟨_, rfl, State.keeps_whenAlive (s.pageOverlength_keeps bytes)⟩
  | tieByteGapTimeout bytes => exact ⟨_, rfl, State.keeps_whenAlive (s.pageGap_keeps bytes)⟩
  | tieResendTimer => exact ⟨_, rfl, State.keeps_whenAlive s.resendTimer_keeps⟩
  | idlePageSend => exact ⟨_, rfl, State.keeps_whenAlive s.idlePage_keeps⟩
  | silenceTimeout => exact ⟨_, rfl, State.keeps_whenAlive s.silence_keeps⟩
  | roleAttemptTimeout => exact ⟨_, rfl, State.keeps_whenAlive s.attemptTimeout_keeps⟩
  | hostFrameComplete bytes => exact ⟨_, rfl, State.keeps_whenAlive (s.frameComplete_keeps bytes)⟩
  | hostFrameOverlength bytes => exact ⟨_, rfl, State.keeps_whenAlive (s.frameOverlength_keeps bytes)⟩
  | hostByteGapTimeout bytes => exact ⟨_, rfl, State.keeps_whenAlive (s.frameGap_keeps bytes)⟩
  | replySent => exact ⟨_, rfl, State.keeps_whenAlive s.replySent_keeps⟩
  | unknownKind kind tag body => exact ⟨_, rfl, State.keeps_whenAlive (s.goodFrame_keeps ⟨kind, tag, body⟩)⟩
  | attentionPulseEnd => exact ⟨_, rfl, State.keeps_whenAlive s.pulseEnd_keeps⟩
  | storeWriteComplete => exact ⟨_, rfl, State.keeps_whenAlive s.storeComplete_keeps⟩
  | powerFailAssert =>
    exact ⟨_, rfl, (State.keeps_whenAlive (State.powerFail_keeps _)).after (s.setWarning_keeps true)⟩
  | enterDormant => exact ⟨_, rfl, State.keeps_whenAlive s.enterDormant_keeps⟩
  | powerFailRelease =>
    exact ⟨_, rfl, (State.keeps_whenAlive (State.powerFailRelease_keeps _)).after (s.setWarning_keeps false)⟩
  | restartPathEnd => exact ⟨_, rfl, State.keeps_whenAlive s.restartEnd_keeps⟩
  | snapshot tag body | planOpen tag body | planAdd tag body | planConfirm tag body | planDrop tag body
  | planClear tag body | planGet tag body | accountRead tag body | limitLoad tag body | limitGet tag body
  | peakSwap tag body | align tag body | closeNow tag body | errorClear tag body | archiveCollected tag body
  | pinAdd tag body | pinRemove tag body | archiveClear tag body | archiveRead tag body | archiveMore tag body
  | tieStatus tag body | ident tag body | stateRequest tag body | noticeTake tag body | noticeRaise tag body
  | setSetting tag body | getSetting tag body | restart tag body => exact ⟨_, rfl, s.request_keeps _ tag body⟩

/-- A step keeps each invariant of the state without the command it takes, which is no part of any. -/
theorem step_keeps {s t : State} (h : step s = .next t) : ∃ rest, ({ s with pending := rest } : State).Keeps t := by
  unfold step at h
  split at h
  · cases h
    exact ⟨s.pending, s.keeps_refl⟩
  · next c rest _ =>
    obtain ⟨u, hu, hkeeps⟩ := exec_keeps c { s with pending := rest }
    cases hu.symm.trans h
    exact ⟨rest, hkeeps⟩

/-- Settles O1: the first two parts are the cases of `step`; that the queue stays is kept as the invariants are. -/
theorem stepRunsFront : Obligations.StepRunsFront := by
  refine ⟨fun _ _ _ => rfl, fun s h => ?_, fun c s t h => ?_⟩
  · rw [step, h]
  · obtain ⟨u, hu, hkeeps⟩ := exec_keeps c s
    cases hu.symm.trans h
    exact hkeeps.pending

/-- Settles O58: the canonical form of the memory is one of the invariants that every step keeps. -/
theorem memoryFormIsKept : Obligations.MemoryFormIsKept := fun _ _ hwf h =>
  have ⟨_, k⟩ := step_keeps h
  k.memory hwf

/-- Settles O59: each range is one of the invariants that every step keeps. -/
theorem rangesAreKept : Obligations.RangesAreKept := fun _ _ h =>
  have ⟨_, k⟩ := step_keeps h
  ⟨fun ⟨hq, hp, hc⟩ => ⟨k.queue hq, k.places hp, k.closeList hc⟩, k.clock,
    fun ⟨hl, hv⟩ => ⟨k.lanes hl, k.trackers hv⟩, k.notices, k.cursor, k.quiet, k.roles, k.wholes⟩

/-- Settles O60: right after reset every list is empty, every count is 0 and every segment ERASED. -/
theorem resetHasInvariants : Obligations.ResetHasInvariants := by
  have hacc (a : Fin 16) : (State.reset.accounts.get a).wholesRanged := by
    simp [State.reset, Account.initial_wholesRanged]
  have hlanes (l : Fin 4) : (State.reset.lanes.get l).counted := by simp [State.reset, Lane.initial, Lane.counted]
  have htrackers (v : Fin 2) : (State.reset.trackers.get v).holdover ≤ 25 := by simp [State.reset, Tracker.initial]
  refine ⟨State.wf_reset, ⟨Nat.zero_le _, Nat.zero_le _, Nat.zero_le _⟩,
    ⟨Nat.zero_le _, Nat.zero_le _, Nat.zero_le _, ?_⟩, ⟨hlanes, htrackers⟩, State.reset_counted, ?_,
    fun _ => ⟨rfl, rfl⟩, ⟨?_, ?_⟩, hacc⟩
  all_goals rintro x ⟨⟩

end Sys2Proof.Machine
end

section
/-! PROOFS. The power-on start (O2): the state it leaves is the loaded one with the notices of a start. -/

/- The whole text is compiled as one file: these proofs are elaborated one after another, to stay within its memory. -/
set_option Elab.async false

namespace Sys2Proof.Machine

/-- The latched-low conditions recorded are the four present conditions, in their order (10.3). -/
theorem bits4_getLsbD (a b c d : Bool) :
    (BitVec.ofNat 4 (bitsOf [a, b, c, d])).getLsbD 0 = a ∧ (BitVec.ofNat 4 (bitsOf [a, b, c, d])).getLsbD 1 = b ∧
      (BitVec.ofNat 4 (bitsOf [a, b, c, d])).getLsbD 2 = c ∧ (BitVec.ofNat 4 (bitsOf [a, b, c, d])).getLsbD 3 = d := by
  revert a b c d
  decide

namespace State

theorem presentBad_getLsbD (s : State) :
    s.presentBad.getLsbD 0 = s.trackBad 0 ∧ s.presentBad.getLsbD 1 = s.trackBad 1 ∧
      s.presentBad.getLsbD 2 = s.lanesBad ∧ s.presentBad.getLsbD 3 = s.linkBad := bits4_getLsbD _ _ _ _

/-- The notices of a start (R178, R182). -/
def startNotices (s : State) : Notices :=
  { Notices.initial with
    latched := if s.nv.image.isNone then 0x08000#18 else 0#18
    lows := s.loaded.presentBad }

/-- SETTINGS_DEFAULTED calls for no pulse: the attention mode of the defaults is LEVEL (R177, R182). -/
theorem powerOnStart_eq (s : State) : s.powerOnStart = { s.loaded with notices := s.startNotices } := by
  unfold powerOnStart startNotices
  cases hi : s.nv.image with
  | some i => simp [latchIf, recordLows, loaded, Notices.initial]
  | none =>
    simp [latchIf, latch, recordLows, loaded, Notices.initial, Notices.add, callsPulse, storedImage, hi,
      Image.default, Settings.default, Notice.bit, oneBit]

/-! ### The loaded state -/

theorem loaded_trackBad (s : State) (v : Fin 2) : s.loaded.trackBad v = true := by
  simp [trackBad, loaded, State.reset, Tracker.initial, TrackerState.trackBad]

theorem loaded_lanesBad (s : State) : s.loaded.lanesBad = true ↔ ∃ l, s.loaded.laneUsed l = true := by
  have hdown (l : Fin 4) : (s.loaded.lanes.get l).up = false := by simp [loaded, State.reset, Lane.initial]
  simp [lanesBad, hdown]

theorem loaded_linkBad (s : State) : s.loaded.linkBad = s.loaded.settings.tieEnable := by
  simp only [linkBad, loaded, Tie.initial]
  cases s.storedImage.settings.tieEnable <;> rfl

theorem loaded_trackedFreq (s : State) (v : Fin 2) :
    s.loaded.trackedFreq v = s.loaded.settings.nominalHz * 1000 := by
  simp [trackedFreq, loaded, State.reset, Tracker.initial, nominal]

theorem loaded_account (s : State) (a : Fin 16) :
    s.loaded.accounts.get a = Account.initial (s.storedImage.limits.get a) (s.storedImage.settings.orderMask.get a) := by
  simp [loaded]

theorem loaded_word (s : State) : s.loaded.selector.word = none := by
  simp [Selector.word, loaded, Selector.initial]

theorem loaded_slot (s : State) (p : Fin 8) :
    s.loaded.selector.slots.get p = (s.storedImage.plans.get p).map fun c => ⟨c, true⟩ := by
  simp [loaded, Image.slots]

/-- The image that a start loads, valid or defaulted (R182). -/
theorem storedImage_some {s : State} {i : Image} (h : s.nv.image = some i) : s.storedImage = i := by
  simp [storedImage, h]

theorem storedImage_none {s : State} (h : s.nv.image = none) : s.storedImage = Image.default := by
  simp [storedImage, h]

/-- A release of the line with supply present, and supply applied with the line released, begin the start (R183, R186). -/
theorem exec_starts {s : State} {c : Instr}
    (h : c = .resetRelease ∧ s.resetLine = true ∧ s.unpowered = false ∨
      c = .powerOn ∧ s.resetLine = false ∧ s.unpowered = true) :
    exec c s = .next ({ s with resetLine := false, unpowered := false } : State).powerOnStart := by
  obtain ⟨rfl, hl, hu⟩ | ⟨rfl, hl, hu⟩ := h
  · simp [exec, execResetRelease, resetRelease, startUnlessStopped, stopped, hl, hu]
  · simp [exec, execPowerOn, powerOn, resetAssert, stoppedBy, startUnlessStopped, stopped, hl, hu]

end State

/-- Settles O2: the start leaves the loaded state with the notices of a start, whose values are read off. -/
theorem powerOnStart : Obligations.PowerOnStart := by
  intro s c h
  refine ⟨_, State.exec_starts h, ?_⟩
  generalize hu : ({ s with resetLine := false, unpowered := false } : State) = u
  have hnv : u.nv = s.nv := hu ▸ rfl
  have hwarning : u.warning = s.warning := hu ▸ rfl
  have hpending : u.pending = s.pending := hu ▸ rfl
  obtain ⟨hlow0, hlow1, hlow2, hlow3⟩ := u.loaded.presentBad_getLsbD
  rw [State.powerOnStart_eq, ← hnv, ← hwarning, ← hpending]
  refine ⟨rfl, rfl, rfl, rfl, rfl, rfl, rfl, fun i hi => ?_, fun hi => ?_, rfl, rfl,
    hlow0.trans (u.loaded_trackBad 0), hlow1.trans (u.loaded_trackBad 1), ?_, hlow3.trans u.loaded_linkBad,
    rfl, rfl, rfl, rfl, rfl, rfl, rfl, rfl, rfl, rfl, rfl, rfl, rfl,
    fun l => Table.get_all _ l, fun c => Table.get_all _ c, fun v => ?_, fun v => Table.get_all _ v, fun i => ?_,
    u.loaded_word, rfl, rfl, rfl, rfl, rfl, rfl, fun a => ?_, rfl, rfl, rfl, rfl, rfl, rfl, rfl, rfl, rfl, rfl, rfl,
    rfl, rfl, rfl, rfl, rfl, rfl, rfl, rfl, rfl, rfl, rfl⟩
  · obtain rfl := State.storedImage_some hi
    exact ⟨rfl, rfl, fun a => congrArg Account.limits (u.loaded_account a), u.loaded_slot⟩
  · have hdefault := State.storedImage_none hi
    refine ⟨congrArg Image.settings hdefault, congrArg Image.pins hdefault, fun a => ?_, Table.ext_get fun p => ?_⟩
    · refine (congrArg Account.limits (u.loaded_account a)).trans ?_
      simp [hdefault, Image.default, Account.initial]
    · refine (u.loaded_slot p).trans ?_
      simp [hdefault, Image.default]
  · exact (iff_of_eq (congrArg (· = true) hlow2)).trans u.loaded_lanesBad
  · have hv : u.loaded.trackers.get v = Tracker.initial := Table.get_all _ v
    refine ⟨?_, ?_, ?_, ?_, ?_, ?_, ?_, u.loaded_trackedFreq v⟩ <;> exact hv ▸ rfl
  · have hi : u.loaded.selector.inputs.get i = ⟨none, none, none⟩ := Table.get_all _ i
    exact ⟨hi ▸ rfl, hi ▸ rfl⟩
  · have ha := u.loaded_account a
    dsimp only
    rw [ha]
    exact ⟨rfl, rfl, rfl, rfl, rfl, rfl, rfl, rfl, rfl, rfl, rfl, rfl⟩

end Sys2Proof.Machine
end

section
/-! PROOFS. A stop loses every volatile value and tears the writes under way (O3): what it leaves of the memories is said
for each of the writes it cuts. -/

/- The whole text is compiled as one file: these proofs are elaborated one after another, to stay within its memory. -/
set_option Elab.async false

namespace Sys2Proof.Machine
namespace State

/-! ### Bytes programmed -/

theorem seg_putSeg (s : State) (g h : Fin 256) (x : Segment) :
    (s.putSeg g x).nv.segments.get h = if g = h then x else s.nv.segments.get h := Table.get_put _ _ _ _

/-- Bytes programmed at the write position, behind which the head is erased and in which they find room (R113, R117). -/
theorem program_programmed (s : State) (h : Fin 256) (bs : List Byte) (hpos : 16 ≤ s.archive.writePos)
    (harea : (s.nv.segments.get h).area.length ≤ s.archive.writePos - 16)
    (hfit : s.archive.writePos + bs.length ≤ 32768) :
    (s.nv.segments.get h).programmed ((s.program h bs).nv.segments.get h) s.archive.writePos bs := by
  have hseg : (s.program h bs).nv.segments.get h =
      { s.nv.segments.get h with
        area := programArea (s.nv.segments.get h).area (s.archive.writePos - 16) bs } := by
    rw [program, seg_putSeg, if_pos rfl]
    rfl
  rw [hseg]
  refine ⟨rfl, fun off hoff => ?_⟩
  have hread := programArea_getD (s.nv.segments.get h).area (s.archive.writePos - 16) (off - 16) bs harea
    (by unfold Config.areaBytes; omega)
  have hlt : off - 16 < s.archive.writePos - 16 ↔ off < s.archive.writePos := by omega
  have hsub : off - 16 - (s.archive.writePos - 16) = off - s.archive.writePos := by omega
  simpa only [Segment.readByte, hlt, hsub] using hread

theorem program_marker (s : State) (h : Fin 256) (bs : List Byte) :
    ((s.program h bs).nv.segments.get h).marker = (s.nv.segments.get h).marker := by
  rw [program, seg_putSeg, if_pos rfl]
  rfl

theorem program_kept (s : State) (h : Fin 256) (bs : List Byte) : s.segmentsKept (s.program h bs) h := fun g hg => by
  rw [program, seg_putSeg, if_neg hg.symm]

theorem mark_seg (s : State) (h : Fin 256) (m : Marker) :
    (s.mark h m).nv.segments.get h = { s.nv.segments.get h with marker := m } := by
  rw [mark, seg_putSeg, if_pos rfl]
  rfl

theorem mark_kept (s : State) (h : Fin 256) (m : Marker) : s.segmentsKept (s.mark h m) h := fun g hg => by
  rw [mark, seg_putSeg, if_neg hg.symm]

/-! ### Writes cut off -/

/-- A store write cut off touches no segment (R181). -/
theorem cutStore_segments (s : State) (between : Bool) : (s.cutStore between).nv.segments = s.nv.segments := by
  obtain ⟨-, h⟩ | ⟨i, -, h⟩ | ⟨m, c, -, -, -, h⟩ | ⟨m, c, -, -, h⟩ := s.cutStore_cases between <;> rw [h]

/-- What a stop leaves of the stored image (R181). -/
theorem cutStore_image (s : State) (between : Bool) : (s.cutStore between).nv.image =
    (match s.store with | some (.image _) => none | _ => s.nv.image) := by
  obtain ⟨hs, h⟩ | ⟨i, hs, h⟩ | ⟨m, c, hs, -, -, h⟩ | ⟨m, c, hs, -, h⟩ := s.cutStore_cases between <;> rw [h, hs]

/-- What a stop leaves of the two mark copies (R131, R181). -/
theorem cutStore_marks (s : State) (between : Bool) : (s.cutStore between).nv.marks =
    (match s.store with
      | some (.mark _ c) => if between = true ∧ s.archive.clear = .marking 1 then s.nv.marks else s.nv.marks.put c none
      | _ => s.nv.marks) := by
  obtain ⟨hs, h⟩ | ⟨i, hs, h⟩ | ⟨m, c, hs, hb, hc, h⟩ | ⟨m, c, hs, hb, h⟩ := s.cutStore_cases between <;> rw [h, hs]
  · exact (if_pos ⟨hb, hc⟩).symm
  · have hn : ¬ (between = true ∧ s.archive.clear = .marking 1) := by
      rintro ⟨rfl, hc⟩
      exact hb.elim Bool.noConfusion (absurd hc)
    exact (if_neg hn).symm

/-- The segment under erase is unclean after a stop, and nothing else of the cut archive changes (R135 (2)). -/
def markErase (s : State) : State := match s.archive.erase with | some g => s.mark g .broken | none => s

theorem markErase_eq (s : State) : s.markErase = { s with nv := s.markErase.nv } := by
  unfold markErase
  split <;> rfl

theorem markErase_memories (s : State) : s.markErase.nv.image = s.nv.image ∧ s.markErase.nv.marks = s.nv.marks := by
  unfold markErase
  split <;> exact ⟨rfl, rfl⟩

theorem markErase_erased (s : State) (g : Fin 256) (h : s.archive.erase = some g) :
    (s.markErase.nv.segments.get g).marker = .broken := by
  simp only [markErase, h, mark_seg]

theorem markErase_kept (s : State) (g : Fin 256) (h : s.archive.erase ≠ some g) :
    s.markErase.nv.segments.get g = s.nv.segments.get g := by
  unfold markErase
  split
  · next k hk => exact s.mark_kept k .broken g fun hgk => h (hgk ▸ hk)
  · rfl

/-- With no record write in progress a stop cuts the erase alone. -/
theorem cutArchive_idle (s : State) (k : Nat) (cut : Bool) (h : s.archive.writing = false) :
    s.cutArchive k cut = s.markErase := by
  unfold cutArchive markErase
  cases s.oldest <;> cases s.openHead <;> simp [h] <;> rfl

/-- The head stands OPEN where the writer writes (R113). -/
theorem headOpen_openHead {s : State} {h : Fin 256} {r : Record} {rest : List Record} (ho : s.headOpen h r rest) :
    s.openHead = some h ∧ s.oldest = some r.bytes := by
  obtain ⟨hhead, hmarker, hqueue, -⟩ := ho
  constructor
  · simp [openHead, hhead, seg, hmarker]
  · simp [oldest, hqueue]

/-- The header of the segment just opened is cut off (R135 (3)). -/
theorem cutArchive_header {s : State} {h : Fin 256} {r : Record} {rest : List Record} (ho : s.headOpen h r rest) (k : Nat)
    (hw : s.archive.writing = true) (harea : (s.nv.segments.get h).area = []) :
    s.cutArchive k true = (s.mark h .broken).markErase := by
  obtain ⟨hhead, hold⟩ := headOpen_openHead ho
  simp only [cutArchive, markErase, hhead, hold, hw, seg, harea, List.isEmpty_nil, Bool.and_self, Bool.not_true,
    if_true, mark_archive, Bool.false_eq_true, if_false] <;> rfl

/-- A record write is cut off behind its first bytes (R135 (1)). -/
theorem cutArchive_record {s : State} {h : Fin 256} {r : Record} {rest : List Record} (ho : s.headOpen h r rest) (k : Nat)
    {cut : Bool} (hw : s.archive.writing = true) (hcut : cut = false ∨ (s.nv.segments.get h).area ≠ []) :
    s.cutArchive k cut = (s.program h (r.bytes.take k)).markErase := by
  obtain ⟨hhead, hold⟩ := headOpen_openHead ho
  have hc : (cut && (s.nv.segments.get h).area.isEmpty) = false := by
    obtain rfl | hne := hcut
    · rfl
    · simp [hne]
  simp only [cutArchive, markErase, hhead, hold, hw, seg, hc, Bool.not_true, program_archive, Bool.false_eq_true, if_false] <;>
    rfl

/-! ### The stop -/

/-- The part stopped for a cause, on the memories that the stop leaves (R186). -/
def stoppedOn (s : State) (x : StopCause) (nv : NonVolatile) : State :=
  { State.reset with
    pending := s.pending, warning := s.warning, draws := s.draws, nv := nv
    resetLine := decide (x = .line), unpowered := decide (x = .supply) }

theorem resetAssert_alive (s : State) (x : StopCause) (cut : WriteCut) (h : s.stopped = false) :
    resetAssert x cut s =
      s.stoppedOn x ((s.cutArchive cut.programmed cut.headerCut).cutStore cut.betweenMarks).nv := by
  have hlevels : s.resetLine = false ∧ s.unpowered = false := by simpa [stopped] using h
  cases x <;> simp [resetAssert, h, lose, stoppedBy, stoppedOn, hlevels.1, hlevels.2]

theorem resetAssert_stopped_eq (s : State) (x : StopCause) (cut : WriteCut) (h : s.stopped = true) :
    resetAssert x cut s = s.stoppedBy x := by
  simp [resetAssert, h]

/-- Supply lost again, nothing more is lost (R186). -/
theorem resetAssert_supply_again (s : State) (cut cut' : WriteCut) :
    resetAssert .supply cut' (resetAssert .supply cut s) = resetAssert .supply cut s := by
  rw [resetAssert_stopped_eq _ .supply cut' (s.resetAssert_stopped .supply cut)]
  rfl

/-- The mark that a start takes from two valid copies, one of them 0 (R127). -/
theorem mark_of_zero {nv : NonVolatile} {c : Fin 2} {m : Nat} (h : nv.marks.get c = some m)
    (h0 : nv.marks.get (1 - c) = some 0) : nv.mark = m := by
  match c with
  | 0 =>
    have h1 : nv.marks.get 1 = some 0 := h0
    simp [NonVolatile.mark, h, h1]
  | 1 =>
    have h1 : nv.marks.get 0 = some 0 := h0
    simp [NonVolatile.mark, h, h1]

theorem powerOnStart_mark (s : State) : s.powerOnStart.archive.mark = s.nv.mark := by
  rw [powerOnStart_eq]
  rfl

/-- A stopped part takes no other event than the line, supply and the pin (R186). -/
theorem exec_stopped (s : State) (c : Instr) (h : s.stopped = true) (hp : c ≠ .powerOn) (hr : c ≠ .resetRelease)
    (ha : ∀ x cut, c ≠ .resetAssert x cut) (hf : c ≠ .powerFailAssert) (hl : c ≠ .powerFailRelease) :
    exec c s = .next s := by
  cases c
  case powerOn => exact absurd rfl hp
  case resetRelease => exact absurd rfl hr
  case resetAssert x cut => exact absurd rfl (ha x cut)
  case powerFailAssert => exact absurd rfl hf
  case powerFailRelease => exact absurd rfl hl
  all_goals exact congrArg Host.Outcome.next (s.whenAlive_stopped _ h)

/-- The memories of a stop with no record write in progress (R135, R181). -/
theorem stop_idle (s : State) (x : StopCause) (k : Nat) (cut between : Bool) (h : s.stopped = false)
    (hw : s.archive.writing = false) :
    exec (.resetAssert x ⟨k, cut, between⟩) s = .next (s.stoppedOn x (s.markErase.cutStore between).nv) := by
  rw [← s.cutArchive_idle k cut hw]
  exact congrArg Host.Outcome.next (s.resetAssert_alive x ⟨k, cut, between⟩ h)

/-- The memories of a stop in a record write (R135 (1), (3)). -/
theorem stop_writing (s : State) (x : StopCause) (k : Nat) (cut between : Bool) (h : s.stopped = false) {u : State}
    (hu : s.cutArchive k cut = u.markErase) :
    exec (.resetAssert x ⟨k, cut, between⟩) s = .next (s.stoppedOn x (u.markErase.cutStore between).nv) := by
  rw [← hu]
  exact congrArg Host.Outcome.next (s.resetAssert_alive x ⟨k, cut, between⟩ h)

end State

/-- Settles O3: the stop by what it cuts, then the part stopped, on which every other command is lost. -/
theorem resetAssertStops : Obligations.ResetAssertStops := by
  refine ⟨fun s x k cut between halive hw => ?_, fun s x k cut between h r rest halive hw ho he => ?_,
    fun c s hstop => ⟨?_, s.exec_stopped c hstop, fun cut => ⟨?_, ?_⟩, fun hu => ?_, fun hl => ?_, ?_, ?_⟩⟩
  · have hkept : s.markErase = { s with nv := s.markErase.nv } := s.markErase_eq
    have hstore : s.markErase.store = s.store := by rw [hkept]
    have hclear : s.markErase.archive = s.archive := by rw [hkept]
    obtain ⟨himage, hmarks⟩ := s.markErase_memories
    refine ⟨_, s.stop_idle x k cut between halive hw, rfl, ?_, ?_, fun g hg => ?_, fun g hg => ?_, ?_, ?_⟩
    · refine (s.markErase.cutStore_image between).trans ?_
      simp only [hstore, himage] <;> rfl
    · refine (s.markErase.cutStore_marks between).trans ?_
      simp only [hstore, hmarks, hclear] <;> rfl
    · exact (congrArg (fun y => (Table.get y g).marker) (s.markErase.cutStore_segments between)).trans
        (s.markErase_erased g hg)
    · exact (congrArg (fun y => Table.get y g) (s.markErase.cutStore_segments between)).trans (s.markErase_kept g hg)
    · rintro c m rfl rfl hm hs hc hz
      refine ⟨_, State.exec_starts (.inl ⟨rfl, rfl, rfl⟩), ?_⟩
      have hm' : (s.markErase.cutStore true).nv.marks = s.nv.marks := by
        rw [State.cutStore_marks, hstore, hs, hclear, hmarks]
        exact if_pos ⟨rfl, hm⟩
      rw [State.powerOnStart_mark]
      exact State.mark_of_zero (c := c) (by simpa [State.stoppedOn, hm'] using hc)
        (by simpa [State.stoppedOn, hm'] using hz)
    · refine ⟨_, _, rfl, rfl, ?_⟩
      refine congrArg Host.Outcome.next ?_
      rw [State.powerOn, State.powerOn, State.resetAssert_supply_again]
  · have hseg {u : State} (hu : s.cutArchive k cut = u.markErase) : ∃ t : State,
        exec (.resetAssert x ⟨k, cut, between⟩) s = .next t ∧ t.stopped = true ∧ t.queue = [] ∧
          t.archive.cursor = none ∧ t.archive.error = .none ∧ t.nv.segments = u.markErase.nv.segments :=
      ⟨_, s.stop_writing x k cut between halive hu, by cases x <;> rfl, rfl, rfl, rfl,
        u.markErase.cutStore_segments between⟩
    by_cases hcut : cut = true ∧ (s.nv.segments.get h).area = []
    · obtain ⟨rfl, harea⟩ := hcut
      obtain ⟨t, ht, hstop, hqueue, hcursor, herror, hsegs⟩ := hseg (State.cutArchive_header ho k hw harea)
      have hmarked := (s.mark h .broken).markErase_kept h (by simpa using he)
      refine ⟨t, ht, fun g hg hge => ?_, fun _ _ => ?_, fun hn => ?_, hstop, hqueue, hcursor, herror⟩
      · rw [hsegs, State.markErase_kept _ g (by simpa using hge)]
        exact s.mark_kept h .broken g hg
      · rw [hsegs, hmarked, State.mark_seg]
      · exact hn.elim (absurd · (by decide)) (absurd harea)
    · have hn : cut = false ∨ (s.nv.segments.get h).area ≠ [] := by
        cases cut
        · exact .inl rfl
        · exact .inr fun harea => hcut ⟨rfl, harea⟩
      obtain ⟨t, ht, hstop, hqueue, hcursor, herror, hsegs⟩ := hseg (State.cutArchive_record ho k hw hn)
      have hwritten := (s.program h (r.bytes.take k)).markErase_kept h (by simpa using he)
      obtain ⟨-, hmarker, -, hpos, harea, hfit⟩ := ho
      refine ⟨t, ht, fun g hg hge => ?_, fun hc ha => absurd ⟨hc, ha⟩ hcut, fun _ => ⟨?_, ?_⟩, hstop, hqueue,
        hcursor, herror⟩
      · rw [hsegs, State.markErase_kept _ g (by simpa using hge)]
        exact s.program_kept h _ g hg
      · rw [hsegs, hwritten, State.program_marker, hmarker]
      · rw [hsegs, hwritten]
        refine s.program_programmed h _ hpos harea ?_
        have := List.length_take_le' k r.bytes
        omega
  · simp [State.attentionLine, hstop]
  · exact congrArg Host.Outcome.next (s.resetAssert_stopped_eq .line cut hstop)
  · exact congrArg Host.Outcome.next (s.resetAssert_stopped_eq .supply cut hstop)
  · refine congrArg Host.Outcome.next ?_
    cases hl : s.resetLine
    · cases s
      cases hl
      rfl
    · simp [State.resetRelease, State.startUnlessStopped, State.stopped, hl, hu]
  · refine congrArg Host.Outcome.next ?_
    simp [State.powerOn, s.resetAssert_stopped_eq .supply _ hstop, State.stoppedBy, State.startUnlessStopped,
      State.stopped, hl]
  · exact congrArg Host.Outcome.next (State.whenAlive_stopped _ _ hstop)
  · exact congrArg Host.Outcome.next (State.whenAlive_stopped _ _ hstop)

end Sys2Proof.Machine
end

section
/-! PROOFS. The scan's repairs, its findings, and the entry into RUNNING (O4, O5): archive order, the segments as repaired,
and what the findings are of them. -/

/- The whole text is compiled as one file: these proofs are elaborated one after another, to stay within its memory. -/
set_option Elab.async false

namespace Sys2Proof.Machine

/-! ### Notices latched -/

theorem oneBit_getLsbD (w k i : Nat) : (oneBit w k).getLsbD i = (decide (i < w) && decide (k = i)) := by
  rw [oneBit, BitVec.getLsbD_ofNat, Nat.testBit_two_pow]

/-! ### One segment repaired (R136) -/

theorem Segment.repaired_opened (x : Segment) (failed : Bool) :
    (x.repaired failed).marker = .opened ↔ x.marker = .opened ∧ x.walk.torn = false := by
  unfold Segment.repaired
  split <;> rename_i hm
  · simp [hm]
  · simp only [hm]
    repeat' split
    all_goals simp [Segment.erased]
  · simp only [hm]
    split <;> simp [Segment.erased]
  · simp only [hm]
    split <;> simp [Segment.erased]
  · split
    · next ht => simp [ht]
    · next ht => simpa [hm] using ht
  · simp [hm]

theorem Segment.repaired_retired {x : Segment} (h : x.marker = .retired) (failed : Bool) :
    x.repaired failed = ⟨.retired, 0, []⟩ := by
  simp [Segment.repaired, h]

theorem Segment.repaired_unclean {x : Segment} (h : x.unclean = true) (failed : Bool) :
    x.repaired failed = if failed then ⟨.retired, 0, []⟩ else Segment.erased := by
  unfold Segment.repaired
  split <;> simp_all [Segment.unclean]

theorem Segment.repaired_full {x : Segment} (h : x.marker = .full) (failed : Bool) : x.repaired failed = x := by
  simp [Segment.repaired, h]

theorem Segment.repaired_open {x : Segment} (h : x.marker = .opened) (failed : Bool) :
    x.repaired failed = if x.walk.torn then { x with marker := .full } else x := by
  simp [Segment.repaired, h]

/-! ### Notices latched -/

namespace State

/-- A latching sets the bit of its notice alone (R173). -/
theorem latch_getLsbD (s : State) (x : Notice) (i : Nat) :
    (s.latch x).notices.latched.getLsbD i = (s.notices.latched.getLsbD i || (decide (i < 18) && decide (x.bit = i))) := by
  rw [latch_latched, BitVec.getLsbD_or, oneBit_getLsbD]

theorem latchIf_getLsbD (s : State) (b : Bool) (x : Notice) (i : Nat) :
    (s.latchIf b x).notices.latched.getLsbD i =
      (s.notices.latched.getLsbD i || (b && (decide (i < 18) && decide (x.bit = i)))) := by
  cases b
  · simp
  · rw [latchIf_true, latch_getLsbD, Bool.true_and]

/-! ### Archive order (R113) -/

/-- The open sequence number of a segment. -/
def seqOf (s : State) (g : Fin 256) : Nat := (s.nv.segments.get g).seq

theorem insertSeq_perm (s : State) (g : Fin 256) (l : List (Fin 256)) : (s.insertSeq g l).Perm (g :: l) := by
  induction l with
  | nil => exact .refl _
  | cons h t ih =>
    unfold insertSeq
    split
    · exact .refl _
    · exact (ih.cons h).trans (.swap g h t)

theorem bySeq_perm (s : State) (l : List (Fin 256)) : (s.bySeq l).Perm l := by
  induction l with
  | nil => exact .refl _
  | cons g l ih => exact (s.insertSeq_perm g (s.bySeq l)).trans (ih.cons g)

theorem insertSeq_sorted (s : State) (g : Fin 256) (l : List (Fin 256))
    (h : l.Pairwise fun x y => s.seqOf x ≤ s.seqOf y) :
    (s.insertSeq g l).Pairwise fun x y => s.seqOf x ≤ s.seqOf y := by
  induction l with
  | nil => simp [insertSeq]
  | cons k t ih =>
    obtain ⟨hk, ht⟩ := List.pairwise_cons.1 h
    unfold insertSeq
    split
    · next hle =>
      refine List.pairwise_cons.2 ⟨fun x hx => ?_, h⟩
      obtain rfl | hx := List.mem_cons.1 hx
      · exact hle
      · exact Nat.le_trans hle (hk x hx)
    · next hlt =>
      refine List.pairwise_cons.2 ⟨fun x hx => ?_, ih ht⟩
      obtain rfl | hx := (s.mem_insertSeq g x t).1 hx
      · exact Nat.le_of_lt (Nat.lt_of_not_le hlt)
      · exact hk x hx

theorem segmentsWith_sorted (s : State) (f : Marker → Bool) :
    (s.segmentsWith f).Pairwise fun x y => s.seqOf x ≤ s.seqOf y := by
  unfold segmentsWith
  generalize (List.finRange 256).filter (fun g => f (s.seg g).marker) = l
  induction l with
  | nil => exact .nil
  | cons g l ih => exact s.insertSeq_sorted g _ ih

theorem segmentsWith_nodup (s : State) (f : Marker → Bool) : (s.segmentsWith f).Nodup :=
  (s.bySeq_perm _).nodup_iff.2 ((List.nodup_finRange 256).filter _)

/-- The last segment in archive order qualifies, and none that qualifies has a higher open sequence number. -/
theorem segmentsWith_getLast? {s : State} {f : Marker → Bool} {g : Fin 256} (h : (s.segmentsWith f).getLast? = some g) :
    f (s.nv.segments.get g).marker = true ∧ ∀ k, f (s.nv.segments.get k).marker = true → s.seqOf k ≤ s.seqOf g := by
  obtain ⟨l, hl⟩ : ∃ l, s.segmentsWith f = l ++ [g] := by
    obtain ⟨hne, hg⟩ := List.getLast?_eq_some_iff.1 h
    exact ⟨hne, hg⟩
  refine ⟨(s.mem_segmentsWith f g).1 (by simp [hl]), fun k hk => ?_⟩
  have hmem := (s.mem_segmentsWith f k).2 hk
  have hsorted := s.segmentsWith_sorted f
  rw [hl] at hmem hsorted
  obtain hk | hk := List.mem_append.1 hmem
  · exact (List.pairwise_append.1 hsorted).2.2 k hk g (by simp)
  · rw [List.mem_singleton.1 hk]

/-- A segment that qualifies and stands strictly above the others is the last one in archive order. -/
theorem segmentsWith_getLast?_of_greatest {s : State} {f : Marker → Bool} {g : Fin 256}
    (hg : f (s.nv.segments.get g).marker = true)
    (h : ∀ k, f (s.nv.segments.get k).marker = true → k ≠ g → s.seqOf k < s.seqOf g) :
    (s.segmentsWith f).getLast? = some g := by
  cases hlast : (s.segmentsWith f).getLast? with
  | none =>
    have := (s.mem_segmentsWith f g).2 hg
    simp [List.getLast?_eq_none_iff.1 hlast] at this
  | some k =>
    obtain ⟨hk, hmax⟩ := segmentsWith_getLast? hlast
    by_contra hne
    have hlt := h k hk fun hkg => hne (congrArg some hkg)
    exact Nat.lt_irrefl _ (Nat.lt_of_lt_of_le hlt (hmax g hg))

/-! ### Queries that read the segments alone -/

section
variable {s t : State} (h : s.nv.segments = t.nv.segments)
include h

theorem seg_congr (g : Fin 256) : s.seg g = t.seg g := by rw [seg, seg, h]

theorem insertSeq_congr (g : Fin 256) (l : List (Fin 256)) : s.insertSeq g l = t.insertSeq g l := by
  induction l with
  | nil => rfl
  | cons k l ih => rw [insertSeq, insertSeq, seg_congr h, seg_congr h, ih]

theorem segmentsWith_congr (f : Marker → Bool) : s.segmentsWith f = t.segmentsWith f := by
  have hinsert : s.insertSeq = t.insertSeq := funext fun g => funext (insertSeq_congr h g)
  simp only [segmentsWith, bySeq, seg_congr h, hinsert]

theorem intervalRecords_congr : s.intervalRecords = t.intervalRecords := by
  simp only [intervalRecords, segmentsWith_congr h, seg_congr h]

theorem latestRecord_congr (a : Fin 16) : s.latestRecord a = t.latestRecord a := by
  simp only [latestRecord, intervalRecords_congr h]

theorem startIndex_congr : s.startIndex = t.startIndex := by
  simp only [startIndex, highestIndex, intervalRecords_congr h]

theorem greatestPair_congr : s.greatestPair = t.greatestPair := by
  have hlatest : s.latestRecord = t.latestRecord := funext (latestRecord_congr h)
  simp only [greatestPair, hlatest]

end

/-! ### The segments as repaired (R136) -/

/-- The markers programmed FULL one after another. -/
theorem foldl_mark_seg (l : List (Fin 256)) (s : State) (g : Fin 256) :
    (l.foldl (fun u k => u.mark k .full) s).nv.segments.get g =
      if g ∈ l then { s.nv.segments.get g with marker := .full } else s.nv.segments.get g := by
  induction l generalizing s with
  | nil => rfl
  | cons k l ih =>
    rw [List.foldl_cons, ih]
    by_cases hk : k = g
    · subst hk
      simp
    · rw [s.mark_kept k .full g (Ne.symm hk)]
      simp [List.mem_cons, Ne.symm hk]

theorem foldl_mark_eq (l : List (Fin 256)) (s : State) :
    l.foldl (fun u k => u.mark k .full) s =
      { s with nv := { s.nv with segments := (l.foldl (fun u k => u.mark k .full) s).nv.segments } } := by
  induction l generalizing s with
  | nil => rfl
  | cons k l ih => rw [List.foldl_cons, ih]; rfl

/-- The segments repaired each on its own, before two OPEN ones are compared (R136). -/
def repairedAlone (s : State) (failed : List (Fin 256)) : State :=
  { s with nv := { s.nv with segments := s.nv.segments.each fun g x => x.repaired (failed.contains g) } }

theorem repairedAlone_seg (s : State) (failed : List (Fin 256)) (g : Fin 256) :
    (s.repairedAlone failed).nv.segments.get g = (s.nv.segments.get g).repaired (failed.contains g) := by
  simp [repairedAlone]

/-- The segments OPEN without a torn slot, in archive order. -/
def openSegments (s : State) (failed : List (Fin 256)) : List (Fin 256) :=
  (s.repairedAlone failed).segmentsWith (· == .opened)

/-- The repairs, one segment after another and then all but the last of those still OPEN programmed FULL. -/
theorem scanRepair_fold (s : State) (failed : List (Fin 256)) :
    s.scanRepair failed = (s.openSegments failed).dropLast.foldl (fun u k => u.mark k .full) (s.repairedAlone failed) := by
  rw [scanRepair, oneOpen, openSegments, repairedAlone]

theorem scanRepair_seg (s : State) (failed : List (Fin 256)) (g : Fin 256) :
    (s.scanRepair failed).nv.segments.get g =
      if g ∈ (s.openSegments failed).dropLast then
        { (s.nv.segments.get g).repaired (failed.contains g) with marker := .full }
      else (s.nv.segments.get g).repaired (failed.contains g) := by
  rw [← repairedAlone_seg, scanRepair_fold, foldl_mark_seg]

theorem scanRepair_eq (s : State) (failed : List (Fin 256)) :
    s.scanRepair failed = { s with nv := { s.nv with segments := (s.scanRepair failed).nv.segments } } := by
  have h := foldl_mark_eq (s.openSegments failed).dropLast (s.repairedAlone failed)
  rw [← scanRepair_fold] at h
  generalize s.scanRepair failed = r at h ⊢
  rw [h]
  simp only [repairedAlone]

section
variable (s : State) (failed : List (Fin 256))

/-- Repaired on its own a segment is OPEN where it was so without a torn slot. -/
theorem opened_repairedAlone (g : Fin 256) :
    (((s.repairedAlone failed).nv.segments.get g).marker == .opened) = true ↔ s.openUntorn g := by
  rw [repairedAlone_seg, beq_iff_eq, Segment.repaired_opened, openUntorn]

theorem mem_openSegments (g : Fin 256) : g ∈ s.openSegments failed ↔ s.openUntorn g := by
  rw [openSegments, mem_segmentsWith, opened_repairedAlone]

theorem seqOf_openUntorn {g : Fin 256} (h : s.openUntorn g) :
    (s.nv.segments.get g).repaired (failed.contains g) = s.nv.segments.get g := by
  rw [Segment.repaired_open h.1, h.2]
  rfl

/-- After the repairs a segment is OPEN where it is the last one without a torn slot in archive order (R136). -/
theorem scanRepair_opened (g : Fin 256) : ((s.scanRepair failed).nv.segments.get g).marker = .opened ↔
    (s.openSegments failed).getLast? = some g := by
  have hnodup : (s.openSegments failed).Nodup := segmentsWith_nodup _ _
  have hmem := s.mem_openSegments failed
  rw [scanRepair_seg]
  generalize s.openSegments failed = l at hnodup hmem
  obtain rfl | ⟨l, k, rfl⟩ := List.eq_nil_or_concat l
  · have hn : ¬ s.openUntorn g := fun hg => by simpa using (hmem g).2 hg
    have := mt (Segment.repaired_opened (s.nv.segments.get g) (failed.contains g)).1 hn
    simpa using this
  · rw [List.concat_eq_append] at hnodup hmem ⊢
    have hk : k ∉ l := fun hk => (List.nodup_append.1 hnodup).2.2 k hk k (by simp) rfl
    rw [List.dropLast_concat, List.getLast?_concat, Option.some.injEq]
    by_cases hg : g ∈ l
    · have hne : k ≠ g := fun h => hk (h ▸ hg)
      simp [hg, hne]
    · rw [if_neg hg, Segment.repaired_opened]
      refine Iff.trans (hmem g).symm ?_
      simp [hg, eq_comm]

/-- The OPEN segment after the repairs is as it was, without a torn slot and behind every other such one (R136). -/
theorem scanRepair_opened_spec {g : Fin 256} (h : ((s.scanRepair failed).nv.segments.get g).marker = .opened) :
    (s.scanRepair failed).nv.segments.get g = s.nv.segments.get g ∧ s.openUntorn g ∧
      ∀ k, s.openUntorn k → (s.nv.segments.get k).seq ≤ (s.nv.segments.get g).seq := by
  have hlast := (s.scanRepair_opened failed g).1 h
  rw [openSegments] at hlast
  obtain ⟨hg, hmax⟩ := segmentsWith_getLast? hlast
  have ho : s.openUntorn g := (s.opened_repairedAlone failed g).1 hg
  have hkeep := s.seqOf_openUntorn failed ho
  refine ⟨?_, ho, fun k hk => ?_⟩
  · rw [scanRepair_seg] at h ⊢
    split at h
    · cases h
    · next hn => rw [if_neg hn, hkeep]
  · have hle := hmax k ((s.opened_repairedAlone failed k).2 hk)
    rwa [seqOf, seqOf, repairedAlone_seg, repairedAlone_seg, hkeep, s.seqOf_openUntorn failed hk] at hle

theorem scanRepair_opened_unique {g k : Fin 256} (hg : ((s.scanRepair failed).nv.segments.get g).marker = .opened)
    (hk : ((s.scanRepair failed).nv.segments.get k).marker = .opened) : g = k :=
  Option.some.inj (((s.scanRepair_opened failed g).1 hg).symm.trans ((s.scanRepair_opened failed k).1 hk))

/-- A segment that is not OPEN without a torn slot is repaired on its own. -/
theorem scanRepair_alone {g : Fin 256} (h : ¬ s.openUntorn g) :
    (s.scanRepair failed).nv.segments.get g = (s.nv.segments.get g).repaired (failed.contains g) := by
  rw [scanRepair_seg, if_neg fun hg => h ((s.mem_openSegments failed g).1 (List.mem_of_mem_dropLast hg))]

/-- An OPEN segment that does not stay so is FULL and otherwise as it was (R136). -/
theorem scanRepair_filled {g : Fin 256} (hm : (s.nv.segments.get g).marker = .opened)
    (h : ((s.scanRepair failed).nv.segments.get g).marker ≠ .opened) :
    (s.scanRepair failed).nv.segments.get g = { s.nv.segments.get g with marker := .full } := by
  by_cases ho : s.openUntorn g
  · rw [scanRepair_seg, s.seqOf_openUntorn failed ho] at h ⊢
    split at h
    · next hg => rw [if_pos hg]
    · exact absurd hm h
  · have ht : (s.nv.segments.get g).walk.torn = true := by simpa [openUntorn, hm] using ho
    rw [s.scanRepair_alone failed ho, Segment.repaired_open hm, ht, if_pos rfl]

/-- The greatest OPEN segment without a torn slot stays as it was (R136). -/
theorem scanRepair_greatest {g : Fin 256} (ho : s.openUntorn g)
    (h : ∀ k, s.openUntorn k → k ≠ g → (s.nv.segments.get k).seq < (s.nv.segments.get g).seq) :
    (s.scanRepair failed).nv.segments.get g = s.nv.segments.get g := by
  have hlast : (s.openSegments failed).getLast? = some g := by
    rw [openSegments]
    refine segmentsWith_getLast?_of_greatest ((s.opened_repairedAlone failed g).2 ho) fun k hk hne => ?_
    have hk' := (s.opened_repairedAlone failed k).1 hk
    rw [seqOf, seqOf, repairedAlone_seg, repairedAlone_seg, s.seqOf_openUntorn failed hk', s.seqOf_openUntorn failed ho]
    exact h k hk' hne
  exact (s.scanRepair_opened_spec failed ((s.scanRepair_opened failed g).2 hlast)).1

end

/-! ### The scan's end (R136, R137) -/

theorem endScan_segments (s : State) (failed : List (Fin 256)) :
    (s.endScan failed).nv.segments = (s.scanRepair failed).nv.segments := by
  unfold endScan
  dsimp only
  split <;> simp [scanFind]

theorem scanBad_iff (s : State) (failed : List (Fin 256)) :
    ((List.finRange 256).any fun g => (s.seg g).unclean && failed.contains g) = true ↔
      ∃ g, (s.nv.segments.get g).unclean = true ∧ g ∈ failed := by
  simp [List.any_eq_true, seg]

theorem scanTorn_iff (s : State) :
    ((List.finRange 256).any fun g => (s.seg g).tornFound) = true ↔
      ∃ g, ((s.nv.segments.get g).marker = .opened ∨ (s.nv.segments.get g).marker = .full) ∧
        (s.nv.segments.get g).walk.torn = true := by
  have hserved (m : Marker) : m.served = true ↔ m = .opened ∨ m = .full := by cases m <;> decide
  simp [List.any_eq_true, seg, Segment.tornFound, hserved]

/-- TORN_FOUND and ARCHIVE_ERROR at the scan's end (R136). -/
theorem endScan_latched (s : State) (failed : List (Fin 256)) :
    ((s.endScan failed).notices.latched.getLsbD 9 = true ↔ s.notices.latched.getLsbD 9 = true ∨
      ∃ g, ((s.nv.segments.get g).marker = .opened ∨ (s.nv.segments.get g).marker = .full) ∧
        (s.nv.segments.get g).walk.torn = true) ∧
    ((s.endScan failed).notices.latched.getLsbD 8 = true ↔ s.notices.latched.getLsbD 8 = true ∨
      ∃ g, (s.nv.segments.get g).unclean = true ∧ g ∈ failed) := by
  have hR : (s.scanRepair failed).scanFind.notices = s.notices := by
    rw [scanFind, onArchive_notices, scanRepair_eq]
  rw [← scanTorn_iff, ← scanBad_iff]
  unfold endScan
  generalize (List.finRange 256).any (fun g => (s.seg g).tornFound) = torn
  generalize (List.finRange 256).any (fun g => (s.seg g).unclean && failed.contains g) = bad
  cases bad
  · simp only [Bool.false_eq_true, reduceIte, latchIf_getLsbD, hR]
    cases torn <;> simp [Notice.bit]
  · simp only [reduceIte, stopArchive, latch_getLsbD, onArchive_notices, latchIf_getLsbD, hR]
    cases torn <;> simp [Notice.bit]

/-- The archive at the scan's end (R125, R136, R137). -/
theorem endScan_archive (s : State) (failed : List (Fin 256)) :
    ((∃ g, (s.nv.segments.get g).unclean = true ∧ g ∈ failed) →
      (s.endScan failed).archive =
        { (s.scanRepair failed).scanFind.archive with state := .stopped, error := .eraseFail }) ∧
    ((∀ g, (s.nv.segments.get g).unclean = true → g ∉ failed) →
      (s.endScan failed).archive = (s.scanRepair failed).scanFind.archive) := by
  constructor
  · intro h
    rw [endScan, (s.scanBad_iff failed).2 h]
    simp [stopArchive]
  · intro h
    have : ¬ ∃ g, (s.nv.segments.get g).unclean = true ∧ g ∈ failed := fun ⟨g, hu, hf⟩ => h g hu hf
    rw [endScan, Bool.eq_false_iff.2 (mt (s.scanBad_iff failed).1 this)]
    simp

/-! ### The entry into RUNNING (R183 (4)) -/

/-- What a reclaim test can change of one segment (R121): a FULL one may come under erase, in IDLE or WRITING. -/
theorem reclaimTest_seg (s : State) (g : Fin 256) : s.reclaimTest.nv.segments.get g = s.nv.segments.get g ∨
    (s.nv.segments.get g).marker = .full ∧ s.archive.state ≠ .stopped ∧
      s.reclaimTest.nv.segments.get g = { s.nv.segments.get g with marker := .reclaiming } := by
  obtain ⟨-, h⟩ | ⟨-, -, h⟩ | ⟨k, hs, hw, -, h⟩ | ⟨k, -, -, -, h⟩ := s.reclaimTest_cases
  · exact .inl (by rw [h])
  · exact .inl (by simp [h])
  · obtain ⟨-, hm, -⟩ := s.reclaimWanted_spec k hw
    by_cases hk : k = g
    · subst hk
      exact .inr ⟨hm, hs, by simp [h, beginErase]⟩
    · exact .inl (by simp [h, beginErase, Table.get_put, hk])
  · exact .inl (by simp [h, becomeHeld])

/-- Only ARCHIVE_HELD is latched by a reclaim test (R122). -/
theorem reclaimTest_latched (s : State) {i : Nat} (hi : i ≠ 7) :
    s.reclaimTest.notices.latched.getLsbD i = s.notices.latched.getLsbD i := by
  obtain ⟨-, h⟩ | ⟨-, -, h⟩ | ⟨k, -, -, -, h⟩ | ⟨k, -, -, -, h⟩ := s.reclaimTest_cases
  · rw [h]
  · simp [h]
  · simp [h, beginErase]
  · rw [h, becomeHeld, latchIf_getLsbD, onArchive_notices]
    simp [Notice.bit, Ne.symm hi]

theorem reclaimTest_stopped_eq {s : State} (h : s.archive.state = .stopped) : s.reclaimTest = s := by
  simp [reclaimTest, h]

theorem enterRunning_seg (s : State) (g : Fin 256) : s.enterRunning.nv.segments.get g = s.nv.segments.get g ∨
    (s.nv.segments.get g).marker = .full ∧ s.archive.state ≠ .stopped ∧
      s.enterRunning.nv.segments.get g = { s.nv.segments.get g with marker := .reclaiming } := by
  have h := ({ s with op := .running } : State).startInterval.reclaimTest_seg g
  simpa [enterRunning, rewriteDefaults, startInterval, apply_ite State.nv] using h

theorem enterRunning_latched (s : State) {i : Nat} (hi : i ≠ 7) :
    s.enterRunning.notices.latched.getLsbD i = s.notices.latched.getLsbD i := by
  have h := ({ s with op := .running } : State).startInterval.reclaimTest_latched hi
  simpa [enterRunning, rewriteDefaults, startInterval, apply_ite State.notices] using h

/-- The state that SCAN_END leaves: with the warning the findings alone, else the part in RUNNING. -/
def scanEnded (s : State) (failed : List (Fin 256)) : State :=
  let found := (s.endScan failed).handFindings
  if s.warning then found else found.enterRunning

theorem endScan_warning (s : State) (failed : List (Fin 256)) : (s.endScan failed).warning = s.warning := by
  have hR : (s.scanRepair failed).warning = s.warning := by rw [scanRepair_eq]
  unfold endScan
  dsimp only
  split <;> simp [scanFind, hR]

theorem exec_scanEnd {s : State} (failed : List (Fin 256)) (ha : s.stopped = false) (ho : s.op = .starting)
    (hs : s.archive.state = .scanning) : exec (.scanEnd failed) s = .next (s.scanEnded failed) := by
  have hw : (s.endScan failed).handFindings.warning = s.warning := s.endScan_warning failed
  have hdo : exec (.scanEnd failed) s = .next (s.whenAlive (State.scanEnd failed)) := rfl
  rw [hdo, whenAlive_running _ _ ha, scanEnd, ho, hs]
  simp only [hw, scanEnded]
  rfl

/-- A segment at the end of SCAN_END is as the repairs left it, or a FULL one under erase from the entry into RUNNING. -/
theorem scanEnded_seg (s : State) (failed : List (Fin 256)) (g : Fin 256) :
    (s.scanEnded failed).nv.segments.get g = (s.scanRepair failed).nv.segments.get g ∨
    s.warning = false ∧ ((s.scanRepair failed).nv.segments.get g).marker = .full ∧
      ((s.scanEnded failed).nv.segments.get g).marker = .reclaiming := by
  have hf : (s.endScan failed).handFindings.nv.segments = (s.scanRepair failed).nv.segments := s.endScan_segments failed
  unfold scanEnded
  cases hw : s.warning
  · obtain h | ⟨hm, -, h⟩ := (s.endScan failed).handFindings.enterRunning_seg g
    · exact .inl (by simp [h, hf])
    · refine .inr ⟨rfl, hf ▸ hm, ?_⟩
      simp [h]
  · exact .inl (by simp [hf])

/-- A segment that the repairs do not leave FULL is at the end of SCAN_END as the repairs left it. -/
theorem scanEnded_seg_of_ne {s : State} {failed : List (Fin 256)} {g : Fin 256}
    (h : ((s.scanRepair failed).nv.segments.get g).marker ≠ .full) :
    (s.scanEnded failed).nv.segments.get g = (s.scanRepair failed).nv.segments.get g :=
  (s.scanEnded_seg failed g).resolve_right fun ⟨_, hm, _⟩ => h hm

theorem scanEnded_seg_of_warning {s : State} {failed : List (Fin 256)} {g : Fin 256} (h : s.warning = true) :
    (s.scanEnded failed).nv.segments.get g = (s.scanRepair failed).nv.segments.get g :=
  (s.scanEnded_seg failed g).resolve_right fun ⟨hw, _⟩ => Bool.false_ne_true (hw.symm.trans h)

theorem scanEnded_opened {s : State} {failed : List (Fin 256)} {g : Fin 256}
    (h : ((s.scanEnded failed).nv.segments.get g).marker = .opened) :
    ((s.scanRepair failed).nv.segments.get g).marker = .opened := by
  obtain hg | ⟨-, -, hm⟩ := s.scanEnded_seg failed g
  · rwa [← hg]
  · rw [hm] at h
    cases h

theorem scanEnded_latched (s : State) (failed : List (Fin 256)) {i : Nat} (hi : i ≠ 7) :
    (s.scanEnded failed).notices.latched.getLsbD i = (s.endScan failed).notices.latched.getLsbD i := by
  unfold scanEnded
  cases s.warning
  · exact (s.endScan failed).handFindings.enterRunning_latched hi
  · rfl

/-- A STOPPED archive enters RUNNING as it is (R125). -/
theorem enterRunning_stopped {s : State} (h : s.archive.state = .stopped) : s.enterRunning.archive = s.archive := by
  have hr : ({ s with op := .running } : State).startInterval.reclaimTest = ({ s with op := .running } : State).startInterval :=
    reclaimTest_stopped_eq h
  rw [enterRunning, hr]
  unfold rewriteDefaults
  split <;> rfl

theorem scanEnded_eraseFail {s : State} {failed : List (Fin 256)}
    (h : ∃ g, (s.nv.segments.get g).unclean = true ∧ g ∈ failed) :
    (s.scanEnded failed).archive.state = .stopped ∧ (s.scanEnded failed).archive.error = .eraseFail := by
  have ha : (s.endScan failed).handFindings.archive = _ := (s.endScan_archive failed).1 h
  have hs : (s.endScan failed).handFindings.archive.state = .stopped := by rw [ha]
  unfold scanEnded
  cases s.warning
  · rw [if_neg Bool.false_ne_true, enterRunning_stopped hs, ha]
    exact ⟨rfl, rfl⟩
  · rw [if_pos rfl, ha]
    exact ⟨rfl, rfl⟩

end State

/-- Settles O4, by what the repairs leave of one segment. -/
theorem scanRepairsSegments : Obligations.ScanRepairsSegments := by
  intro s failed ha ho hs
  have untorn {g} (h : (s.nv.segments.get g).marker ≠ .opened) : ¬ s.openUntorn g := fun hg => h hg.1
  have unclean {g} (h : (s.nv.segments.get g).unclean = true) : (s.nv.segments.get g).marker ≠ .opened := fun hm => by
    simp [Segment.unclean, hm] at h
  obtain ⟨htorn, hbad⟩ := s.endScan_latched failed
  refine ⟨s.scanEnded failed, State.exec_scanEnd failed ha ho hs, fun g hm => ?_, fun g hu hf => ?_, fun g hu hf => ?_,
    fun g hm ht => ?_, fun g h hg hh => ?_, fun g hm => ?_, fun g hg hmax => ?_, fun g hw hm h => ?_, fun g hw hm => ?_,
    ?_, ?_⟩
  · have hr := s.scanRepair_alone failed (untorn (g := g) (by simp [hm]))
    rw [Segment.repaired_retired hm] at hr
    rw [State.scanEnded_seg_of_ne (by simp [hr]), hr]
  · have hr := s.scanRepair_alone failed (untorn (unclean hu))
    rw [Segment.repaired_unclean hu, List.contains_eq_mem, decide_eq_false hf] at hr
    rw [State.scanEnded_seg_of_ne (by simp [hr, Segment.erased]), hr]
    rfl
  · have hr := s.scanRepair_alone failed (untorn (unclean hu))
    rw [Segment.repaired_unclean hu, List.contains_eq_mem, decide_eq_true hf] at hr
    obtain ⟨hst, her⟩ := State.scanEnded_eraseFail ⟨g, hu, hf⟩
    refine ⟨?_, hst, her, ?_⟩
    · rw [State.scanEnded_seg_of_ne (by simp [hr]), hr]
      rfl
    · rw [s.scanEnded_latched failed (by decide), hbad]
      exact .inr ⟨g, hu, hf⟩
  · intro h
    exact absurd ((s.scanRepair_opened_spec failed (State.scanEnded_opened h)).2.1.2) (by simp [ht])
  · exact s.scanRepair_opened_unique failed (State.scanEnded_opened hg) (State.scanEnded_opened hh)
  · have hr := State.scanEnded_opened hm
    obtain ⟨hkeep, hspec⟩ := s.scanRepair_opened_spec failed hr
    exact ⟨(State.scanEnded_seg_of_ne (by simp [hr])).trans hkeep, hspec⟩
  · have hr := s.scanRepair_greatest failed hg hmax
    rw [State.scanEnded_seg_of_ne (by simp [hr, hg.1]), hr]
  · rw [State.scanEnded_seg_of_warning hw]
    refine s.scanRepair_filled failed hm fun hopen => ?_
    obtain ⟨-, ⟨-, hnt⟩, hmax⟩ := s.scanRepair_opened_spec failed hopen
    obtain ht | ⟨k, hk, hlt⟩ := h
    · exact Bool.false_ne_true (hnt.symm.trans ht)
    · exact Nat.lt_irrefl _ (Nat.lt_of_lt_of_le hlt (hmax k hk))
  · rw [State.scanEnded_seg_of_warning hw, s.scanRepair_alone failed (untorn (by simp [hm])), Segment.repaired_full hm]
  · rw [s.scanEnded_latched failed (by decide), htorn]
  · rw [s.scanEnded_latched failed (by decide), hbad]

end Sys2Proof.Machine
end

section
/-! PROOFS. The scan's findings, and the entry into RUNNING by the scan's end or by the warning's release (O5). -/

/- The whole text is compiled as one file: these proofs are elaborated one after another, to stay within its memory. -/
set_option Elab.async false

namespace Sys2Proof.Machine

/-! ### The greatest pair and the highest index (R111, R156) -/

/-- `p` is at most `q` in the order of close pairs. -/
def pairAtMost (p q : Nat × Nat) : Prop := p.1 < q.1 ∨ (p.1 = q.1 ∧ p.2 ≤ q.2)

theorem pairAtMost_trans {p q r : Nat × Nat} (h : pairAtMost p q) (k : pairAtMost q r) : pairAtMost p r := by
  unfold pairAtMost at *
  omega

theorem maxPair_left (p q : Nat × Nat) : pairAtMost p (maxPair p q) := by
  unfold maxPair pairAtMost pairBelow
  split <;> simp_all
  omega

theorem maxPair_right (p q : Nat × Nat) : pairAtMost q (maxPair p q) := by
  unfold maxPair pairAtMost pairBelow
  split <;> simp_all
  omega

theorem foldl_maxPair_greatest (ps : List (Nat × Nat)) (p : Nat × Nat) :
    ∀ q ∈ p :: ps, pairAtMost q (ps.foldl maxPair p) := by
  induction ps generalizing p with
  | nil => simp [pairAtMost]
  | cons r ps ih =>
    intro q hq
    rw [List.foldl_cons]
    have hhead := ih (maxPair p r) _ List.mem_cons_self
    simp only [List.mem_cons] at hq
    obtain rfl | rfl | hq := hq
    · exact pairAtMost_trans (maxPair_left _ _) hhead
    · exact pairAtMost_trans (maxPair_right _ _) hhead
    · exact ih _ q (List.mem_cons_of_mem _ hq)

namespace State

/-- No latest record is above the greatest pair (R156). -/
theorem greatestPair_greatest {s : State} {a : Fin 16} {bs : List Byte} (h : s.latestRecord a = some bs) :
    ∃ p, s.greatestPair = some p ∧ pairAtMost (recIndex bs, recPart bs) p := by
  have hmem : (recIndex bs, recPart bs) ∈
      ((List.finRange 16).filterMap s.latestRecord).map fun bs => (recIndex bs, recPart bs) :=
    List.mem_map_of_mem (List.mem_filterMap.2 ⟨a, List.mem_finRange a, h⟩)
  unfold greatestPair
  split
  · next he =>
    rw [he] at hmem
    cases hmem
  · next p ps he =>
    rw [he] at hmem
    exact ⟨_, rfl, foldl_maxPair_greatest ps p _ hmem⟩

theorem latestRecord_none {s : State} (h : s.intervalRecords = []) (a : Fin 16) : s.latestRecord a = none := by
  simp [latestRecord, h]

theorem greatestPair_none {s : State} (h : s.intervalRecords = []) : s.greatestPair = none := by
  cases hp : s.greatestPair with
  | none => rfl
  | some p =>
    obtain ⟨a, bs, ha, -⟩ := greatestPair_mem hp
    rw [latestRecord_none h] at ha
    cases ha

theorem highestIndex_eq (s : State) : s.highestIndex = (s.intervalRecords.map recIndex).max? := by
  unfold highestIndex
  split
  · next h => rw [h]; rfl
  · next h => rw [h]; rfl

/-- The interval index a start begins with is one above the highest archived one (R111). -/
theorem startIndex_spec {s : State} (h : s.intervalRecords ≠ []) : ∃ bs ∈ s.intervalRecords,
    (∀ b ∈ s.intervalRecords, recIndex b ≤ recIndex bs) ∧ s.startIndex = min Config.max32 (recIndex bs + 1) := by
  cases hm : (s.intervalRecords.map recIndex).max? with
  | none => exact absurd (List.map_eq_nil_iff.1 (List.max?_eq_none_iff.1 hm)) h
  | some i =>
    obtain ⟨hmem, hmax⟩ := List.max?_eq_some_iff.1 hm
    obtain ⟨bs, hbs, rfl⟩ := List.mem_map.1 hmem
    refine ⟨bs, hbs, fun b hb => hmax _ (List.mem_map_of_mem hb), ?_⟩
    rw [startIndex, highestIndex_eq, hm]

theorem startIndex_zero {s : State} (h : s.intervalRecords = []) : s.startIndex = 0 := by
  simp [startIndex, highestIndex, h]

/-! ### The findings (R137) -/

section
variable (s : State) (failed : List (Fin 256))

/-- The archive's head and write position where a segment is OPEN (R137 (1)). -/
theorem scanFind_opened {r : State} {g : Fin 256} (hg : (r.nv.segments.get g).marker = .opened)
    (hone : ∀ k, (r.nv.segments.get k).marker = .opened → k = g) :
    r.scanFind.archive.head = some g ∧ r.scanFind.archive.writePos = (r.nv.segments.get g).walk.endAt := by
  have hmem := fun k => r.mem_segmentsWith (· == .opened) k
  cases hl : r.segmentsWith (· == .opened) with
  | nil => simpa [hl, hg] using hmem g
  | cons k l =>
    have hk : k = g := hone k (by simpa [hl] using hmem k)
    subst hk
    simp [scanFind, hl, seg]

/-- The archive's head where no segment is OPEN: the last FULL one (R137 (1)). -/
theorem scanFind_head {r : State} (h : ∀ g, (r.nv.segments.get g).marker ≠ .opened) :
    r.scanFind.archive.head = (r.segmentsWith (· == .full)).getLast? := by
  have hl : r.segmentsWith (· == .opened) = [] :=
    List.eq_nil_iff_forall_not_mem.2 fun g hg => h g (by simpa using (r.mem_segmentsWith (· == .opened) g).1 hg)
  simp [scanFind, hl]

theorem scanFind_nextSeq (r : State) :
    (∀ g, (r.nv.segments.get g).marker.served = true → (r.nv.segments.get g).seq < r.scanFind.archive.nextSeq) ∧
    (r.scanFind.archive.nextSeq = 1 ∨
      ∃ g, (r.nv.segments.get g).marker.served = true ∧ r.scanFind.archive.nextSeq = (r.nv.segments.get g).seq + 1) := by
  cases hl : (r.segmentsWith Marker.served).getLast? with
  | none =>
    refine ⟨fun g hg => ?_, .inl (by simp [scanFind, hl])⟩
    have := (r.mem_segmentsWith Marker.served g).2 hg
    simp [List.getLast?_eq_none_iff.1 hl] at this
  | some k =>
    obtain ⟨hk, hmax⟩ := segmentsWith_getLast? hl
    have hn : r.scanFind.archive.nextSeq = (r.nv.segments.get k).seq + 1 := by simp [scanFind, hl, seg]
    exact ⟨fun g hg => hn ▸ Nat.lt_succ_of_le (hmax g hg), .inr ⟨k, hk, hn⟩⟩

theorem restore_residues (acc : Account) (bs : List Byte) :
    (acc.restore bs).mains.toList.map (·.residue) = (List.range 8).map (recCarry bs) ∧
      (acc.restore bs).mains.toList.map (·.whole) = acc.mains.toList.map (·.whole) := ⟨rfl, rfl⟩

/-- What the account engine takes of the findings (R68, R91). -/
theorem foundAccounts_get (s : State) (a : Fin 16) : s.foundAccounts.get a =
    { s.accounts.get a with
      mains := match s.latestRecord a with
        | some bs => ((s.accounts.get a).restore bs).mains
        | none => (s.accounts.get a).mains
      stamp := ⟨s.startIndex, 0, 0⟩ } := by
  rw [foundAccounts, Table.get_each]
  cases s.latestRecord a <;> rfl

/-- A state holds the findings of `r` where its archive, accounts and link hold them. -/
theorem findingsHanded_of {r t : State} (hone : ∀ g k, (r.nv.segments.get g).marker = .opened →
      (r.nv.segments.get k).marker = .opened → g = k)
    (hhead : t.archive.head = r.scanFind.archive.head) (hpos : t.archive.writePos = r.scanFind.archive.writePos)
    (hseq : t.archive.nextSeq = r.scanFind.archive.nextSeq) (hpair : t.tie.lastPair = r.greatestPair)
    (hmains : ∀ a, (t.accounts.get a).mains = (r.foundAccounts.get a).mains)
    (hstamp : ∀ a, (t.accounts.get a).stamp = (r.foundAccounts.get a).stamp) :
    r.findingsHanded t r.startIndex := by
  obtain ⟨hbelow, hnext⟩ := r.scanFind_nextSeq
  refine ⟨fun g hg => ?_, fun hno => ⟨fun g hg hmax => ?_, fun hnf => ?_⟩, ?_, ?_, startIndex_spec, fun h => ?_,
    fun a bs ha => ?_, fun a ha => ?_, fun a => ?_, fun a bs ha => ?_, fun p hp => ?_⟩
  · obtain ⟨h1, h2⟩ := scanFind_opened hg fun k hk => hone k g hk hg
    exact ⟨hhead.trans h1, hpos.trans h2⟩
  · rw [hhead, scanFind_head hno]
    exact segmentsWith_getLast?_of_greatest (by simp [hg]) fun k hk hne => hmax k (by simpa using hk) hne
  · rw [hhead, scanFind_head hno, List.getLast?_eq_none_iff]
    exact List.eq_nil_iff_forall_not_mem.2 fun g hg => hnf g (by simpa using (r.mem_segmentsWith (· == .full) g).1 hg)
  · exact fun g hg => hseq ▸ hbelow g hg
  · rw [hseq]
    exact hnext
  · exact ⟨startIndex_zero h, hpair.trans (greatestPair_none h)⟩
  · rw [hmains, foundAccounts_get, ha]
    exact restore_residues _ _
  · rw [hmains, foundAccounts_get, ha]
  · rw [hstamp, foundAccounts_get]
  · obtain ⟨p, hp, hle⟩ := greatestPair_greatest ha
    exact ⟨p, hpair.trans hp, hle⟩
  · exact greatestPair_mem (hpair ▸ hp)

end

/-! ### What the scan's end leaves alone -/

theorem endScan_eq (s : State) (failed : List (Fin 256)) : s.endScan failed =
    { s with
      archive := (s.endScan failed).archive, notices := (s.endScan failed).notices
      nv := { s.nv with segments := (s.scanRepair failed).nv.segments } } := by
  have hR := s.scanRepair_eq failed
  rw [endScan]
  generalize s.scanRepair failed = r at hR ⊢
  generalize (List.finRange 256).any (fun g => (s.seg g).tornFound) = torn
  generalize (List.finRange 256).any (fun g => (s.seg g).unclean && failed.contains g) = bad
  generalize r.nv.segments = x at hR ⊢
  subst hR
  cases bad <;> cases torn <;> rfl

/-- The archive at the scan's end, in every case (R125, R137). -/
theorem endScan_archive_eq (s : State) (failed : List (Fin 256)) :
    (s.endScan failed).archive = { s.archive with
      head := (s.scanRepair failed).scanFind.archive.head, writePos := (s.scanRepair failed).scanFind.archive.writePos
      nextSeq := (s.scanRepair failed).scanFind.archive.nextSeq
      state := (s.endScan failed).archive.state, error := (s.endScan failed).archive.error } := by
  have hR : (s.scanRepair failed).archive = s.archive := by rw [scanRepair_eq]
  obtain ⟨hbad, hgood⟩ := s.endScan_archive failed
  by_cases h : ∃ g, (s.nv.segments.get g).unclean = true ∧ g ∈ failed
  · rw [hbad h]
    simp [scanFind, hR]
  · rw [hgood fun g hu hf => h ⟨g, hu, hf⟩]
    simp [scanFind, hR]

/-- With no failing erase the archive is IDLE at the scan's end, its error as it was (R137). -/
theorem endScan_idle {s : State} {failed : List (Fin 256)} (h : ∀ g, (s.nv.segments.get g).unclean = true → g ∉ failed) :
    (s.endScan failed).archive.error = s.archive.error ∧ (s.endScan failed).archive.state = .idle := by
  have hR : (s.scanRepair failed).archive = s.archive := by rw [scanRepair_eq]
  rw [(s.endScan_archive failed).2 h]
  simp [scanFind, hR]

/-- The state with the findings handed over: what it changes of the state before (R137). -/
def found (s : State) (failed : List (Fin 256)) : State := (s.endScan failed).handFindings

theorem found_eq (s : State) (failed : List (Fin 256)) : s.found failed =
    { s with
      archive := (s.endScan failed).archive, notices := (s.endScan failed).notices
      nv := { s.nv with segments := (s.scanRepair failed).nv.segments }
      accounts := (s.found failed).accounts
      tie := { s.tie with lastPair := (s.scanRepair failed).greatestPair } } := by
  have hpair := greatestPair_congr (s.endScan_segments failed)
  rw [found, handFindings, hpair]
  generalize (s.endScan failed).foundAccounts = accounts
  rw [s.endScan_eq failed]

theorem found_accounts (s : State) (failed : List (Fin 256)) :
    (s.found failed).accounts = (s.scanRepair failed).foundAccounts := by
  have hsegs := s.endScan_segments failed
  have hE : (s.endScan failed).accounts = s.accounts := by rw [endScan_eq]
  have hR : (s.scanRepair failed).accounts = s.accounts := by rw [scanRepair_eq]
  refine Table.ext_get fun a => ?_
  rw [found, handFindings, foundAccounts_get, foundAccounts_get, latestRecord_congr hsegs, startIndex_congr hsegs, hE, hR]

theorem found_startIndex (s : State) (failed : List (Fin 256)) :
    (s.found failed).startIndex = (s.scanRepair failed).startIndex := by
  refine startIndex_congr ?_
  rw [found_eq]

theorem reclaimTest_eq (s : State) : s.reclaimTest =
    { s with
      archive := s.reclaimTest.archive, notices := s.reclaimTest.notices
      nv := { s.nv with segments := s.reclaimTest.nv.segments } } := by
  obtain ⟨-, h⟩ | ⟨-, -, h⟩ | ⟨k, -, -, -, h⟩ | ⟨k, -, -, -, h⟩ := s.reclaimTest_cases
  · rw [h]
  · rw [h]; rfl
  · rw [h]; rfl
  · rw [h, becomeHeld]
    cases s.archive.heldInd <;> rfl

/-- What a reclaim test can change of the archive (R121, R122). -/
theorem reclaimTest_archive (s : State) : s.reclaimTest.archive =
    { s.archive with
      erase := s.reclaimTest.archive.erase, heldInd := s.reclaimTest.archive.heldInd
      state := s.reclaimTest.archive.state } ∧
    (s.reclaimTest.archive.state = s.archive.state ∨ s.archive.writing = false ∧ s.reclaimTest.archive.state = .reclaiming ∨
      s.archive.writing = true ∧ s.reclaimTest.archive.state = .suspended) := by
  obtain ⟨-, h⟩ | ⟨-, -, h⟩ | ⟨k, -, -, -, h⟩ | ⟨k, -, -, -, h⟩ := s.reclaimTest_cases
  · rw [h]
    exact ⟨rfl, .inl rfl⟩
  · rw [h]
    exact ⟨rfl, .inl rfl⟩
  · rw [h]
    refine ⟨rfl, .inr ?_⟩
    cases hw : s.archive.writing <;> simp [beginErase, hw]
  · rw [h]
    simp [becomeHeld]

theorem startInterval_running (s : State) : ({ s with op := .running } : State).startInterval =
    { s with
      op := .running, accounts := s.startAccounts
      clock := { s.clock with index := s.startIndex, part := 0, position := 0 } } := by
  have h := startIndex_congr (s := { s with op := .running }) (t := s) rfl
  rw [startInterval, startAccounts, h]
  rfl

theorem enterRunning_eq (s : State) : s.enterRunning =
    { s with
      op := .running, accounts := s.startAccounts
      clock := { s.clock with index := s.startIndex, part := 0, position := 0 }
      archive := s.enterRunning.archive, notices := s.enterRunning.notices
      nv := { s.nv with segments := s.enterRunning.nv.segments }
      store := if s.nv.image.isNone then some (.image Image.default) else s.store } := by
  have h := ({ s with op := .running } : State).startInterval.reclaimTest_eq
  rw [enterRunning]
  rw [startInterval_running] at h ⊢
  generalize reclaimTest _ = r at h ⊢
  have hnv : r.nv.image.isNone = s.nv.image.isNone := by rw [h]
  rw [rewriteDefaults, hnv]
  generalize s.nv.image.isNone = d
  generalize r.archive = x at h
  generalize r.notices = y at h
  generalize r.nv.segments = z at h
  subst h
  cases d
  · rw [if_neg Bool.false_ne_true, if_neg Bool.false_ne_true]
  · rw [if_pos rfl, if_pos rfl]

theorem enterRunning_archive (s : State) : s.enterRunning.archive =
    { s.archive with
      erase := s.enterRunning.archive.erase, heldInd := s.enterRunning.archive.heldInd
      state := s.enterRunning.archive.state } ∧
    (s.enterRunning.archive.state = s.archive.state ∨
      s.archive.writing = false ∧ s.enterRunning.archive.state = .reclaiming ∨
      s.archive.writing = true ∧ s.enterRunning.archive.state = .suspended) := by
  have h := ({ s with op := .running } : State).startInterval.reclaimTest_archive
  have he : s.enterRunning.archive = ({ s with op := .running } : State).startInterval.reclaimTest.archive := by
    rw [enterRunning, rewriteDefaults]
    split <;> rfl
  rw [he]
  exact h

/-! ### The warning pin and the scan's end -/

theorem foldl_mark_setWarning (l : List (Fin 256)) (s : State) (b : Bool) :
    l.foldl (fun u k => u.mark k .full) (s.setWarning b) = (l.foldl (fun u k => u.mark k .full) s).setWarning b := by
  induction l generalizing s with
  | nil => rfl
  | cons k l ih => exact ih (s.mark k .full)

theorem scanRepair_setWarning (s : State) (failed : List (Fin 256)) (b : Bool) :
    (s.setWarning b).scanRepair failed = (s.scanRepair failed).setWarning b := by
  have hopen : (s.setWarning b).openSegments failed = s.openSegments failed :=
    segmentsWith_congr (by rw [repairedAlone, repairedAlone, setWarning]) _
  have halone : (s.setWarning b).repairedAlone failed = (s.repairedAlone failed).setWarning b := by
    simp only [repairedAlone, setWarning]
  rw [scanRepair_fold, scanRepair_fold, hopen, halone, foldl_mark_setWarning]

theorem scanFind_setWarning (s : State) (b : Bool) : (s.setWarning b).scanFind = s.scanFind.setWarning b := by
  have h := fun f => segmentsWith_congr (s := s.setWarning b) (t := s) rfl f
  simp only [scanFind, h, seg_congr (s := s.setWarning b) (t := s) rfl]
  rfl

theorem endScan_setWarning (s : State) (failed : List (Fin 256)) (b : Bool) :
    (s.setWarning b).endScan failed = (s.endScan failed).setWarning b := by
  simp only [endScan, seg_congr (s := s.setWarning b) (t := s) rfl, scanRepair_setWarning, scanFind_setWarning]
  generalize (List.finRange 256).any (fun g => (s.seg g).tornFound) = torn
  generalize (List.finRange 256).any (fun g => (s.seg g).unclean && failed.contains g) = bad
  generalize (s.scanRepair failed).scanFind = r
  cases bad <;> cases torn <;> rfl

theorem found_setWarning (s : State) (failed : List (Fin 256)) (b : Bool) :
    (s.setWarning b).found failed = (s.found failed).setWarning b := by
  have hpair := greatestPair_congr (s := (s.endScan failed).setWarning b) (t := s.endScan failed) rfl
  have hacc : ((s.endScan failed).setWarning b).foundAccounts = (s.endScan failed).foundAccounts := by
    refine Table.ext_get fun a => ?_
    rw [foundAccounts_get, foundAccounts_get, latestRecord_congr (s := (s.endScan failed).setWarning b) (t := s.endScan failed) rfl,
      startIndex_congr (s := (s.endScan failed).setWarning b) (t := s.endScan failed) rfl, setWarning]
  rw [found, found, endScan_setWarning, handFindings, handFindings, hpair, hacc]
  rfl

theorem exec_powerFailRelease_starting {s : State} (ha : s.stopped = false) (ho : s.op = .starting)
    (hs : s.archive.state ≠ .scanning) : exec .powerFailRelease s = .next (s.setWarning false).enterRunning := by
  have hdo : exec .powerFailRelease s = .next ((s.setWarning false).whenAlive powerFailRelease) := rfl
  have halive : (s.setWarning false).stopped = false := ha
  have hop : (s.setWarning false).op = .starting := ho
  have hclosing : (s.setWarning false).closing = false := by rw [closing, hop]; rfl
  have hst : ((s.setWarning false).archive.state != .scanning) = true := bne_iff_ne.2 hs
  rw [hdo, whenAlive_running _ _ halive, powerFailRelease, hclosing, hop, hst]
  rfl

end State

/-- Settles O5, from the findings as repaired and the frames of the scan's end and of the entry into RUNNING. -/
theorem scanEndEntersRunning : Obligations.ScanEndEntersRunning := by
  have hone {s : State} {failed : List (Fin 256)} (g k : Fin 256) := s.scanRepair_opened_unique failed (g := g) (k := k)
  refine ⟨fun s failed ha ho hs hquiet hw => ?_, fun s failed ha ho hs hw => ?_⟩
  · obtain ⟨hwriting, -⟩ := hquiet hs
    have hF := s.found_eq failed
    have hE := s.endScan_archive_eq failed
    have hended : s.scanEnded failed = (s.found failed).enterRunning := by simp [State.scanEnded, hw, State.found]
    have hexec := State.exec_scanEnd failed ha ho hs
    have hacc := s.found_accounts failed
    have hindex := s.found_startIndex failed
    have hR := (s.found failed).enterRunning_eq
    obtain ⟨hA, hstate⟩ := (s.found failed).enterRunning_archive
    have hFa : (s.found failed).archive = (s.endScan failed).archive := rfl
    have hRaccounts : (s.scanRepair failed).accounts = s.accounts := by rw [State.scanRepair_eq]
    have hget (a : Fin 16) : ((s.found failed).enterRunning.accounts.get a) =
        { (s.scanRepair failed).foundAccounts.get a with
          recordIndex := (s.scanRepair failed).startIndex, part := 0, span := 1
          flags := ⟨false, false, false, false, s.settings.enabled.get a⟩ } := by
      have hen : (s.found failed).settings = s.settings := by rw [hF]
      rw [hR]
      simp [State.startAccounts, hindex, hacc, State.isEnabled, hen, IntervalFlags.clear]
    rw [hended] at hexec
    rw [hFa] at hA hstate
    have hclock : (s.found failed).enterRunning.clock.index = (s.scanRepair failed).startIndex := by
      rw [hR]
      exact hindex
    refine ⟨_, hexec, by rw [hR], ?_, ?_, fun a => ⟨?_, ?_, ?_, ?_, ?_⟩, ?_, ?_, fun hclean => ?_, ?_, ?_, ?_⟩
    · rw [hclock]
      refine State.findingsHanded_of hone ?_ ?_ ?_ ?_ (fun a => ?_) fun a => ?_
      · rw [hA, hE]
      · rw [hA, hE]
      · rw [hA, hE]
      · rw [hR, hF]
      · rw [hget]
      · rw [hget]
    · rw [hR, hF]
    · rw [hget, hclock]
    · rw [hget]
    · rw [hget]
    · rw [hget]
    · rw [hget, State.foundAccounts_get, hRaccounts]
    · rw [hA, hE]
    · rw [hA, hE]
    · obtain ⟨herr, hidle⟩ := State.endScan_idle hclean
      refine ⟨?_, ?_⟩
      · rw [hA, herr]
      · obtain h | ⟨-, h⟩ | ⟨h, -⟩ := hstate
        · exact .inl (h.trans hidle)
        · exact .inr h
        · rw [hE] at h
          exact absurd (hwriting.symm.trans h) (by decide)
    · rw [hR, hF]
    · rw [hR, hF]
    · rw [hR, hF]
  · have hF := s.found_eq failed
    have hE := s.endScan_archive_eq failed
    have hended : s.scanEnded failed = s.found failed := by simp [State.scanEnded, hw, State.found]
    have hexec := State.exec_scanEnd failed ha ho hs
    have hacc := s.found_accounts failed
    have hRaccounts : (s.scanRepair failed).accounts = s.accounts := by rw [State.scanRepair_eq]
    have hFa : (s.found failed).archive = (s.endScan failed).archive := rfl
    rw [hended] at hexec
    have hstarting : (s.endScan failed).archive.state ≠ .scanning := by
      by_cases h : ∃ g, (s.nv.segments.get g).unclean = true ∧ g ∈ failed
      · rw [(s.endScan_archive failed).1 h]
        exact ArchiveState.noConfusion
      · rw [(State.endScan_idle fun g hu hf => h ⟨g, hu, hf⟩).2]
        exact ArchiveState.noConfusion
    refine ⟨_, (s.scanRepair failed).startIndex, hexec, by rw [hF, ho], by rw [hF, hw], ?_, fun a => ?_, ?_,
      fun hclean => ?_, ?_, ?_, ?_⟩
    · refine State.findingsHanded_of hone ?_ ?_ ?_ ?_ (fun a => by rw [hacc]) fun a => by rw [hacc]
      · rw [hFa, hE]
      · rw [hFa, hE]
      · rw [hFa, hE]
      · rw [hF]
    · rw [hacc, State.foundAccounts_get, hRaccounts]
    · rw [hFa, hE]
    · exact State.endScan_idle hclean
    · rw [hF]
    · rw [hF]
    · have hline : (s.found failed).resetLine = s.resetLine ∧ (s.found failed).unpowered = s.unpowered := by
        rw [hF]
        exact ⟨rfl, rfl⟩
      have ha' : (s.found failed).stopped = false := by rw [State.stopped, hline.1, hline.2]; exact ha
      have ho' : (s.found failed).op = .starting := by rw [hF, ho]
      have hend : (s.setWarning false).scanEnded failed = ((s.found failed).setWarning false).enterRunning := by
        rw [← State.found_setWarning]
        rfl
      rw [State.exec_powerFailRelease_starting ha' ho' hstarting, ← hend]
      exact (State.exec_scanEnd (s := s.setWarning false) failed ha ho hs).symm

end Sys2Proof.Machine
end

section
/-! PROOFS. What a close does: the records formed, the accounts reset and extended, the page handed to the link (R103 to R107,
R110, R155, R156). Shared by every close. -/

/- The whole text is compiled as one file: these proofs are elaborated one after another, to stay within its memory. -/
set_option Elab.async false

namespace Sys2Proof.Machine

/-! ### Accounts after a close (R104, R106, R107) -/

theorem Account.afterClose_resetTo (acc : Account) (index part : Nat) (flags : IntervalFlags) (mask : BitVec 39) :
    acc.resetTo (acc.afterClose index part flags mask) index part flags mask :=
  ⟨rfl, fun i => by simp [Account.afterClose, Acc.afterClose], fun i => by simp [Account.afterClose, Acc.afterClose]⟩

theorem Account.extend_eq (acc : Account) (advances : Bool) : acc.extend advances =
    { acc with
      flags := { acc.flags with extended := true }
      span := if advances then min 255 (acc.span + 1) else acc.span } := rfl

namespace State

theorem mem_enabledAccounts (s : State) (a : Fin 16) : a ∈ s.enabledAccounts ↔ s.isEnabled a = true := by
  simp [enabledAccounts]

theorem enabledCount_eq (s : State) : s.enabledCount = s.enabledAccounts.length := rfl

theorem partialFormed_enabled {s : State} {a : Fin 16} (h : a ∈ s.partialFormed s.enabledAccounts) : s.isEnabled a = true :=
  (s.mem_enabledAccounts a).1 (List.mem_of_mem_take h)

/-! ### What every close reads -/

/-- `u` agrees with `s` in everything that the records and the accounts of a close are made of. -/
structure ClosesAs (s u : State) : Prop where
  accounts : u.accounts = s.accounts
  queue : u.queue = s.queue
  length : u.clock.length = s.clock.length
  settings : u.settings = s.settings
  selector : u.selector = s.selector
  tie : u.tie.state = s.tie.state

theorem ClosesAs.formRecord {s u : State} (h : s.ClosesAs u) (a : Fin 16) (cause : CloseCause)
    (reason : Option CloseReason) : u.formRecord a cause reason = s.formRecord a cause reason := by
  simp only [State.formRecord, h.accounts, h.length, h.settings, h.selector]

theorem ClosesAs.isEnabled {s u : State} (h : s.ClosesAs u) (a : Fin 16) : u.isEnabled a = s.isEnabled a := by
  simp only [State.isEnabled, h.settings]

theorem ClosesAs.peerMissing {s u : State} (h : s.ClosesAs u) (a : Fin 16) : u.peerMissing a = s.peerMissing a := by
  simp only [State.peerMissing, h.selector, h.tie]

/-! ### The close settled -/

theorem settleClose_eq (s : State) (concerned formed : List (Fin 16)) (cause : CloseCause) (reason : Option CloseReason)
    (index part : Nat) (aligned advances : Bool) :
    s.settleClose concerned formed cause reason index part aligned advances =
      { s with
        accounts := (s.settleClose concerned formed cause reason index part aligned advances).accounts
        queue := (s.settleClose concerned formed cause reason index part aligned advances).queue
        notices := (s.settleClose concerned formed cause reason index part aligned advances).notices } := by
  unfold settleClose
  generalize (!formed.isEmpty) = x
  generalize (concerned.any fun a => !formed.contains a) = y
  cases x <;> cases y <;> rfl

theorem settleClose_latched (s : State) (concerned formed : List (Fin 16)) (cause : CloseCause)
    (reason : Option CloseReason) (index part : Nat) (aligned advances : Bool) (i : Nat) :
    (s.settleClose concerned formed cause reason index part aligned advances).notices.latched.getLsbD i =
      (s.notices.latched.getLsbD i || (!formed.isEmpty && decide (16 = i)) ||
        (concerned.any (fun a => !formed.contains a) && decide (6 = i))) := by
  simp only [settleClose, latchIf_getLsbD, Notice.bit]
  by_cases h6 : 6 = i
  · subst h6
    simp
  · by_cases h16 : 16 = i
    · subst h16
      simp
    · simp [h6, h16]

/-- A close with nobody concerned changes nothing (R106). -/
theorem settleClose_nobody (s : State) (cause : CloseCause) (reason : Option CloseReason) (index part : Nat)
    (aligned advances : Bool) :
    (s.settleClose [] [] cause reason index part aligned advances).queue = s.queue ∧
    (s.settleClose [] [] cause reason index part aligned advances).accounts = s.accounts ∧
    (s.settleClose [] [] cause reason index part aligned advances).notices = s.notices := by
  refine ⟨by simp [settleClose_queue], Table.ext_get fun a => ?_, rfl⟩
  rw [settleClose_get]
  simp

/-- The close of every enabled account, records of `formed` (R103, R104, R106, R107). -/
theorem ClosesAs.closed {s u : State} (h : s.ClosesAs u) {formed : List (Fin 16)}
    (hf : ∀ a ∈ formed, s.isEnabled a = true) (cause : CloseCause) (reason : Option CloseReason) (index part : Nat)
    (aligned advances : Bool) :
    s.closed (u.settleClose s.enabledAccounts formed cause reason index part aligned advances) formed cause reason index part
      aligned advances := by
  refine ⟨?_, fun a ha => ?_, fun a he ha => ?_, fun a he => ?_, fun hne => ?_, fun ⟨a, he, ha⟩ => ?_⟩
  · rw [settleClose_queue, h.queue]
    simp only [h.formRecord]
  · rw [settleClose_get, if_pos (List.contains_iff_mem.2 ha), h.isEnabled, hf a ha, h.peerMissing, h.accounts, h.settings]
    exact Account.afterClose_resetTo _ _ _ _ _
  · rw [settleClose_get, if_neg (by simpa using ha), if_pos (by simpa [mem_enabledAccounts] using he), h.accounts]
    rfl
  · have hform : a ∉ formed := fun hm => by simp [hf a hm] at he
    rw [settleClose_get, if_neg (by simpa using hform), if_neg (by simp [mem_enabledAccounts, he]), h.accounts]
  · rw [settleClose_latched]
    simp [List.isEmpty_eq_false_iff.2 hne]
  · have hany : s.enabledAccounts.any (fun a => !formed.contains a) = true :=
      List.any_eq_true.2 ⟨a, (s.mem_enabledAccounts a).2 he, by simpa using ha⟩
    rw [settleClose_latched, hany]
    simp

/-- What a close does is read off queue, accounts and notices. -/
theorem closed_congr {s t u : State} {formed : List (Fin 16)} {cause : CloseCause} {reason : Option CloseReason}
    {index part : Nat} {aligned advances : Bool} (h : s.closed t formed cause reason index part aligned advances)
    (hq : u.queue = t.queue := by rfl) (ha : u.accounts = t.accounts := by rfl) (hn : u.notices = t.notices := by rfl) :
    s.closed u formed cause reason index part aligned advances := by
  unfold closed at *
  rwa [hq, ha, hn]

/-! ### The close handed to the link (R110, R155, R156) -/

/-- The close handed to the link, and its pair noted. -/
def handed (s : State) (reason : Option CloseReason) : State := (s.handClose reason).notePair

theorem handed_eq (s : State) (reason : Option CloseReason) : s.handed reason = { s with tie := (s.handed reason).tie } := by
  unfold handed handClose
  split <;> rfl

end State

theorem Tie.transmit_state (x : Tie) : x.transmit.state = x.state := by
  unfold Tie.transmit
  repeat' split
  all_goals rfl

theorem Tie.transmit_restartOpen (x : Tie) : x.transmit.restartOpen = x.restartOpen := by
  unfold Tie.transmit
  repeat' split
  all_goals rfl

theorem Tie.closeDue_state (x : Tie) (b : CloseBody) : (x.closeDue b).state = x.state := by
  unfold Tie.closeDue
  repeat' split
  all_goals rfl

theorem Tie.closeDue_restartOpen (x : Tie) (b : CloseBody) : (x.closeDue b).restartOpen = x.restartOpen := by
  unfold Tie.closeDue
  repeat' split
  all_goals rfl

namespace State

theorem handed_state (s : State) (reason : Option CloseReason) : (s.handed reason).tie.state = s.tie.state := by
  unfold handed handClose
  split
  · exact (Tie.transmit_state _).trans (Tie.closeDue_state _ _)
  · rfl

theorem handed_restartOpen (s : State) (reason : Option CloseReason) :
    (s.handed reason).tie.restartOpen = s.tie.restartOpen := by
  unfold handed handClose
  split
  · exact (Tie.transmit_restartOpen _).trans (Tie.closeDue_restartOpen _ _)
  · rfl

/-- Only a PAIRED_PRIMARY unit makes a CLOSE page (R155). -/
theorem handed_tie {s : State} (h : s.tie.state ≠ .pairedPrimary) (reason : Option CloseReason) :
    (s.handed reason).tie = { s.tie with lastPair := some (s.clock.index, s.clock.part) } := by
  simp [handed, handClose, h, notePair, onTie]

theorem handed_closesAs (s : State) (reason : Option CloseReason) : s.ClosesAs (s.handed reason) := by
  have h := s.handed_eq reason
  have ht := s.handed_state reason
  generalize s.handed reason = u at h ht
  generalize u.tie = x at h ht
  subst h
  exact ⟨rfl, rfl, rfl, rfl, rfl, ht⟩

theorem ClosesAs.trans {s t u : State} (h : s.ClosesAs t) (k : t.ClosesAs u) : s.ClosesAs u where
  accounts := k.accounts.trans h.accounts
  queue := k.queue.trans h.queue
  length := k.length.trans h.length
  settings := k.settings.trans h.settings
  selector := k.selector.trans h.selector
  tie := k.tie.trans h.tie

/-! ### The normal close (R95, R105, R106) -/

/-- A normal close: the records and accounts of it, the page handed, and the clock. -/
theorem normalClose_eq (s : State) (cause : CloseCause) (aligned lateOpen : Bool) :
    s.normalClose cause aligned lateOpen =
      { ((s.handed none).settleClose s.enabledAccounts (if s.normalForms then s.enabledAccounts else []) cause none
          s.clock.nextPair.1 s.clock.nextPair.2 aligned true) with
        clock := s.clock.restart s.clock.nextPair aligned lateOpen } := rfl

theorem normalClose_closed (s : State) (cause : CloseCause) (aligned lateOpen : Bool) :
    s.closed (s.normalClose cause aligned lateOpen) (if s.normalForms then s.enabledAccounts else []) cause none
      s.clock.nextPair.1 s.clock.nextPair.2 aligned true := by
  have hf : ∀ a ∈ (if s.normalForms then s.enabledAccounts else []), s.isEnabled a = true := fun a ha => by
    split at ha
    · exact (s.mem_enabledAccounts a).1 ha
    · cases ha
  exact closed_congr ((s.handed_closesAs none).closed hf cause none s.clock.nextPair.1 s.clock.nextPair.2 aligned true)

theorem normalClose_tie (s : State) (cause : CloseCause) (aligned lateOpen : Bool) :
    (s.normalClose cause aligned lateOpen).tie = (s.handed none).tie := by
  rw [normalClose_eq, settleClose_eq]

theorem normalClose_same (s : State) (cause : CloseCause) (aligned lateOpen : Bool) :
    s.sameButClose (s.normalClose cause aligned lateOpen) := by
  have h := s.handed_eq none
  rw [sameButClose, normalClose_eq, settleClose_eq]
  generalize s.handed none = u at h ⊢
  generalize u.tie = x at h
  subst h
  rfl

theorem normalForms_room_iff {s : State} (hi : s.clock.index < Config.max32) (h : s.enabledAccounts ≠ []) :
    s.normalForms = true ↔ s.queue.length + s.enabledAccounts.length ≤ 32 := by
  have hne : s.enabledAccounts.length ≠ 0 := mt List.length_eq_zero_iff.1 h
  have hx : s.clock.exhausted = false := by simp [Clock.exhausted, Nat.ne_of_lt hi]
  simp only [normalForms, closeRoom, hx, enabledCount_eq, beq_eq_false_iff_ne.2 hne, Bool.false_or, Bool.not_false,
    Bool.and_true, Config.normalPlaces]
  exact ⟨of_decide_eq_true, fun h => decide_eq_true h⟩

/-- A normal close is taken (R95, R103 to R106, R110). -/
theorem normalClose_taken (s : State) (cause : CloseCause) (aligned lateOpen : Bool) :
    s.normalTaken (s.normalClose cause aligned lateOpen) cause aligned lateOpen := by
  have hclosed := s.normalClose_closed cause aligned lateOpen
  refine ⟨fun hi => ⟨?_, fun hroom => ?_, fun hroom hne => ?_, fun hnone => ?_⟩, fun hi => ⟨?_, rfl, ?_, fun hp => ?_⟩,
    fun ht => ?_, s.normalClose_same cause aligned lateOpen⟩
  · rw [normalClose_eq]
    simp [Clock.restart, Clock.nextPair, hi]
  · have hpair : s.clock.nextPair = (s.clock.index + 1, 0) := by simp [Clock.nextPair, hi]
    have hform : (if s.normalForms then s.enabledAccounts else []) = s.enabledAccounts := by
      by_cases hne : s.enabledAccounts = []
      · simp [hne]
      · rw [if_pos ((normalForms_room_iff hi hne).2 hroom)]
    rwa [hform, hpair] at hclosed
  · have hpair : s.clock.nextPair = (s.clock.index + 1, 0) := by simp [Clock.nextPair, hi]
    have hform : (if s.normalForms then s.enabledAccounts else []) = [] :=
      if_neg fun h => Nat.not_le_of_lt hroom ((normalForms_room_iff hi hne).1 h)
    rwa [hform, hpair] at hclosed
  · have h := (s.handed none).settleClose_nobody cause none s.clock.nextPair.1 s.clock.nextPair.2 aligned true
    have hc := s.handed_eq none
    rw [normalClose_eq, hnone, ite_self]
    obtain ⟨hq, ha, hn⟩ := h
    refine ⟨hq.trans ?_, ha.trans ?_, hn.trans ?_⟩ <;> rw [hc]
  · rw [normalClose_eq]
    simp [Clock.restart, Clock.nextPair, hi]
  · rw [normalClose_eq]
    simp [Clock.restart, Clock.nextPair, hi]
  · have hform : s.normalForms = false := by simp [normalForms, Clock.exhausted, hi, hp]
    rw [hclosed.1, hform]
    simp
  · rw [normalClose_tie, handed_tie ht]

/-! ### The partial close (R107) -/

theorem partialCount_eq (s : State) : s.partialCount = s.partialPlaces := rfl

theorem partAfter_eq (s : State) (formed : List (Fin 16)) :
    s.partAfter formed = if formed = [] then s.clock.part else s.clock.part + 1 := by
  cases formed <;> rfl

/-- A partial close of every enabled account that leaves the clock where it is: from a state that closes as `s` does. -/
theorem partialClose_taken {s u : State} (h : s.ClosesAs u) (hclock : u.clock = s.clock) {reason : CloseReason}
    (hr : reason ≠ .disable)
    (ht : s.tie.state ≠ .pairedPrimary → ({ u.tie with lastPair := s.tie.lastPair } : Tie) = s.tie) :
    s.partialTaken (u.partialClose u.enabledAccounts .localPartial reason) reason := by
  have hen : u.enabledAccounts = s.enabledAccounts := by
    simp only [enabledAccounts, h.isEnabled]
  have hform : u.partialFormed u.enabledAccounts = s.enabledAccounts.take s.partialCount := by
    rw [partialFormed, hen, partialCount_eq, partialPlaces, partialPlaces, hclock, h.queue]
  have hpart : u.partAfter (s.enabledAccounts.take s.partialCount) =
      if s.enabledAccounts.take s.partialCount = [] then s.clock.part else s.clock.part + 1 := by
    rw [partAfter_eq, hclock]
  have hdis : (reason == .disable) = false := beq_eq_false_iff_ne.2 hr
  have hu : u.partialClose u.enabledAccounts .localPartial reason =
      { ((u.handed (some reason)).settleClose s.enabledAccounts (s.enabledAccounts.take s.partialCount) .localPartial
          (some reason) s.clock.index
          (if s.enabledAccounts.take s.partialCount = [] then s.clock.part else s.clock.part + 1) s.clock.aligned false) with
        clock := { s.clock with
          part := if s.enabledAccounts.take s.partialCount = [] then s.clock.part else s.clock.part + 1 } } := by
    rw [partialClose, hdis, hform, hpart, hclock, hen]
    rfl
  rw [hu]
  refine ⟨closed_congr ((h.trans (u.handed_closesAs _)).closed (fun a ha => ?_) .localPartial (some reason) s.clock.index _
    s.clock.aligned false), rfl, fun hp => ?_⟩
  · exact (s.mem_enabledAccounts a).1 (List.mem_of_mem_take ha)
  · rw [settleClose_eq]
    have htie := handed_tie (s := u) (by rwa [h.tie]) (some reason)
    rw [hclock] at htie
    have hs := ht hp
    generalize u.tie = x at htie hs
    rw [← hs]
    exact htie

end State
end Sys2Proof.Machine
end

section
/-! PROOFS. The power-fail path and the restart path (O6, O7): the partial close that begins them, the end of the drain, the
return and the power-on start. -/

/- The whole text is compiled as one file: these proofs are elaborated one after another, to stay within its memory. -/
set_option Elab.async false

namespace Sys2Proof.Machine
namespace State

/-! ### The reclaim test read off archive, memories, settings, operating state and notices -/

theorem reclaimTested_congr {s u t : State} (h : s.reclaimTested t) (ha : u.archive = s.archive := by rfl)
    (hn : u.nv = s.nv := by rfl) (hs : u.settings = s.settings := by rfl) (ho : u.op = s.op := by rfl)
    (hx : u.notices = s.notices := by rfl) : u.reclaimTested t := by
  cases s
  cases u
  dsimp only at ha hn hs ho hx
  subst ha hn hs ho hx
  exact h

/-- Outside CLOSING and DORMANT a reclaim test is the one of R121. -/
theorem reclaimTest_tested {s : State} (h : s.closing = false) : s.reclaimTested s.reclaimTest := by
  have ht := s.reclaimTestRunning_tested
  rwa [reclaimTestRunning, h, if_neg Bool.false_ne_true] at ht

/-! ### The erase suspended (R124, R138) -/

theorem resumeErase_eq (s : State) : s.resumeErase =
    { s with archive := { s.archive with
        state := if s.archive.state = .suspended ∧ s.archive.writing = false then .reclaiming else s.archive.state } } := by
  unfold resumeErase onArchive
  by_cases h : s.archive.state = .suspended ∧ s.archive.writing = false
  · obtain ⟨hs, hw⟩ := h
    simp [hs, hw]
  · have hc : (s.archive.state == .suspended && !s.archive.writing) = false := by simpa using h
    rw [if_neg h]
    simp only [hc]
    rfl

theorem settleErase_eq (s : State) :
    s.settleErase = { s with archive := { s.archive with state := s.settleErase.archive.state } } := by
  obtain h | h := s.settleErase_cases
  · rw [h]
  · rw [h, resumeErase_eq]

/-- The archive with a running reclaim erase suspended (R138). -/
def erasePaused (s : State) : State :=
  s.onArchive fun a => if a.state == .reclaiming then { a with state := .suspended } else a

theorem erasePaused_eq (s : State) : s.erasePaused = { s with archive := { s.archive with
    state := if s.archive.state = .reclaiming then .suspended else s.archive.state } } := by
  unfold erasePaused onArchive
  by_cases h : s.archive.state = .reclaiming
  · simp [h]
  · simp [h]

theorem suspendErase_eq (s : State) :
    s.suspendErase = { s with archive := { s.archive with state := s.suspendErase.archive.state } } := by
  have h : s.suspendErase = s.erasePaused.settleErase := rfl
  rw [h, settleErase_eq, erasePaused_eq]

/-- What the writer needs is not read off the archive's state. -/
theorem fits_erasePaused (s : State) (n : Nat) : s.erasePaused.fits n = s.fits n := by
  rw [erasePaused_eq]
  rfl

theorem nextSegment_erasePaused (s : State) : s.erasePaused.nextSegment = s.nextSegment := by
  rw [erasePaused_eq]
  rfl

/-- While closing a paused erase resumes only for a record that needs its segment (R138). -/
theorem settleErase_closing {s : State} (hc : s.closing = true) :
    s.settleErase = if (∃ r, s.queue.head? = some r ∧ s.fits r.bytes.length = false) ∧
      s.archive.erase ≠ none ∧ s.nextSegment = s.archive.erase then s.resumeErase else s := by
  have hnext : s.nextUnderErase = true ↔ s.archive.erase ≠ none ∧ s.nextSegment = s.archive.erase := by
    simp [nextUnderErase, Option.isSome_iff_ne_none]
  cases hq : s.queue.head? with
  | none => simp [settleErase, oldest, hq, hc]
  | some r =>
    simp only [settleErase, oldest, hq, Option.map_some, hc, Bool.true_and, Option.some.injEq, exists_eq_left']
    by_cases hf : s.fits r.bytes.length = true
    · simp [hf]
    · rw [Bool.not_eq_true] at hf
      by_cases hn : s.nextUnderErase = true
      · have hn' := hnext.1 hn
        simp [hf, hn, hn'.1, hn'.2]
      · have hcond : (s.fits r.bytes.length || !s.nextUnderErase) = true := by simp [Bool.eq_false_iff.2 hn]
        rw [if_pos hcond, if_neg fun h => hn (hnext.2 h.2)]

theorem suspendErase_suspended {s : State} (hc : s.closing = true) (hs : s.archive.state = .reclaiming)
    (h : ∀ r, s.queue.head? = some r → s.fits r.bytes.length = true ∨ s.nextSegment ≠ s.archive.erase ∨
      s.archive.erase = none) : s.suspendErase.archive.state = .suspended := by
  have hc' : s.erasePaused.closing = true := hc
  have hq : s.erasePaused.queue = s.queue := rfl
  have he : s.erasePaused.archive.erase = s.archive.erase := by rw [erasePaused_eq]
  have hno : ¬ ((∃ r, s.queue.head? = some r ∧ s.fits r.bytes.length = false) ∧
      s.archive.erase ≠ none ∧ s.nextSegment = s.archive.erase) := fun ⟨⟨r, hr, hf⟩, hne, hn⟩ => by
    obtain hf' | hn' | he' := h r hr
    · exact Bool.false_ne_true (hf.symm.trans hf')
    · exact hn' hn
    · exact hne he'
  have : s.suspendErase = s.erasePaused.settleErase := rfl
  rw [this, settleErase_closing hc']
  simp only [fits_erasePaused, nextSegment_erasePaused, hq, he, if_neg hno]
  rw [erasePaused_eq]
  simp [hs]

theorem suspendErase_reclaiming {s : State} (hc : s.closing = true) (hs : s.archive.state = .reclaiming)
    (hw : s.archive.writing = false) (he : s.archive.erase ≠ none) (hn : s.nextSegment = s.archive.erase) {r : Record}
    (hr : s.queue.head? = some r) (hf : s.fits r.bytes.length = false) :
    s.suspendErase.archive.state = .reclaiming := by
  have hc' : s.erasePaused.closing = true := hc
  have hq : s.erasePaused.queue = s.queue := rfl
  have her : s.erasePaused.archive.erase = s.archive.erase := by rw [erasePaused_eq]
  have hwr : s.erasePaused.archive.writing = false := by rw [erasePaused_eq, hw]
  have hst : s.erasePaused.archive.state = .suspended := by rw [erasePaused_eq, if_pos hs]
  have hdue : (∃ r, s.queue.head? = some r ∧ s.fits r.bytes.length = false) ∧
      s.archive.erase ≠ none ∧ s.nextSegment = s.archive.erase := ⟨⟨r, hr, hf⟩, he, hn⟩
  have : s.suspendErase = s.erasePaused.settleErase := rfl
  rw [this, settleErase_closing hc']
  simp only [fits_erasePaused, nextSegment_erasePaused, hq, her, if_pos hdue]
  rw [resumeErase_eq, if_pos ⟨hst, hwr⟩]

/-! ### CLOSING entered (R107, R184, R185) -/

/-- The state in which a path's partial close is taken. -/
def closingOn (s : State) (p : Path) : State := ({ s with op := .closing, path := some p }).openRestartPage p

/-- The part in CLOSING with the path's partial close taken. -/
def closedOn (s : State) (p : Path) : State :=
  (s.closingOn p).partialClose (s.closingOn p).enabledAccounts .localPartial p.reason

theorem enterClosing_def (s : State) (p : Path) : s.enterClosing p = (s.closedOn p).suspendErase := rfl

theorem partialClose_eq (s : State) (concerned : List (Fin 16)) (cause : CloseCause) (reason : CloseReason)
    (hr : reason ≠ .disable) : s.partialClose concerned cause reason =
      { s with
        accounts := (s.partialClose concerned cause reason).accounts
        queue := (s.partialClose concerned cause reason).queue
        clock := { s.clock with part := s.partAfter (s.partialFormed concerned) }
        notices := (s.partialClose concerned cause reason).notices
        tie := (s.handed (some reason)).tie } := by
  have hdis : (reason == .disable) = false := beq_eq_false_iff_ne.2 hr
  have hh := s.handed_eq (some reason)
  have hp : s.partialClose concerned cause reason =
      { ((s.handed (some reason)).settleClose concerned (s.partialFormed concerned) cause (some reason) s.clock.index
          (s.partAfter (s.partialFormed concerned)) s.clock.aligned false) with
        clock := { s.clock with part := s.partAfter (s.partialFormed concerned) } } := by
    rw [partialClose, hdis]
    rfl
  rw [hp, settleClose_eq]
  generalize s.handed (some reason) = u at hh
  generalize u.tie = x at hh
  subst hh
  rfl

theorem Path.reason_ne_disable (p : Path) : p.reason ≠ .disable := by cases p <;> decide

theorem closedOn_eq (s : State) (p : Path) : s.closedOn p =
    { s with
      op := .closing, path := some p, accounts := (s.closedOn p).accounts, queue := (s.closedOn p).queue
      clock := (s.closedOn p).clock, notices := (s.closedOn p).notices, tie := (s.closedOn p).tie } := by
  have h := (s.closingOn p).partialClose_eq (s.closingOn p).enabledAccounts .localPartial p.reason (Path.reason_ne_disable p)
  have hd : s.closedOn p = (s.closingOn p).partialClose (s.closingOn p).enabledAccounts .localPartial p.reason := rfl
  rw [← hd] at h
  generalize s.closedOn p = u at h
  rw [h]
  rfl

theorem closedOn_taken (s : State) (p : Path) : s.partialTaken (s.closedOn p) p.reason := by
  have hc : s.ClosesAs (s.closingOn p) := ⟨rfl, rfl, rfl, rfl, rfl, rfl⟩
  refine partialClose_taken hc rfl (Path.reason_ne_disable p) fun h => ?_
  have hb : (p == .restart && s.tie.state == .pairedPrimary) = false := by simp [h]
  simp [closingOn, openRestartPage, onTie, hb]

theorem closedOn_restartOpen (s : State) (p : Path) : (s.closedOn p).tie.restartOpen =
    (s.tie.restartOpen || (p == .restart && s.tie.state == .pairedPrimary)) := by
  have h := (s.closingOn p).partialClose_eq (s.closingOn p).enabledAccounts .localPartial p.reason (Path.reason_ne_disable p)
  have hd : s.closedOn p = (s.closingOn p).partialClose (s.closingOn p).enabledAccounts .localPartial p.reason := rfl
  rw [hd, h]
  exact (s.closingOn p).handed_restartOpen _

theorem partialTaken_congr {s t u : State} {reason : CloseReason} (h : s.partialTaken t reason)
    (hq : u.queue = t.queue := by rfl) (ha : u.accounts = t.accounts := by rfl) (hn : u.notices = t.notices := by rfl)
    (hc : u.clock = t.clock := by rfl) (ht : u.tie = t.tie := by rfl) : s.partialTaken u reason := by
  obtain ⟨hclosed, hclock, htie⟩ := h
  exact ⟨closed_congr hclosed hq ha hn, hc.trans hclock, fun hp => ht.trans (htie hp)⟩

theorem enterClosing_eq (s : State) (p : Path) : s.enterClosing p =
    { s with
      op := .closing, path := some p, accounts := (s.closedOn p).accounts, queue := (s.closedOn p).queue
      clock := (s.closedOn p).clock, notices := (s.closedOn p).notices, tie := (s.closedOn p).tie
      archive := { s.archive with state := (s.enterClosing p).archive.state } } := by
  have h := (s.closedOn p).suspendErase_eq
  have hc := s.closedOn_eq p
  rw [← enterClosing_def] at h
  generalize s.closedOn p = u at h hc ⊢
  generalize (s.enterClosing p).archive.state = x at h ⊢
  rw [h, hc]

theorem enterClosing_taken (s : State) (p : Path) : s.partialTaken (s.enterClosing p) p.reason := by
  have h := s.enterClosing_eq p
  refine partialTaken_congr (s.closedOn_taken p) ?_ ?_ ?_ ?_ ?_ <;> rw [h]

/-- What the writer needs is the same before and after CLOSING pauses the erase. -/
theorem enterClosing_needs (s : State) (p : Path) : (s.enterClosing p).queue = (s.closedOn p).queue ∧
    (∀ n, (s.enterClosing p).fits n = (s.closedOn p).fits n) ∧
    (s.enterClosing p).nextSegment = (s.closedOn p).nextSegment := by
  have h := (s.closedOn p).suspendErase_eq
  rw [← enterClosing_def] at h
  rw [h]
  exact ⟨rfl, fun _ => rfl, rfl⟩

theorem closedOn_kept (s : State) (p : Path) : (s.closedOn p).closing = true ∧ (s.closedOn p).archive = s.archive := by
  rw [closedOn_eq]
  exact ⟨rfl, rfl⟩

/-- A running reclaim erase is SUSPENDED in CLOSING unless the oldest record needs its segment (R138). -/
theorem enterClosing_suspended {s : State} {p : Path} (hs : s.archive.state = .reclaiming)
    (h : ∀ r, (s.enterClosing p).queue.head? = some r → (s.enterClosing p).fits r.bytes.length = true ∨
      (s.enterClosing p).nextSegment ≠ s.archive.erase ∨ s.archive.erase = none) :
    (s.enterClosing p).archive.state = .suspended := by
  obtain ⟨hq, hf, hn⟩ := s.enterClosing_needs p
  obtain ⟨hc, ha⟩ := s.closedOn_kept p
  simp only [hq, hf, hn] at h
  rw [enterClosing_def]
  refine suspendErase_suspended hc ?_ ?_ <;> rw [ha]
  · exact hs
  · exact h

theorem enterClosing_reclaiming {s : State} {p : Path} (hs : s.archive.state = .reclaiming)
    (hw : s.archive.writing = false) (he : s.archive.erase ≠ none)
    (hnext : (s.enterClosing p).nextSegment = s.archive.erase) {r : Record}
    (hr : (s.enterClosing p).queue.head? = some r) (hfit : (s.enterClosing p).fits r.bytes.length = false) :
    (s.enterClosing p).archive.state = .reclaiming := by
  obtain ⟨hq, hf, hn⟩ := s.enterClosing_needs p
  obtain ⟨hc, ha⟩ := s.closedOn_kept p
  rw [hq] at hr
  rw [hf] at hfit
  rw [hn] at hnext
  rw [enterClosing_def]
  refine suspendErase_reclaiming hc ?_ ?_ ?_ ?_ hr hfit <;> rw [ha] <;> assumption

/-! ### The end of the drain (R184) -/

theorem exec_enterDormant {s : State} (ha : s.stopped = false) : exec .enterDormant s = .next s.enterDormant := by
  have h : exec .enterDormant s = .next (s.whenAlive State.enterDormant) := rfl
  rw [h, whenAlive_running _ _ ha]

theorem enterDormant_drained {s : State} (ho : s.op = .closing) (hp : s.path = some .powerFail) (h : s.drained = true) :
    s.enterDormant = { s with op := .dormant } := by
  simp [enterDormant, ho, hp, h]

theorem enterDormant_waits {s : State} (h : s.drained = false) : s.enterDormant = s := by
  simp [enterDormant, h]

/-- With nothing queued or the archive STOPPED the drain ends with the write in progress (R184). -/
theorem drained_of_empty {s : State} (hw : s.archive.writing = false) (h : s.queue = [] ∨ s.archive.state = .stopped) :
    s.drained = true := by
  obtain h | h := h
  · simp [drained, hw, h]
  · simp [drained, hw, writerWaits, h]

theorem drained_of_held {s : State} {r : Record} {rest : List Record} (hw : s.archive.writing = false)
    (hs : s.archive.state = .idle) (hq : s.queue = r :: rest) (hf : s.fits r.bytes.length = false)
    (h : s.nextSegment = none ∨ ∃ g, s.nextSegment = some g ∧ (s.nv.segments.get g).marker = .full ∧
      s.reclaimAllowed g = false) : s.drained = true := by
  have hold : s.oldest = some r.bytes := by simp [oldest, hq]
  have hfree : s.writerFree = true := by simp [writerFree, hw, hs]
  have hwaits : s.writerWaits = true := by
    rw [writerWaits, hold, hfree]
    obtain h | ⟨g, hg, hm, hr⟩ := h
    · simp [hf, h]
    · simp [hf, hg, seg, hm, hr]
  simp [drained, hw, hwaits]

theorem not_drained_of_fits {s : State} {r : Record} {rest : List Record} (hs : s.archive.state = .idle)
    (hq : s.queue = r :: rest) (hf : s.fits r.bytes.length = true) : s.drained = false := by
  have hold : s.oldest = some r.bytes := by simp [oldest, hq]
  have hwaits : s.writerWaits = false := by simp [writerWaits, hold, hs, hf]
  simp [drained, hwaits, hq]

/-! ### The return to RUNNING (R138, R184) -/

theorem returnRunning_spec {s : State} : ({ s with
      op := .running
      archive := { s.archive with
        state := if s.archive.state = .suspended ∧ s.archive.writing = false then .reclaiming
          else s.archive.state } } : State).reclaimTested s.returnRunning ∧
    s.returnRunning = { s with
      op := .running, path := none, archive := s.returnRunning.archive, notices := s.returnRunning.notices
      nv := { s.nv with segments := s.returnRunning.nv.segments } } := by
  have hb := resumeErase_eq { s with op := .running, path := none }
  have hd : s.returnRunning = (resumeErase { s with op := .running, path := none }).reclaimTest := rfl
  have hframe := (resumeErase { s with op := .running, path := none }).reclaimTest_eq
  rw [← hd, hb] at hframe
  rw [hb] at hd
  refine ⟨?_, hframe⟩
  rw [hd]
  exact reclaimTested_congr (reclaimTest_tested rfl)

/-! ### The restart path (R171, R185) -/

theorem exec_restartPathEnd {s : State} (ha : s.stopped = false) : exec .restartPathEnd s = .next s.restartEnd := by
  have h : exec .restartPathEnd s = .next (s.whenAlive State.restartEnd) := rfl
  rw [h, whenAlive_running _ _ ha]

/-- RESTART is answered, the part going on (R171). -/
theorem exec_restart {s : State} (h : s.ready) (tag : Byte) : exec (.restart tag []) s =
    .next { s with msg := ⟨[⟨0x7F, tag, []⟩], some ⟨0xFF, tag, .done, [], true⟩, false⟩ } := by
  have hreq : exec (.restart tag []) s = .next (s.whenAlive fun u => u.request .restart tag []) := rfl
  have hans : (s.holding ⟨Kind.restart.code, tag, []⟩).answerKind .restart [] =
      (s.holding ⟨Kind.restart.code, tag, []⟩).doneNow :=
    answerKind_served _ .restart [] h.2 rfl rfl
  rw [hreq, request_ready h, hans]
  rfl

/-- The last byte of the reply to RESTART enters CLOSING, with both places free (R162, R171, R185). -/
theorem exec_replySent_restart {s : State} {f : HostFrame} {r : Reply} (ha : s.stopped = false)
    (hm : s.msg = ⟨[f], some r, false⟩) (hr : r.restart = true) :
    exec .replySent s = .next { s.enterClosing .restart with msg := ⟨[], none, false⟩ } := by
  have h : exec .replySent s = .next (s.whenAlive State.replySent) := rfl
  have hmsg : (s.enterClosing .restart).msg = ⟨[f], some r, false⟩ := by rw [enterClosing_eq, ← hm]
  rw [h, whenAlive_running _ _ ha, replySent, hm]
  simp [hr, freePlace, hmsg, dispatch]

/-- The power-on start at the end of the restart path is the one of the reset line (R183, R185). -/
theorem powerOnStart_resetLine (s : State) (ha : s.stopped = false) :
    exec .resetRelease { s with resetLine := true } = .next s.powerOnStart := by
  have hline : ({ s with resetLine := false } : State) = s := by
    have hs : s.resetLine = false := by
      rw [stopped, Bool.or_eq_false_iff] at ha
      exact ha.1
    rw [← hs]
  have h : exec .resetRelease { s with resetLine := true } =
      .next ({ s with resetLine := false } : State).startUnlessStopped := rfl
  rw [h, hline, startUnlessStopped, ha]
  rfl

theorem restartEnd_ended {s : State} (h : s.restartEnded = true) : s.restartEnd =
    { s.powerOnStart with msg := if s.msg.reply = none then ⟨[], none, false⟩ else { s.msg with abandon := true } } := by
  rw [restartEnd, if_pos h]
  cases s.msg.reply <;> rfl

end State

/-- Settles O6: the partial close of the path, what ends the drain, and the return. -/
theorem powerFailPath : Obligations.PowerFailPath := by
  refine ⟨fun s ha ho => ?_, fun s h => ?_, fun s ha hp => ⟨fun ho hw h => ?_, fun r rest ho hw hs he hq hf h => ?_,
    fun r rest ho hs hq hf => ?_, fun ho hw => ?_, fun ho => ?_⟩⟩
  · have hexec : exec .powerFailAssert s = .next ((s.setWarning true).enterClosing .powerFail) := by
      have h : exec .powerFailAssert s = .next ((s.setWarning true).whenAlive State.powerFail) := rfl
      have ha' : (s.setWarning true).stopped = false := ha
      have ho' : (s.setWarning true).op = .running := ho
      rw [h, State.whenAlive_running _ _ ha', State.powerFail, ho']
      rfl
    have heq := (s.setWarning true).enterClosing_eq .powerFail
    refine ⟨_, hexec, by rw [heq], by rw [heq], by rw [heq]; rfl, (s.setWarning true).enterClosing_taken .powerFail,
      fun hs h => ?_, fun hs hw he hnext r hr hfit => ?_, by rw [heq]; rfl, by rw [heq]; rfl⟩
    · exact State.enterClosing_suspended (s := s.setWarning true) hs h
    · exact State.enterClosing_reclaiming (s := s.setWarning true) hs hw he hnext hr hfit
  · have hexec : exec .powerFailAssert s = .next ((s.setWarning true).whenAlive State.powerFail) := rfl
    rw [hexec]
    obtain h | h := h
    · rw [State.whenAlive_stopped (s.setWarning true) _ h]
      rfl
    · have hp : (s.setWarning true).powerFail = s.setWarning true := if_neg (by simpa [State.setWarning] using h)
      unfold State.whenAlive
      rw [hp, ite_self]
      rfl
  · rw [State.exec_enterDormant ha, State.enterDormant_drained ho hp (State.drained_of_empty hw h)]
  · rw [State.exec_enterDormant ha, State.enterDormant_drained ho hp (State.drained_of_held hw hs hq hf h)]
  · rw [State.exec_enterDormant ha, State.enterDormant_waits (State.not_drained_of_fits hs hq hf)]
  · rw [State.exec_enterDormant ha, State.enterDormant_waits (by simp [State.drained, hw])]
  · have hc : (s.setWarning false).closing = true := (State.closing_iff _).2 ho
    have hexec : exec .powerFailRelease s = .next (s.setWarning false).returnRunning := by
      have h : exec .powerFailRelease s = .next ((s.setWarning false).whenAlive State.powerFailRelease) := rfl
      have ha' : (s.setWarning false).stopped = false := ha
      have hp' : (s.setWarning false).path = some .powerFail := hp
      rw [h, State.whenAlive_running _ _ ha', State.powerFailRelease, hc, hp']
      rfl
    obtain ⟨htest, hframe⟩ := State.returnRunning_spec (s := s.setWarning false)
    exact ⟨_, hexec, by rw [hframe], by rw [hframe], by rw [hframe]; rfl, State.reclaimTested_congr htest,
      by rw [hframe]; rfl⟩

/-- Settles O7: the reply, CLOSING on its last byte, and the start at the path's end. -/
theorem restartPath : Obligations.RestartPath := by
  refine ⟨fun s tag h => State.exec_restart h tag, fun s f r ha ho hm hr => ?_, fun s ha ho hp => ⟨fun hw hd hstore hopen => ?_,
    fun h => ?_⟩⟩
  · have heq := s.enterClosing_eq .restart
    have hopen : (s.enterClosing .restart).tie.restartOpen = _ := (congrArg (·.tie.restartOpen) heq).trans (s.closedOn_restartOpen .restart)
    refine ⟨_, State.exec_replySent_restart ha hm hr, ?_, ?_, rfl, State.partialTaken_congr (s.enterClosing_taken .restart),
      fun ht => ?_, fun ht => ?_, ?_⟩
    · exact congrArg State.op heq
    · exact congrArg State.path heq
    · simp [hopen, ht]
    · simp [hopen, ht]
    · rw [heq]
  · have hended : s.restartEnded = true := by
      simp [State.restartEnded, ho, hp, State.drained_of_empty hw hd, State.storeBusy, hstore, hopen]
    exact ⟨_, s.powerOnStart_resetLine ha, by rw [State.exec_restartPathEnd ha, State.restartEnd_ended hended]⟩
  · have hended : s.restartEnded = false := by
      obtain h | h | h := h
      · simp [State.restartEnded, State.drained, h]
      · simp [State.restartEnded, State.storeBusy, Option.isSome_iff_ne_none.2 h]
      · simp [State.restartEnded, h]
    rw [State.exec_restartPathEnd ha, State.restartEnd, if_neg (by simp [hended])]

end Sys2Proof.Machine
end

section
/-! PROOFS. The lane intake between raw samples (O8): frames, timeouts, and the entries into DOWN and UP. -/

/- The whole text is compiled as one file: these proofs are elaborated one after another, to stay within its memory. -/
set_option Elab.async false

namespace Sys2Proof.Machine

/-! ### What a latching leaves of the notice unit (R173, R174) -/

theorem bump_eq (c : Nat) : bump c = min 65535 (c + 1) := rfl

namespace State

/-- A latching changes notices alone (R173). -/
theorem latch_eq (s : State) (x : Notice) : s.latch x = { s with notices := (s.latch x).notices } := rfl

theorem latchIf_eq (s : State) (b : Bool) (x : Notice) : s.latchIf b x = { s with notices := (s.latchIf b x).notices } := by
  cases b <;> rfl

/-- Recording the latched-low conditions changes them alone (R174). -/
theorem recordLows_eq (s : State) :
    s.recordLows = { s with notices := { s.notices with lows := s.notices.lows ||| s.presentBad } } := rfl

theorem presentBad_lanes (s : State) : s.presentBad.getLsbD 2 = s.lanesBad := (s.presentBad_getLsbD).2.2.1

/-- A lane that is DOWN and carries a channel of nonzero scale makes LANES_OK bad (R174 (2)). -/
theorem lanesBad_of {s : State} {l : Fin 4} (hd : (s.lanes.get l).up = false) (hu : s.laneUsed l = true) :
    s.lanesBad = true :=
  List.any_eq_true.2 ⟨l, List.mem_finRange l, by simp [hd, hu]⟩

theorem recordLows_lanesBad {s : State} {l : Fin 4} (hd : (s.lanes.get l).up = false) (hu : s.laneUsed l = true) :
    s.recordLows.notices.lows.getLsbD 2 = true := by
  rw [recordLows_eq]
  refine (BitVec.getLsbD_or ..).trans ?_
  rw [presentBad_lanes, lanesBad_of hd hu, Bool.or_true]

/-! ### Events of a lane (R2, R5, R6) -/

/-- An event of a lane acts on a part that takes events. -/
theorem laneEvents {s : State} (h : s.stopped = false) (l : Fin 4) (bytes : List Byte) :
    exec (.laneFrameComplete l bytes) s = .next (s.laneFrame l bytes) ∧
    exec (.laneFrameTimeout l) s = .next (s.laneTimeout l) ∧
    exec (.laneEnterDown l) s = .next (s.laneDown l) ∧ exec (.laneEnterUp l) s = .next (s.laneUp l) := by
  have hw := fun f => s.whenAlive_running f h
  exact ⟨congrArg _ (hw (State.laneFrame l bytes)), congrArg _ (hw (State.laneTimeout l)),
    congrArg _ (hw (State.laneDown l)), congrArg _ (hw (State.laneUp l))⟩

theorem countLaneError_eq (s : State) (l : Fin 4) : s.countLaneError l = { s with notices := { s.notices with
    laneErrors := s.notices.laneErrors.put l (min 65535 (s.notices.laneErrors.get l + 1)) } } := rfl

theorem laneFrame_placed {s : State} {l : Fin 4} {bytes : List Byte} (ho : s.op ≠ .starting) (hb : bytes.length = 29)
    (hp : (s.lanes.get l).place = none) :
    s.laneFrame l bytes = { s with lanes := s.lanes.put l { s.lanes.get l with place := some bytes } } := by
  simp [laneFrame, receiving, ho, hb, hp, Table.change]

theorem laneFrame_extra {s : State} {l : Fin 4} {bytes : List Byte} (ho : s.op ≠ .starting) (hb : bytes.length = 29)
    (hp : (s.lanes.get l).place ≠ none) : s.laneFrame l bytes = s.countLaneError l := by
  obtain ⟨f, hf⟩ := Option.ne_none_iff_exists'.1 hp
  simp [laneFrame, receiving, ho, hb, hf]

/-- The lane DOWN, LANE_FAULT latched and LANES_OK recorded (R5). -/
theorem laneDown_due {s : State} {l : Fin 4} (h : (s.lanes.get l).downDue = true) : s.laneDown l =
    (({ s with lanes := s.lanes.put l { s.lanes.get l with up := false } }).latch (.laneFault l)).recordLows :=
  if_pos h

end State

/-- Settles O8: each event by its condition. -/
theorem lanesTakeEvents : Obligations.LanesTakeEvents := by
  intro s l bytes ha
  obtain ⟨hframe, htime, hdown, hup⟩ := State.laneEvents ha l bytes
  refine ⟨fun ho hb hp => ?_, fun ho hb hp => ?_, fun ho => ?_, fun ho => ?_, fun hu hb => ?_, fun h => ?_, fun hu hg => ?_,
    fun h => ?_⟩
  · rw [hframe, State.laneFrame_placed ho hb hp]
  · rw [hframe, State.laneFrame_extra ho hb hp, State.countLaneError_eq]
  · have hr : s.receiving = true := bne_iff_ne.2 ho
    rw [htime, State.laneTimeout, if_pos hr, State.countLaneError_eq]
  · have hr : s.receiving = false := by rw [State.receiving, ho]; rfl
    rw [hframe, htime]
    exact ⟨by rw [State.laneFrame, hr]; rfl, by rw [State.laneTimeout, hr]; rfl⟩
  · have hdue : (s.lanes.get l).downDue = true := by simp [Lane.downDue, hu, hb]
    refine ⟨_, hdown, ?_⟩
    rw [State.laneDown_due hdue]
    refine ⟨rfl, ?_, rfl, fun hused => ?_, rfl⟩
    · rw [State.recordLows_eq]
      exact (State.latch_getLsbD _ _ _).trans (by simp [Notice.bit])
    · exact State.recordLows_lanesBad (l := l) (congrArg Lane.up (Table.get_put_same s.lanes l _)) hused
  · have hdue : (s.lanes.get l).downDue = false := by
      obtain h | h := h <;> simp [Lane.downDue, h]
    rw [hdown, State.laneDown, if_neg (by simp [hdue])]
  · have hdue : (s.lanes.get l).upDue = true := by simp [Lane.upDue, hu, hg]
    rw [hup, State.laneUp, if_pos hdue]
    rfl
  · have hdue : (s.lanes.get l).upDue = false := by
      obtain h | h := h <;> simp [Lane.upDue, h]
    rw [hup, State.laneUp, if_neg (by simp [hdue])]

end Sys2Proof.Machine
end

section
/-! PROOFS. The frequency trackers (O11, O12): a tracker replaced, its own events, cycles closed, arrangements, and a raw
sample's part of them. -/

/- The whole text is compiled as one file: these proofs are elaborated one after another, to stay within its memory. -/
set_option Elab.async false

namespace Sys2Proof.Machine

/-! ### The lowest index that qualifies -/

theorem find?_finRange {n : Nat} (p : Fin n → Bool) (i : Fin n) :
    (List.finRange n).find? p = some i ↔ p i = true ∧ ∀ j, j < i → p j = false := by
  rw [List.find?_eq_some_iff_getElem]
  refine and_congr_right fun _ => ⟨fun ⟨k, hk, he, hlt⟩ j hj => ?_, fun h => ⟨i.val, by simp, by simp, fun j hj => ?_⟩⟩
  · rw [List.getElem_finRange] at he
    have hkv : i.val = k := by rw [← he]; rfl
    have := hlt j.val (by omega)
    simpa using this
  · simpa using h ⟨j, by omega⟩ (Fin.lt_def.2 hj)

/-! ### Bits of the notice unit that stand (R173, R174) -/

/-- Every notice latched, every set marked as lost and every low condition recorded in `x` is so in `y`. -/
def Notices.within (x y : Notices) : Prop :=
  (∀ i, x.latched.getLsbD i = true → y.latched.getLsbD i = true) ∧
  (∀ i, x.setMask.getLsbD i = true → y.setMask.getLsbD i = true) ∧
  ∀ i, x.lows.getLsbD i = true → y.lows.getLsbD i = true

theorem Notices.within_trans {x y z : Notices} (h : x.within y) (k : y.within z) : x.within z :=
  ⟨fun i hi => k.1 i (h.1 i hi), fun i hi => k.2.1 i (h.2.1 i hi), fun i hi => k.2.2 i (h.2.2 i hi)⟩

theorem Notices.add_setMask (n : Notices) (x : Notice) (i : Nat) (h : n.setMask.getLsbD i = true) :
    (n.add x).setMask.getLsbD i = true := by
  unfold Notices.add
  cases x
  case trackLost v => exact (BitVec.getLsbD_or ..).trans (by rw [h, Bool.true_or])
  all_goals exact h

namespace State

theorem latchIf_within (s : State) (b : Bool) (x : Notice) : s.notices.within (s.latchIf b x).notices := by
  cases b
  · exact ⟨fun _ h => h, fun _ h => h, fun _ h => h⟩
  · refine ⟨fun i h => ?_, fun i h => Notices.add_setMask _ _ _ h, fun i h => ?_⟩
    · rw [latchIf_true, latch_getLsbD, h, Bool.true_or]
    · have hl : (s.latch x).notices.lows = s.notices.lows := by cases x <;> rfl
      rw [latchIf_true, hl, h]

theorem recordLows_within (s : State) : s.notices.within s.recordLows.notices :=
  ⟨fun _ h => h, fun _ h => h, fun i h => (BitVec.getLsbD_or ..).trans (by rw [h, Bool.true_or])⟩

/-! ### A tracker replaced (R12, R26, R174) -/

theorem setTracker_trackers (s : State) (v : Fin 2) (t : Tracker) :
    (s.setTracker v t).trackers = s.trackers.put v t := by
  simp [setTracker]

theorem setTracker_eq (s : State) (v : Fin 2) (t : Tracker) : s.setTracker v t =
    { s with
      trackers := s.trackers.put v t, timebases := (s.setTracker v t).timebases
      notices := (s.setTracker v t).notices } := by
  unfold setTracker
  cases ((s.trackers.get v).state == .locked && t.state == .holdover) <;> rfl

theorem setTracker_get (s : State) (v u : Fin 2) (t : Tracker) :
    (s.setTracker v t).trackers.get u = if v = u then t else s.trackers.get u := by
  rw [setTracker_trackers, Table.get_put]

theorem setTracker_within (s : State) (v : Fin 2) (t : Tracker) : s.notices.within (s.setTracker v t).notices :=
  Notices.within_trans (latchIf_within { s with trackers := s.trackers.put v t } _ (.trackLost v))
    (recordLows_within (refreshLocks (latchIf { s with trackers := s.trackers.put v t } _ (.trackLost v))))

theorem presentBad_track (s : State) (v : Fin 2) : s.presentBad.getLsbD v.val = s.trackBad v := by
  match v with
  | 0 => exact s.presentBad_getLsbD.1
  | 1 => exact s.presentBad_getLsbD.2.1

/-- A tracker that leaves LOCKED for HOLDOVER latches TRACK_LOST and makes TRACK_OK bad (R12, R174). -/
theorem setTracker_lost {s : State} {v : Fin 2} {t : Tracker} (hl : (s.trackers.get v).state = .locked)
    (hh : t.state = .holdover) : (s.setTracker v t).notices.latched.getLsbD 1 = true ∧
      (s.setTracker v t).notices.setMask.getLsbD v.val = true ∧
      (s.setTracker v t).notices.lows.getLsbD v.val = true := by
  have hlost : ((s.trackers.get v).state == .locked && t.state == .holdover) = true := by simp [hl, hh]
  unfold setTracker
  rw [hlost]
  refine ⟨?_, ?_, ?_⟩
  · exact (latch_getLsbD _ _ _).trans (by simp [Notice.bit])
  · refine (BitVec.getLsbD_or ..).trans ?_
    rw [oneBit_getLsbD, decide_eq_true v.isLt]
    simp
  · refine (BitVec.getLsbD_or ..).trans ?_
    rw [presentBad_track]
    simp [trackBad, hh, TrackerState.trackBad]

/-! ### Events of a tracker -/

theorem trackerEvents {s : State} (h : s.stopped = false) (v : Fin 2) :
    exec (.cycleAbandon v) s = .next (s.abandonCycle v) ∧ exec (.presenceRunEnd v) s = .next (s.endPresenceRun v) ∧
    exec (.trackerEnterFreeRun v) s = .next (s.enterFreeRun v) :=
  ⟨congrArg _ (s.whenAlive_running _ h), congrArg _ (s.whenAlive_running _ h), congrArg _ (s.whenAlive_running _ h)⟩

end State

namespace Tracker

/-! ### Presence (R10) -/

theorem phasePresent_iff (x : Tracker) (st : Settings) (v : Fin 2) (p : Fin 3) :
    x.phasePresent st v p = true ↔ x.presentOver st v p := by
  unfold phasePresent presentOver
  rw [Bool.and_eq_true, Bool.and_eq_true, Bool.not_eq_true', bne_iff_ne, and_assoc]
  exact and_congr_right fun _ => and_congr_right fun _ => ⟨of_decide_eq_true, fun h => decide_eq_true h⟩

theorem judgePresence_present (x : Tracker) (st : Settings) (v : Fin 2) (p : Fin 3) :
    (x.judgePresence st v).present.get p = true ↔ x.presentOver st v p := by
  rw [← phasePresent_iff]
  simp [judgePresence]

/-- The reference phase is present over the span (R10). -/
theorem judgePresence_refPresent (x : Tracker) (st : Settings) (v : Fin 2) :
    (x.judgePresence st v).refPresent = true ↔ ∃ p, x.ref = some p ∧ x.presentOver st v p := by
  have href : (x.judgePresence st v).ref = x.ref := rfl
  unfold refPresent
  rw [href]
  cases x.ref with
  | none => simp
  | some p => simpa using x.judgePresence_present st v p

/-! ### A cycle that fails (R9, R12) -/

theorem failCycle_eq (x : Tracker) : x.failCycle =
    { x with
      run := [], state := if x.state = .locked then .holdover else x.state
      holdover := if x.state = .locked then 0 else x.holdover } := by
  unfold failCycle
  cases x.state <;> rfl

/-- A cycle fails for a reason of R9. -/
theorem cycleFails_iff (x : Tracker) (f : Nat) : x.cycleFails f = true ↔
    f < 42500 ∨ 69000 < f ∨ ¬ x.refPresent = true ∨ x.heldRef = true ∨
      (x.state = .locked ∧ (x.freq + 1000 < f ∨ f + 1000 < x.freq)) := by
  simp [cycleFails, or_assoc]

/-! ### A good cycle (R9, R11, R12) -/

/-- Four frequencies lie within 50 mHz (R11). -/
def closeRun (run : List Nat) : Prop := run.length = 4 ∧ ∀ a ∈ run, ∀ b ∈ run, a ≤ b + 50

theorem acquired_iff (run : List Nat) : acquired run = true ↔ closeRun run := by
  unfold acquired closeRun
  rw [Bool.and_eq_true, beq_iff_eq, decide_eq_true_iff]
  refine and_congr_right fun h => ?_
  obtain ⟨a, b, c, d, rfl⟩ := List.length_eq_four.1 h
  simp only [List.foldl_cons, List.foldl_nil, List.headD_cons, List.mem_cons, List.not_mem_nil, or_false, forall_eq_or_imp,
    forall_eq]
  omega

theorem goodCycle_following {x : Tracker} (h : x.state = .following) (f : Nat) :
    x.goodCycle f = { x with run := appendRun x.run f } := by
  simp [goodCycle, h]

theorem goodCycle_locked {x : Tracker} (h : x.state = .locked) (f : Nat) :
    x.goodCycle f = { x with run := appendRun x.run f, freq := runMean (appendRun x.run f) } := by
  simp [goodCycle, h]

theorem goodCycle_unlocked {x : Tracker} (h : x.state = .acquiring ∨ x.state = .holdover ∨ x.state = .freeRun) (f : Nat) :
    x.goodCycle f = if acquired (appendRun x.run f) then
        { x with run := appendRun x.run f, state := .locked, freq := runMean (appendRun x.run f), holdover := 0 }
      else { x with run := appendRun x.run f } := by
  obtain h | h | h := h <;> simp [goodCycle, h, lock]

/-- A good cycle changes run, state, frequency and holdover count alone. -/
theorem goodCycle_eq (x : Tracker) (f : Nat) : x.goodCycle f =
    { x with
      run := appendRun x.run f, state := (x.goodCycle f).state, freq := (x.goodCycle f).freq
      holdover := (x.goodCycle f).holdover } := by
  cases h : x.state
  case locked => rw [goodCycle_locked h]
  case following => rw [goodCycle_following h]
  all_goals
    rw [goodCycle_unlocked (by simp [h])]
    split <;> rfl

/-! ### The open cycle closed (R9) -/

/-- The tracker with the cycle of `period` judged, its reference phase still as it was. -/
def judged (x : Tracker) (st : Settings) (v : Fin 2) (period : Nat) : Tracker :=
  if (x.judgePresence st v).cycleFails (cycleFreq period) then (x.judgePresence st v).failCycle
  else (x.judgePresence st v).goodCycle (cycleFreq period)

theorem closeCycle_eq (x : Tracker) (st : Settings) (v : Fin 2) (opening frac : Nat) :
    x.closeCycle st v opening frac =
      { x.judged st v ((x.since + 1) * 256 + frac - opening) with
        ref := if (x.judgePresence st v).refPresent then x.ref else none
        opened := if (x.judgePresence st v).refPresent then some frac else none
        since := 0 } := by
  have hu : (x.judged st v ((x.since + 1) * 256 + frac - opening)).ref = x.ref := by
    unfold judged
    split
    · rw [failCycle_eq]
      rfl
    · rw [goodCycle_eq]
      rfl
  have hd : x.closeCycle st v opening frac =
      if (x.judgePresence st v).refPresent then
        { x.judged st v ((x.since + 1) * 256 + frac - opening) with opened := some frac, since := 0 }
      else (x.judged st v ((x.since + 1) * 256 + frac - opening)).dropRef := rfl
  rw [hd]
  cases (x.judgePresence st v).refPresent
  · rfl
  · simp [← hu]

theorem judged_present (x : Tracker) (st : Settings) (v : Fin 2) (period : Nat) :
    (x.judged st v period).present = (x.judgePresence st v).present := by
  unfold judged
  split
  · rw [failCycle_eq]
  · rw [goodCycle_eq]

/-! ### Crossings (R9) -/

/-- A crossing of the reference channel is found at its interpolated place (R9). -/
theorem crosses_some {x : Tracker} {y : SetSample} {p : Fin 3} (hp : x.ref = some p) (hb : y.before.get p < 0)
    (hn : 0 ≤ y.now.get p) (ho : x.opened = none ∨ 256 ≤ x.since) :
    x.crosses y = some (crossingAt (y.before.get p) (y.now.get p)) := by
  have hopen : (x.opened == none || decide (256 < x.since + 1)) = true := by
    obtain h | h := ho
    · simp [h]
    · simp only [Bool.or_eq_true, decide_eq_true_iff]
      omega
  simp only [crosses, hp, hb, hn, hopen, decide_true, Bool.and_self, if_true]

theorem crosses_none {x : Tracker} {y : SetSample}
    (h : ∀ p, x.ref = some p → 0 ≤ y.before.get p ∨ y.now.get p < 0 ∨ (x.opened ≠ none ∧ x.since < 256)) :
    x.crosses y = none := by
  unfold crosses
  split
  · rfl
  · next p hp =>
    refine if_neg fun hc => ?_
    simp only [Bool.and_eq_true, decide_eq_true_iff, Bool.or_eq_true, beq_iff_eq] at hc
    obtain ⟨⟨hb, hn⟩, ho⟩ := hc
    obtain h | h | ⟨h1, h2⟩ := h p hp
    · omega
    · omega
    · obtain ho | ho := ho
      · exact h1 ho
      · omega

/-- What a sample adds to a tracker whose span has just begun (R10). -/
theorem clearSpan_addSample (x : Tracker) (y : SetSample) : (x.clearSpan.addSample y).count = 1 ∧
    (x.clearSpan.addSample y).laneDown = y.laneDown ∧
    ∀ q, (x.clearSpan.addSample y).sumSq.get q = (y.now.get q * y.now.get q).natAbs := by
  refine ⟨by simp [clearSpan, addSample], by simp [clearSpan, addSample], fun q => ?_⟩
  simp [clearSpan, addSample]

/-! ### Arrangements (R15) -/

theorem pacer_ne_iff (a : Arrangement) (v : Fin 2) : (a.pacer v != v) = true ↔ a = .common (other v) := by
  cases a with
  | separate => simp [Arrangement.pacer]
  | common l =>
    simp only [Arrangement.pacer, bne_iff_ne, ne_eq, Arrangement.common.injEq]
    revert l v
    decide

theorem arrange_follower (x : Tracker) (v : Fin 2) :
    x.arrange v (.common (other v)) = { x with state := .following, holdover := 0 } :=
  if_pos ((pacer_ne_iff _ v).2 rfl)

theorem arrange_leaver {x : Tracker} {v : Fin 2} {a : Arrangement} (ha : a ≠ .common (other v))
    (hx : x.state = .following) : x.arrange v a =
      if acquired x.run then x.lock else { x with state := .acquiring, holdover := 0 } := by
  rw [arrange, if_neg (mt (pacer_ne_iff a v).1 ha), if_pos (beq_iff_eq.2 hx)]

theorem arrange_other {x : Tracker} {v : Fin 2} {a : Arrangement} (ha : a ≠ .common (other v))
    (hx : x.state ≠ .following) : x.arrange v a = x := by
  rw [arrange, if_neg (mt (pacer_ne_iff a v).1 ha), if_neg (mt beq_iff_eq.1 hx)]

end Tracker

/-- Settles O11: each event by its condition. -/
theorem trackersTakeEvents : Obligations.TrackersTakeEvents := by
  intro s v ha
  obtain ⟨hcycle, hrun, hfree⟩ := State.trackerEvents ha v
  refine ⟨fun ho hs => ?_, fun h => ?_, fun hr hc => ?_, fun h => ?_, fun hst hh => ?_, fun h => ?_⟩
  · have hdue : (s.trackers.get v).abandonDue = true := by
      simp [Tracker.abandonDue, Option.isSome_iff_ne_none.2 ho, hs]
    rw [State.abandonCycle, if_pos hdue, Tracker.failCycle_eq] at hcycle
    refine ⟨_, hcycle, ?_⟩
    simp only [State.setTracker_get, if_true]
    refine ⟨rfl, rfl, rfl, rfl, rfl, fun hl => ?_, fun hl => ?_, fun u hu => if_neg (Ne.symm hu), by rw [State.setTracker_eq]⟩
    · exact ⟨if_pos hl, if_pos hl, State.setTracker_lost hl (if_pos hl)⟩
    · exact ⟨if_neg hl, if_neg hl⟩
  · have hdue : (s.trackers.get v).abandonDue = false := by
      obtain h | h := h
      · simp [Tracker.abandonDue, h]
      · simp [Tracker.abandonDue, Nat.not_le_of_lt h]
    rw [hcycle, State.abandonCycle, if_neg (by simp [hdue])]
  · have hdue : (s.trackers.get v).runDue = true := by simp [Tracker.runDue, hr, hc]
    rw [State.endPresenceRun, if_pos hdue] at hrun
    refine ⟨_, hrun, ?_⟩
    simp only [State.setTracker_get, if_true]
    refine ⟨rfl, fun p => (s.trackers.get v).judgePresence_present s.settings v p, fun p => find?_finRange _ p, rfl, rfl, rfl,
      fun u hu => if_neg (Ne.symm hu), by rw [State.setTracker_eq]⟩
  · have hdue : (s.trackers.get v).runDue = false := by
      obtain h | h := h
      · simp [Tracker.runDue, h]
      · simp [Tracker.runDue, Nat.not_le_of_lt h]
    rw [hrun, State.endPresenceRun, if_neg (by simp [hdue])]
  · have hdue : (s.trackers.get v).freeRunDue = true := by simp [Tracker.freeRunDue, hst, hh]
    rw [State.enterFreeRun, if_pos hdue] at hfree
    refine ⟨_, hfree, State.setTracker_trackers _ _ _, ?_, by rw [State.setTracker_eq]⟩
    rw [State.trackedFreq, State.setTracker_get, if_pos rfl]
    simp [State.nominal]
  · have hdue : (s.trackers.get v).freeRunDue = false := by
      obtain h | h := h
      · simp [Tracker.freeRunDue, h]
      · simp [Tracker.freeRunDue, Nat.not_le_of_lt h]
    rw [hfree, State.enterFreeRun, if_neg (by simp [hdue])]

end Sys2Proof.Machine
end

section
/-! PROOFS. The cycles of a tracker (O12): a cycle judged, arrangements, and the trackers' part of a raw sample. -/

/- The whole text is compiled as one file: these proofs are elaborated one after another, to stay within its memory. -/
set_option Elab.async false

namespace Sys2Proof.Machine
namespace Tracker

/-! ### A cycle judged (R9 to R12) -/

section
variable (x : Tracker) (st : Settings) (v : Fin 2) (period : Nat)

/-- The conditions under which a cycle of frequency `f` fails (R9). -/
def failsAt (f : Nat) : Prop :=
  f < 42500 ∨ 69000 < f ∨ ¬ (∃ p, x.ref = some p ∧ x.presentOver st v p) ∨ x.heldRef = true ∨
    (x.state = .locked ∧ (x.freq + 1000 < f ∨ f + 1000 < x.freq))

theorem judged_fails_iff (f : Nat) : (x.judgePresence st v).cycleFails f = true ↔ x.failsAt st v f := by
  rw [cycleFails_iff, judgePresence_refPresent]
  rfl

theorem judged_of_fails (h : x.failsAt st v (cycleFreq period)) :
    x.judged st v period = (x.judgePresence st v).failCycle :=
  if_pos ((x.judged_fails_iff st v _).2 h)

theorem judged_of_good (h : ¬ x.failsAt st v (cycleFreq period)) :
    x.judged st v period = (x.judgePresence st v).goodCycle (cycleFreq period) :=
  if_neg (mt (x.judged_fails_iff st v _).1 h)

/-- A failing cycle (R9, R12). -/
theorem judged_failed (h : x.failsAt st v (cycleFreq period)) :
    (x.judged st v period).run = [] ∧ (x.judged st v period).freq = x.freq ∧
      (x.state = .locked → (x.judged st v period).state = .holdover ∧ (x.judged st v period).holdover = 0) ∧
      (x.state ≠ .locked → (x.judged st v period).state = x.state ∧ (x.judged st v period).holdover = x.holdover) := by
  rw [x.judged_of_fails st v period h, failCycle_eq]
  exact ⟨rfl, rfl, fun hl => ⟨if_pos hl, if_pos hl⟩, fun hl => ⟨if_neg hl, if_neg hl⟩⟩

/-- A good cycle (R9, R11, R12). -/
theorem judged_passed (h : ¬ x.failsAt st v (cycleFreq period)) :
    let run := appendRun x.run (cycleFreq period)
    (x.judged st v period).run = run ∧
      (x.state = .locked → (x.judged st v period).state = .locked ∧ (x.judged st v period).freq = runMean run ∧
        (x.judged st v period).holdover = x.holdover) ∧
      (x.state = .following → (x.judged st v period).state = .following ∧ (x.judged st v period).freq = x.freq ∧
        (x.judged st v period).holdover = x.holdover) ∧
      (x.state = .acquiring ∨ x.state = .holdover ∨ x.state = .freeRun →
        (closeRun run → (x.judged st v period).state = .locked ∧ (x.judged st v period).freq = runMean run ∧
          (x.judged st v period).holdover = 0) ∧
        (¬ closeRun run → (x.judged st v period).state = x.state ∧ (x.judged st v period).freq = x.freq ∧
          (x.judged st v period).holdover = x.holdover)) := by
  intro run
  rw [x.judged_of_good st v period h]
  refine ⟨by rw [goodCycle_eq]; rfl, fun hs => ?_, fun hs => ?_, fun hs => ⟨fun hc => ?_, fun hc => ?_⟩⟩
  · rw [goodCycle_locked (x := x.judgePresence st v) hs]
    exact ⟨hs, rfl, rfl⟩
  · rw [goodCycle_following (x := x.judgePresence st v) hs]
    exact ⟨hs, rfl, rfl⟩
  · have hc' : acquired (appendRun (x.judgePresence st v).run (cycleFreq period)) = true := (acquired_iff _).2 hc
    rw [goodCycle_unlocked (x := x.judgePresence st v) hs, if_pos hc']
    exact ⟨rfl, rfl, rfl⟩
  · have hc' : ¬ acquired (appendRun (x.judgePresence st v).run (cycleFreq period)) = true := mt (acquired_iff _).1 hc
    rw [goodCycle_unlocked (x := x.judgePresence st v) hs, if_neg hc']
    exact ⟨rfl, rfl, rfl⟩

/-- The reference phase and the cycle opened after a crossing (R10). -/
theorem closeCycle_ref (opening frac : Nat) :
    ((∃ p, x.ref = some p ∧ x.presentOver st v p) →
      (x.closeCycle st v opening frac).ref = x.ref ∧ (x.closeCycle st v opening frac).opened = some frac) ∧
    (¬ (∃ p, x.ref = some p ∧ x.presentOver st v p) →
      (x.closeCycle st v opening frac).ref = none ∧ (x.closeCycle st v opening frac).opened = none) := by
  rw [← judgePresence_refPresent, closeCycle_eq]
  exact ⟨fun h => ⟨if_pos h, if_pos h⟩, fun h => ⟨if_neg h, if_neg h⟩⟩

theorem closeCycle_present (opening frac : Nat) (p : Fin 3) :
    (x.closeCycle st v opening frac).present.get p = true ↔ x.presentOver st v p := by
  rw [closeCycle_eq, ← judgePresence_present]
  exact Eq.to_iff (congrArg (· = true) (congrArg (Table.get · p) (x.judged_present st v _)))

end

/-! ### A sample (R9, R10) -/

/-- A sample with no crossing counts on (R9, R10). -/
theorem sample_between {x : Tracker} {y : SetSample} (st : Settings) (v : Fin 2) (h : x.crosses y = none) :
    x.sample st v y = ({ x with since := if x.opened = none then 0 else x.since + 1 }).addSample y := by
  unfold sample
  rw [h]
  cases x.opened <;> rfl

theorem sample_opens {x : Tracker} {y : SetSample} {frac : Nat} (st : Settings) (v : Fin 2) (h : x.crosses y = some frac)
    (ho : x.opened = none) : x.sample st v y = (({ x with opened := some frac, since := 0 }).clearSpan).addSample y := by
  simp only [sample, h, ho]

theorem sample_closes {x : Tracker} {y : SetSample} {frac o : Nat} (st : Settings) (v : Fin 2)
    (h : x.crosses y = some frac) (ho : x.opened = some o) :
    x.sample st v y = ((x.closeCycle st v o frac).clearSpan).addSample y := by
  simp only [sample, h, ho]

theorem addSample_held (x : Tracker) (y : SetSample) :
    (x.addSample y).heldRef = true ↔ x.heldRef = true ∨ ∃ p, x.ref = some p ∧ y.held.get p = true := by
  unfold addSample
  cases x.ref <;> simp

theorem addSample_sumSq (x : Tracker) (y : SetSample) (q : Fin 3) :
    (x.addSample y).sumSq.get q = x.sumSq.get q + (y.now.get q * y.now.get q).natAbs := by
  simp [addSample]

end Tracker

namespace State

/-- A follower reports the frequency of the tracker it follows (R15). -/
theorem trackedFreq_following {s : State} {v : Fin 2} (h : (s.trackers.get v).state = .following)
    (ho : (s.trackers.get (other v)).state ≠ .following) : s.trackedFreq v = s.trackedFreq (other v) := by
  unfold trackedFreq
  rw [h]
  cases hs : (s.trackers.get (other v)).state
  case following => exact absurd hs ho
  all_goals rfl

/-! ### The trackers' part of a raw sample -/

theorem foldl_finRange_two {α : Type} (f : α → Fin 2 → α) (a : α) : (List.finRange 2).foldl f a = f (f a 0) 1 := rfl

/-- Tracker 0 with its sample taken. -/
def trackedFirst (s old : State) : State := s.setTracker 0 ((s.trackers.get 0).sample s.settings 0 (s.setSample old 0))

theorem trackSample_eq (s old : State) : s.trackSample old =
    (s.trackedFirst old).setTracker 1 ((s.trackers.get 1).sample s.settings 1 (s.setSample old 1)) := by
  have h : (s.trackedFirst old).trackers.get 1 = s.trackers.get 1 := by
    rw [trackedFirst, setTracker_get, if_neg (by decide)]
  rw [trackSample, foldl_finRange_two]
  exact congrArg (fun x => (s.trackedFirst old).setTracker 1 (x.sample s.settings 1 (s.setSample old 1))) h

theorem trackSample_get (s old : State) (v : Fin 2) :
    (s.trackSample old).trackers.get v = (s.trackers.get v).sample s.settings v (s.setSample old v) := by
  rw [trackSample_eq, setTracker_get, trackedFirst, setTracker_get]
  match v with
  | 0 => rfl
  | 1 => rfl

theorem trackSample_frame (s old : State) : s.trackSample old =
    { s with
      trackers := (s.trackSample old).trackers, timebases := (s.trackSample old).timebases
      notices := (s.trackSample old).notices } := by
  have h0 := s.setTracker_eq 0 ((s.trackers.get 0).sample s.settings 0 (s.setSample old 0))
  have h1 := (s.trackedFirst old).setTracker_eq 1 ((s.trackers.get 1).sample s.settings 1 (s.setSample old 1))
  have hd : s.trackedFirst old = s.setTracker 0 ((s.trackers.get 0).sample s.settings 0 (s.setSample old 0)) := rfl
  rw [trackSample_eq]
  rw [← hd] at h0
  generalize s.trackedFirst old = u at h0 h1 ⊢
  rw [h1, h0]

/-- A tracker that a raw sample takes out of LOCKED into HOLDOVER latches TRACK_LOST (R12). -/
theorem trackSample_lost {s old : State} {v : Fin 2} (hl : (s.trackers.get v).state = .locked)
    (hh : ((s.trackSample old).trackers.get v).state = .holdover) :
    (s.trackSample old).notices.latched.getLsbD 1 = true ∧
      (s.trackSample old).notices.setMask.getLsbD v.val = true ∧
      (s.trackSample old).notices.lows.getLsbD v.val = true := by
  rw [trackSample_get] at hh
  rw [trackSample_eq]
  match v with
  | 0 =>
    obtain ⟨h1, h2, h3⟩ := setTracker_lost hl hh
    obtain ⟨w1, w2, w3⟩ := (s.trackedFirst old).setTracker_within 1
      ((s.trackers.get 1).sample s.settings 1 (s.setSample old 1))
    exact ⟨w1 _ h1, w2 _ h2, w3 _ h3⟩
  | 1 =>
    have hfirst : (s.trackedFirst old).trackers.get 1 = s.trackers.get 1 := by
      rw [trackedFirst, setTracker_get, if_neg (by decide)]
    exact setTracker_lost (hfirst ▸ hl) hh

/-! ### The start of windows leaves the intake and the trackers alone (R19) -/

/-- Windows of the timebases alone changed. -/
theorem startWindows_eq (s : State) : s.startWindows = { s with timebases := s.startWindows.timebases } := by
  rw [startWindows, foldl_finRange_two]
  split <;> split <;> rfl

theorem rawSample_settled {s : State} (ha : s.stopped = false) (ho : s.op ≠ .starting) :
    exec .rawSampleInstant s = .next s.settleSample.takeSample := by
  have h : exec .rawSampleInstant s = .next (s.whenAlive State.rawSample) := rfl
  have hop : (s.op == .starting) = false := beq_eq_false_iff_ne.2 ho
  rw [h, whenAlive_running _ _ ha, rawSample, hop]
  rfl

/-- The lanes deliver their codes: trackers, timebases, settings and the clock stand. -/
theorem intake_eq (s : State) : s.intake = { s with
    lanes := s.lanes.each fun _ l => l.sample, channels := s.sampledChannels, notices := s.intake.notices } := by
  have hlane (l : List (Fin 4)) (u : State) :
      l.foldl (fun t l => if (s.lanes.get l).isGood then t else t.countLaneError l) u =
        { u with notices := (l.foldl (fun t l => if (s.lanes.get l).isGood then t else t.countLaneError l) u).notices } := by
    induction l generalizing u with
    | nil => rfl
    | cons g l ih =>
      rw [List.foldl_cons, ih]
      split <;> rfl
  have hclip (l : List (Fin 30)) (u : State) :
      l.foldl (fun t c => t.latchIf ((s.sampledChannels.get c).clip && !(s.channels.get c).clip) (.clip c)) u =
        { u with notices := (l.foldl (fun t c =>
            t.latchIf ((s.sampledChannels.get c).clip && !(s.channels.get c).clip) (.clip c)) u).notices } := by
    induction l generalizing u with
    | nil => rfl
    | cons c l ih =>
      rw [List.foldl_cons, ih, latchIf_eq]
  unfold intake
  rw [hclip, hlane]

/-- What a raw sample leaves of the trackers, the notices and the intake (log 10). -/
theorem takeSample_parts (s : State) :
    s.takeSample.trackers = (s.startWindows.intake.trackSample s.startWindows).trackers ∧
    s.takeSample.notices = (s.startWindows.intake.trackSample s.startWindows).notices ∧
    s.takeSample.channels = s.startWindows.intake.channels ∧ s.takeSample.lanes = s.startWindows.intake.lanes := by
  have h := s.startWindows.intake.trackSample_frame s.startWindows
  have hd : s.takeSample = (s.startWindows.intake.trackSample s.startWindows).sampleWindows.tickClock := rfl
  rw [hd]
  generalize s.startWindows.intake.trackSample s.startWindows = u at h ⊢
  have hchannels : u.channels = s.startWindows.intake.channels := by rw [h]
  have hlanes : u.lanes = s.startWindows.intake.lanes := by rw [h]
  exact ⟨rfl, rfl, hchannels, hlanes⟩

end State

/-- Settles O12: a cycle judged, the trackers arranged, and a raw sample that runs them. -/
theorem trackersMeasureCycles : Obligations.TrackersMeasureCycles := by
  refine ⟨fun x st v opening frac => ?_, fun s a v => ?_, fun s ha ho hsettled => ?_⟩
  · intro period f u refPresent fails run mean close
    have hu : u = _ := x.closeCycle_eq st v opening frac
    refine ⟨fun h => ?_, fun h => ?_, (x.closeCycle_ref st v opening frac).1, (x.closeCycle_ref st v opening frac).2,
      x.closeCycle_present st v opening frac, by rw [hu], fun y => ⟨fun p hp hb hn hopen => ?_, fun h => ?_⟩⟩
    · rw [hu]
      exact x.judged_failed st v period h
    · rw [hu]
      exact x.judged_passed st v period h
    · have hcross := Tracker.crosses_some hp hb hn hopen
      refine ⟨crossingAt (y.before.get p) (y.now.get p), rfl, ?_⟩
      cases hox : x.opened with
      | none =>
        rw [Tracker.sample_opens st v hcross hox]
        obtain ⟨h1, h2, h3⟩ := Tracker.clearSpan_addSample
          ({ x with opened := some (crossingAt (y.before.get p) (y.now.get p)), since := 0 } : Tracker) y
        exact ⟨h1, h2, h3, fun _ => ⟨rfl, rfl, rfl, rfl, rfl, rfl, rfl, rfl⟩, nofun⟩
      | some o =>
        rw [Tracker.sample_closes st v hcross hox]
        obtain ⟨h1, h2, h3⟩ := Tracker.clearSpan_addSample
          (x.closeCycle st v o (crossingAt (y.before.get p) (y.now.get p))) y
        refine ⟨h1, h2, h3, nofun, fun o' ho' => ?_⟩
        obtain rfl := Option.some.inj ho'
        refine ⟨rfl, ?_, rfl, rfl, rfl, rfl, rfl, rfl⟩
        rw [Tracker.closeCycle_eq]
        rfl
    · have hcross := Tracker.crosses_none h
      rw [Tracker.sample_between st v hcross]
      exact ⟨rfl, fun q => Tracker.addSample_sumSq _ y q, Tracker.addSample_held _ y⟩
  · intro t x mean close
    have htrack : ∀ u, t.trackers.get u = (s.trackers.get u).arrange u a := fun u => by
      simp [t, State.arrangeTrackers]
    have hsettings : t.settings = s.settings := rfl
    refine ⟨fun hav => ?_, fun hav hx => ⟨fun hc => ?_, fun hc => ?_⟩, fun hav hx => ?_, rfl⟩
    · subst hav
      have hv := (htrack v).trans ((s.trackers.get v).arrange_follower v)
      refine ⟨hv, ?_⟩
      have hother : (t.trackers.get (other v)).state ≠ .following := by
        have hne : ∀ v, Arrangement.common (other v) ≠ .common (other (other v)) := by decide
        rw [htrack]
        by_cases hf : (s.trackers.get (other v)).state = .following
        · rw [Tracker.arrange_leaver (hne v) hf]
          split
          · exact fun h => by cases h
          · exact fun h => by cases h
        · rwa [Tracker.arrange_other (hne v) hf]
      exact State.trackedFreq_following (congrArg Tracker.state hv) hother
    · rw [htrack, Tracker.arrange_leaver hav hx, if_pos ((Tracker.acquired_iff _).2 hc)]
      rfl
    · have hv : t.trackers.get v = { x with state := .acquiring, holdover := 0 } := by
        rw [htrack, Tracker.arrange_leaver hav hx, if_neg (mt (Tracker.acquired_iff _).1 hc)]
      refine ⟨hv, ?_⟩
      rw [State.trackedFreq, hv]
      simp [State.nominal, hsettings]
    · rw [htrack, Tracker.arrange_other hav hx]
  · refine ⟨s.takeSample, by rw [State.rawSample_settled ha ho, hsettled], fun v => ?_⟩
    obtain ⟨htrack, hnotices, hchannels, hlanes⟩ := s.takeSample_parts
    have hw := s.startWindows_eq
    have hin := s.startWindows.intake_eq
    have htw : s.startWindows.intake.trackers = s.trackers := by rw [hin, hw]
    have hst : s.startWindows.intake.settings = s.settings := by rw [hin, hw]
    have hold : s.startWindows.channels = s.channels := by rw [hw]
    refine ⟨s.startWindows.intake.setSample s.startWindows v, fun p => ⟨?_, ?_, ?_⟩, ?_, ?_, fun hl hh => ?_⟩
    · simp [State.setSample, hold]
    · simp [State.setSample, hchannels]
    · simp [State.setSample, hchannels]
    · simp [State.setSample, hlanes]
    · rw [htrack, State.trackSample_get, htw, hst]
    · rw [htrack] at hh
      rw [hnotices]
      exact State.trackSample_lost ((congrArg (fun x => (Table.get x v).state) htw).trans hl) hh

end Sys2Proof.Machine
end

section
/-! PROOFS. The completion of a window (O13, O15): its own part, the contributions it gives the accounts, and the energy and
limits of one contribution (O18, O19). -/

/- The whole text is compiled as one file: these proofs are elaborated one after another, to stay within its memory. -/
set_option Elab.async false

namespace Sys2Proof.Machine

/-! ### Counters that a latching leaves (R175) -/

/-- The counters of the notice unit. -/
def Notices.counts (n : Notices) : Table Nat 4 × Nat × Nat × Nat × Nat × Nat × Nat × Nat :=
  (n.laneErrors, n.discarded, n.overruns, n.resent, n.badPages, n.abandoned, n.syncFaults, n.droppedTopology)

namespace State

theorem latch_counts (s : State) (x : Notice) : (s.latch x).notices.counts = s.notices.counts := by cases x <;> rfl

theorem latchIf_counts (s : State) (b : Bool) (x : Notice) : (s.latchIf b x).notices.counts = s.notices.counts := by
  cases b
  · rfl
  · exact s.latch_counts x

/-! ### The window's own part (R20, R25, R27, R28 (4)) -/

/-- Account, tie link and selector stand while the window finishes. -/
theorem finishWindow_eq (s : State) (v : Fin 2) (w : Window) : s.finishWindow v w =
    { s with
      channels := (s.clearClips w).channels
      timebases := s.timebases.put v ⟨nextNumber w.number, none, some (w.toTable s.channels)⟩
      trackers := s.trackers.change (w.joined.getD v) Tracker.countWindow } := by
  simp only [finishWindow, clearClips]

theorem clearClips_get (s : State) (w : Window) (c : Fin 30) : (s.clearClips w).channels.get c =
    { s.channels.get c with clip := (s.channels.get c).clip && !ownsChannel w.ownsSet w.ownsTap c } := by
  simp [clearClips]

theorem countWindow_eq (x : Tracker) : x.countWindow =
    if x.state = .holdover then { x with holdover := min 25 (x.holdover + 1) } else x := by
  simp [Tracker.countWindow, satAdd]

/-! ### Contributions to several accounts (R51, R53, R57) -/

/-- One contribution to each account of a list for which it is due. -/
def contributeAll (s : State) (due : Fin 16 → Bool) (c : Fin 16 → Contribution) (p : Fin 8) (l : List (Fin 16)) : State :=
  l.foldl (fun u a => if due a then u.contribute a (c a) p else u) s

theorem latchIf_latchIf_eq (s : State) (a b : Bool) (x y : Notice) : (s.latchIf a x).latchIf b y =
    { s with notices := ((s.latchIf a x).latchIf b y).notices } := by
  cases a <;> cases b <;> rfl

theorem contribute_eq (s : State) (a : Fin 16) (c : Contribution) (p : Fin 8) : s.contribute a c p =
    { s with
      accounts := s.accounts.put a ((s.accounts.get a).contribute c p), notices := (s.contribute a c p).notices } := by
  unfold contribute
  exact latchIf_latchIf_eq _ _ _ _ _

theorem contribute_counts (s : State) (a : Fin 16) (c : Contribution) (p : Fin 8) :
    (s.contribute a c p).notices.counts = s.notices.counts :=
  (latchIf_counts _ _ _).trans (latchIf_counts _ _ _)

theorem contributeAll_eq (s : State) (due : Fin 16 → Bool) (c : Fin 16 → Contribution) (p : Fin 8) (l : List (Fin 16)) :
    s.contributeAll due c p l =
      { s with
        accounts := (s.contributeAll due c p l).accounts, notices := (s.contributeAll due c p l).notices } := by
  unfold contributeAll
  induction l generalizing s with
  | nil => rfl
  | cons a l ih =>
    rw [List.foldl_cons, ih]
    split
    · rw [contribute_eq]
    · rfl

theorem contributeAll_counts (s : State) (due : Fin 16 → Bool) (c : Fin 16 → Contribution) (p : Fin 8)
    (l : List (Fin 16)) : (s.contributeAll due c p l).notices.counts = s.notices.counts := by
  unfold contributeAll
  induction l generalizing s with
  | nil => rfl
  | cons a l ih =>
    rw [List.foldl_cons, ih]
    split
    · exact s.contribute_counts a (c a) p
    · rfl

/-- Each account of the list takes the one contribution that is due to it. -/
theorem contributeAll_get (s : State) (due : Fin 16 → Bool) (c : Fin 16 → Contribution) (p : Fin 8) {l : List (Fin 16)}
    (hl : l.Nodup) (b : Fin 16) : (s.contributeAll due c p l).accounts.get b =
      if b ∈ l ∧ due b = true then (s.accounts.get b).contribute (c b) p else s.accounts.get b := by
  unfold contributeAll
  induction l generalizing s with
  | nil => simp
  | cons a l ih =>
    obtain ⟨ha, hl⟩ := List.nodup_cons.1 hl
    have hstep : (if due a = true then s.contribute a (c a) p else s).accounts.get b =
        if b = a ∧ due b = true then (s.accounts.get b).contribute (c b) p else s.accounts.get b := by
      by_cases hb : b = a
      · subst hb
        cases due b <;> simp [contribute_get]
      · have hab : a ≠ b := fun h => hb h.symm
        cases due a <;> simp [contribute_get, hb, hab]
    rw [List.foldl_cons, ih _ hl, hstep]
    by_cases hb : b = a
    · subst hb
      simp [ha]
    · simp [hb]

theorem contributeAll_get_all (s : State) (due : Fin 16 → Bool) (c : Fin 16 → Contribution) (p : Fin 8) (b : Fin 16) :
    (s.contributeAll due c p (List.finRange 16)).accounts.get b =
      if due b = true then (s.accounts.get b).contribute (c b) p else s.accounts.get b := by
  rw [contributeAll_get _ _ _ _ (List.nodup_finRange 16)]
  simp

/-! ### A completed window accounted (R51, R56) -/

theorem accountWindow_none {s : State} (ev : CompletedWindow) (h : s.selector.active = none) : s.accountWindow ev = s := by
  simp [accountWindow, h]

theorem accountWindow_plan {s : State} (ev : CompletedWindow) {p : Fin 8} {c : PlanContent}
    (hp : s.selector.active = some p) (hc : s.selector.content = some c) : s.accountWindow ev =
      s.contributeAll (fun a => s.isEnabled a && !(ev.tapsOf c a).isEmpty) (fun a => ev.contribution (ev.tapsOf c a)) p
        (List.finRange 16) := by
  simp only [accountWindow, hp, hc, contributeAll]

theorem accountWindow_blank {s : State} (ev : CompletedWindow) (h : s.selector.content = none) :
    s.accountWindow ev = s := by
  unfold accountWindow
  rw [h]
  cases s.selector.active <;> rfl

/-- The accounts after a window has been accounted (R51, R57). -/
theorem accountWindow_get {s : State} (v : Fin 2) (w : Window) (table : PhasorTable) {p : Fin 8} {c : PlanContent}
    (hp : s.selector.active = some p) (hc : s.selector.content = some c) (a : Fin 16) :
    (s.accountWindow ⟨v, table, w.ownsSet, w.ownsTap, w.binding⟩).accounts.get a =
      if s.isEnabled a = true ∧ c.memberTaps a w ≠ [] then
        (s.accounts.get a).contribute
          ((⟨v, table, w.ownsSet, w.ownsTap, w.binding⟩ : CompletedWindow).contribution (c.memberTaps a w)) p
      else s.accounts.get a := by
  rw [accountWindow_plan _ hp hc, contributeAll_get_all]
  simp only [CompletedWindow.tapsOf_eq, Bool.and_eq_true, Bool.not_eq_true', List.isEmpty_eq_false_iff]

theorem accountWindow_eq (s : State) (ev : CompletedWindow) : s.accountWindow ev =
    { s with accounts := (s.accountWindow ev).accounts, notices := (s.accountWindow ev).notices } := by
  cases hp : s.selector.active with
  | none => rw [accountWindow_none ev hp]
  | some p =>
    cases hc : s.selector.content with
    | none => rw [accountWindow_blank ev hc]
    | some c =>
      rw [accountWindow_plan ev hp hc]
      exact contributeAll_eq ..

theorem accountWindow_counts (s : State) (ev : CompletedWindow) :
    (s.accountWindow ev).notices.counts = s.notices.counts := by
  cases hp : s.selector.active with
  | none => rw [accountWindow_none ev hp]
  | some p =>
    cases hc : s.selector.content with
    | none => rw [accountWindow_blank ev hc]
    | some c =>
      rw [accountWindow_plan ev hp hc]
      exact contributeAll_counts ..

theorem exportWindow_eq (s : State) (ev : CompletedWindow) :
    s.exportWindow ev = { s with tie := (s.exportWindow ev).tie } := by
  unfold exportWindow
  split <;> rfl

/-! ### The completion, before a plan switch (R28) -/

/-- The completed window `w` of timebase `v` handed to accounts and tie link. -/
def accountedFor (s : State) (v : Fin 2) (w : Window) : State :=
  ((s.finishWindow v w).accountWindow (s.windowEvent v w)).exportWindow (s.windowEvent v w)

theorem accountedFor_eq (s : State) (v : Fin 2) (w : Window) : s.accountedFor v w =
    { s.finishWindow v w with
      accounts := ((s.finishWindow v w).accountWindow (s.windowEvent v w)).accounts
      notices := ((s.finishWindow v w).accountWindow (s.windowEvent v w)).notices
      tie := (s.accountedFor v w).tie } := by
  have h1 := (s.finishWindow v w).accountWindow_eq (s.windowEvent v w)
  have h2 := ((s.finishWindow v w).accountWindow (s.windowEvent v w)).exportWindow_eq (s.windowEvent v w)
  have hd : s.accountedFor v w = ((s.finishWindow v w).accountWindow (s.windowEvent v w)).exportWindow (s.windowEvent v w) := rfl
  rw [← hd] at h2
  generalize (s.finishWindow v w).accountWindow (s.windowEvent v w) = u at h1 h2 ⊢
  rw [h2, h1]

/-- What a completion leaves as it was before a plan switch. -/
theorem accountedFor_kept (s : State) (v : Fin 2) (w : Window) : (s.accountedFor v w).selector = s.selector ∧
    (s.accountedFor v w).op = s.op ∧ (s.accountedFor v w).settings = s.settings := by
  rw [accountedFor_eq, finishWindow_eq]
  exact ⟨rfl, rfl, rfl⟩

/-- The accounts after the completion, read as the claims do. -/
theorem accountedFor_get (s : State) (v : Fin 2) (w : Window) (a : Fin 16) :
    (s.accountedFor v w).accounts.get a = s.accounted v w (w.toTable s.channels) a := by
  have hacc : (s.accountedFor v w).accounts = ((s.finishWindow v w).accountWindow (s.windowEvent v w)).accounts := by
    rw [accountedFor_eq]
  have hev : s.windowEvent v w = ⟨v, w.toTable s.channels, w.ownsSet, w.ownsTap, w.binding⟩ := by rw [windowEvent]
  have hsel : (s.finishWindow v w).selector = s.selector := by rw [finishWindow_eq]
  have hactive := congrArg Selector.active hsel
  have hcontent := congrArg Selector.content hsel
  have hac : (s.finishWindow v w).accounts = s.accounts := by rw [finishWindow_eq]
  have hset : (s.finishWindow v w).settings = s.settings := by rw [finishWindow_eq]
  have hen : (s.finishWindow v w).isEnabled a = s.isEnabled a := by simp only [isEnabled, hset]
  rw [hacc, accounted]
  cases hp : s.selector.active with
  | none => rw [accountWindow_none _ (hactive.trans hp), hac]
  | some p =>
    cases hc : s.selector.content with
    | none => rw [accountWindow_blank _ (hcontent.trans hc), hac]
    | some c => rw [hev, accountWindow_get v w _ (hactive.trans hp) (hcontent.trans hc), hac, hen]

theorem accountedFor_timebases (s : State) (v : Fin 2) (w : Window) : (s.accountedFor v w).timebases =
    s.timebases.put v ⟨nextNumber w.number, none, some (w.toTable s.channels)⟩ := by
  rw [accountedFor_eq, finishWindow_eq]

theorem accountedFor_table (s : State) (v : Fin 2) (w : Window) :
    ((s.accountedFor v w).timebases.get v).table = some (w.toTable s.channels) := by
  rw [accountedFor_timebases, Table.get_put_same]

/-- No plan switch is applied (R41): the timebase does not govern, no switch is pending, or the part is not in RUNNING. -/
theorem governSwitch_none {s : State} {v : Fin 2} (n : Nat)
    (h : s.arrangement.governing ≠ v ∨ s.selector.pendingPlan = none ∨ s.op ≠ .running) : s.governSwitch v n = s := by
  unfold governSwitch
  obtain h | h | h := h
  · simp [h]
  · simp [h]
  · simp [h]

theorem exec_windowComplete {s : State} (ha : s.stopped = false) (v : Fin 2) :
    exec (.windowComplete v) s = .next (s.windowComplete v) := by
  have h : exec (.windowComplete v) s = .next (s.whenAlive (State.windowComplete v)) := rfl
  rw [h, whenAlive_running _ _ ha]

theorem windowComplete_due {s : State} {v : Fin 2} {w : Window} (hw : (s.timebases.get v).window = some w)
    (hn : w.n ≤ w.rows.length) : s.windowComplete v = (s.accountedFor v w).governSwitch v w.number := by
  have hc : w.complete = true := decide_eq_true hn
  simp only [windowComplete, hw, hc, if_true]
  rfl

theorem windowComplete_none {s : State} {v : Fin 2}
    (h : ∀ w, (s.timebases.get v).window = some w → w.rows.length < w.n) : s.windowComplete v = s := by
  unfold windowComplete
  split
  · next w hw =>
    have hc : ¬ w.complete = true := fun hc => Nat.not_le_of_lt (h w hw) (of_decide_eq_true hc)
    rw [if_neg hc]
  · rfl

/-- A completion with no plan switch (R28). -/
theorem exec_windowComplete_plain {s : State} {v : Fin 2} {w : Window} (ha : s.stopped = false)
    (hw : (s.timebases.get v).window = some w) (hn : w.n ≤ w.rows.length)
    (h : s.arrangement.governing ≠ v ∨ s.selector.pendingPlan = none ∨ s.op ≠ .running) :
    exec (.windowComplete v) s = .next (s.accountedFor v w) := by
  have hgov : (s.accountedFor v w).governSwitch v w.number = s.accountedFor v w := by
    obtain ⟨hsel, hop, -⟩ := s.accountedFor_kept v w
    refine governSwitch_none w.number ?_
    rw [arrangement, hsel, hop]
    exact h
  rw [exec_windowComplete ha, windowComplete_due hw hn, hgov]

end State

/-- Settles O15: the accounts after the completion. -/
theorem windowIsAccounted : Obligations.WindowIsAccounted := by
  intro s v w ha hw hn hplain
  refine ⟨_, w.toTable s.channels, State.exec_windowComplete_plain ha hw hn hplain, s.accountedFor_table v w, fun hp => ?_,
    fun p c hp hc a => ?_⟩
  · refine Table.ext_get fun a => ?_
    rw [State.accountedFor_get, State.accounted, hp]
  · rw [State.accountedFor_get]
    simp only [State.accounted, hp, hc]

end Sys2Proof.Machine
end

section
/-! PROOFS. Selection and the plan switch (O17), and the completion of a window with or without one (O13). -/

/- The whole text is compiled as one file: these proofs are elaborated one after another, to stay within its memory. -/
set_option Elab.async false

namespace Sys2Proof.Machine

/-! ### Selection (R37 to R39) -/

theorem Selector.fits_iff (x : Selector) (w : BitVec 8) (p : Fin 8) : x.fits w p = true ↔ x.matches w p := by
  unfold Selector.fits Selector.matches
  cases x.slots.get p <;> simp

theorem Selector.chosen_some (x : Selector) (w : BitVec 8) (p : Fin 8) :
    x.chosen w = some p ↔ x.matches w p ∧ ∀ q, q < p → ¬ x.matches w q := by
  rw [Selector.chosen, find?_finRange, Selector.fits_iff]
  simp only [← Selector.fits_iff, Bool.not_eq_true]

theorem Selector.chosen_none (x : Selector) (w : BitVec 8) : x.chosen w = none ↔ ∀ p, ¬ x.matches w p := by
  rw [Selector.chosen, List.find?_eq_none]
  simp [← Selector.fits_iff]

namespace State

/-- Selection before the first switch word does not run (R35). -/
theorem select_wordless {s : State} (h : s.selector.word = none) : s.select = s := by
  simp [select, h]

theorem select_unmatched {s : State} {w : BitVec 8} (h : s.selector.word = some w) (hn : ∀ p, ¬ s.selector.matches w p) :
    s.select = ({ s with selector := { s.selector with pendingPlan := none, unmatched := true } }).latch .unmatched := by
  simp only [select, h, (s.selector.chosen_none w).2 hn]

theorem select_matched {s : State} {w : BitVec 8} {p : Fin 8} (h : s.selector.word = some w)
    (hm : s.selector.matches w p) (hlow : ∀ q, q < p → ¬ s.selector.matches w q) :
    s.select = { s with selector := { s.selector with
      pendingPlan := if s.selector.active = some p ∧ s.selector.replacement = false then none else some p
      unmatched := false } } := by
  have hmark : (s.selector.active == some p && !s.selector.replacement) =
      decide (s.selector.active = some p ∧ s.selector.replacement = false) := by
    cases s.selector.replacement <;> simp [Bool.beq_eq_decide_eq]
  simp only [select, h, (s.selector.chosen_some w p).2 ⟨hm, hlow⟩, hmark, decide_eq_true_eq]

theorem exists_lowest {n : Nat} {P : Fin n → Prop} (h : ∃ p, P p) : ∃ p, P p ∧ ∀ q, q < p → ¬ P q := by
  classical
  cases hf : (List.finRange n).find? fun p => decide (P p) with
  | none =>
    obtain ⟨p, hp⟩ := h
    simp only [List.find?_eq_none, List.mem_finRange, decide_eq_true_eq, forall_true_left] at hf
    exact absurd hp (hf p)
  | some p =>
    obtain ⟨hp, hlow⟩ := (find?_finRange _ p).1 hf
    exact ⟨p, of_decide_eq_true hp, fun q hq => of_decide_eq_false (hlow q hq)⟩

/-- What selection on a switch word leaves (R37 to R39). -/
theorem select_selected {s : State} {w : BitVec 8} (h : s.selector.word = some w) :
    s.selector.selected s.select.selector w ∧
      ((∀ p, ¬ s.selector.matches w p) → s.select.notices.latched.getLsbD 3 = true) := by
  by_cases hm : ∃ p, s.selector.matches w p
  · obtain ⟨p, hp, hlow⟩ := exists_lowest hm
    rw [select_matched h hp hlow]
    refine ⟨⟨fun hn => absurd hp (hn p), fun q hq hqlow => ?_, rfl⟩, fun hn => absurd hp (hn p)⟩
    have hqp : q = p := by
      obtain hlt | heq | hgt := lt_trichotomy q p
      · exact absurd hq (hlow q hlt)
      · exact heq
      · exact absurd hp (hqlow p hgt)
    subst hqp
    exact ⟨rfl, rfl⟩
  · have hn : ∀ p, ¬ s.selector.matches w p := fun p hp => hm ⟨p, hp⟩
    rw [select_unmatched h hn]
    refine ⟨⟨fun _ => ⟨rfl, rfl⟩, fun q hq => absurd hq (hn q), rfl⟩, fun _ => ?_⟩
    exact (latch_getLsbD _ _ _).trans (by simp [Notice.bit])

/-- Selection changes the selector and the notices alone. -/
theorem select_eq (s : State) : s.select = { s with selector := s.select.selector, notices := s.select.notices } := by
  unfold select
  split
  · rfl
  · split <;> rfl

theorem select_counts (s : State) : s.select.notices.counts = s.notices.counts := by
  unfold select
  split
  · rfl
  · split
    · exact latch_counts _ _
    · rfl

theorem latch_within (s : State) (x : Notice) : s.notices.within (s.latch x).notices := s.latchIf_within true x

theorem select_within (s : State) : s.notices.within s.select.notices := by
  unfold select
  split
  · exact ⟨fun _ h => h, fun _ h => h, fun _ h => h⟩
  · split
    · exact latch_within { s with selector := { s.selector with pendingPlan := none, unmatched := true } } .unmatched
    · exact ⟨fun _ h => h, fun _ h => h, fun _ h => h⟩

/-! ### The other timebase where the arrangement changes (R15, R29, R42) -/

/-- The window in progress of the other timebase, if there is one, abandoned and counted. -/
def abandonOther (s : State) (old : Option PlanContent) (v : Fin 2) : State :=
  match (s.timebases.get (other v)).window with
  | some w => (s.abandonWindow (other v) w).countAbandonedAccounts old w
  | none => s

theorem rearrange_def (s : State) (old : Option PlanContent) (v : Fin 2) (a : Arrangement) :
    s.rearrange old v a = (s.abandonOther old v).arrangeTrackers a := rfl

theorem onWindow_iff (c : PlanContent) (a : Fin 16) (w : Window) : c.onWindow a w = true ↔ c.loses a w := by
  simp only [PlanContent.onWindow, PlanContent.loses, List.any_eq_true, Bool.and_eq_true, beq_iff_eq]
  refine exists_congr fun m => and_congr_right fun _ => and_congr_right fun _ => ?_
  cases m.point <;> simp

/-- The account has lost the window of the other timebase (R42). -/
def losesOther (s : State) (old : Option PlanContent) (v : Fin 2) (a : Fin 16) : Prop :=
  s.isEnabled a = true ∧ ∃ c w, old = some c ∧ (s.timebases.get (other v)).window = some w ∧ c.loses a w

theorem abandonWindow_eq (s : State) (v : Fin 2) (w : Window) : s.abandonWindow v w =
    { s with
      channels := (s.clearClips w).channels
      timebases := s.timebases.change v fun tb => { tb with window := none }
      notices := { s.notices with abandoned := bump s.notices.abandoned } } := by
  simp only [abandonWindow, clearClips, countAbandoned]

open Classical in
theorem abandonOther_account (s : State) (old : Option PlanContent) (v : Fin 2) (a : Fin 16) :
    (s.abandonOther old v).accounts.get a = if s.losesOther old v a then
      { s.accounts.get a with abandoned := min 65535 ((s.accounts.get a).abandoned + 1) } else s.accounts.get a := by
  unfold abandonOther losesOther
  cases hw : (s.timebases.get (other v)).window with
  | none => simp
  | some w =>
    cases old with
    | none => simp [countAbandonedAccounts, abandonWindow, clearClips, countAbandoned]
    | some c =>
      simp only [countAbandonedAccounts, mapAccounts_get, isEnabled, abandonWindow_eq, Bool.and_eq_true, onWindow_iff, Option.some.injEq, exists_and_left, exists_eq_left', satAdd, Config.max16]

theorem countAbandonedAccounts_eq (s : State) (old : Option PlanContent) (w : Window) :
    s.countAbandonedAccounts old w = { s with accounts := (s.countAbandonedAccounts old w).accounts } := by
  cases old <;> rfl

theorem abandonOther_eq (s : State) (old : Option PlanContent) (v : Fin 2) : s.abandonOther old v =
    { s with
      accounts := (s.abandonOther old v).accounts, channels := (s.abandonOther old v).channels
      timebases := s.timebases.change (other v) fun tb => { tb with window := none }
      notices := { s.notices with abandoned :=
        (if (s.timebases.get (other v)).window.isSome then bump s.notices.abandoned
          else s.notices.abandoned) } } := by
  unfold abandonOther
  cases hw : (s.timebases.get (other v)).window with
  | none =>
    have htb : (s.timebases.change (other v) fun tb => { tb with window := none }) = s.timebases := by
      refine Table.ext_get fun u => ?_
      by_cases hu : other v = u
      · subst hu
        rw [Table.get_change_same, ← hw]
      · rw [Table.get_change_other _ _ _ _ hu]
    rw [htb]
    rfl
  | some w =>
    dsimp only
    rw [countAbandonedAccounts_eq, abandonWindow_eq]
    simp only [Option.isSome_some, if_true]

theorem abandonOther_channel (s : State) (old : Option PlanContent) (v : Fin 2) (c : Fin 30) :
    ((∃ w, (s.timebases.get (other v)).window = some w ∧ ownsChannel w.ownsSet w.ownsTap c = true) →
      (s.abandonOther old v).channels.get c = { s.channels.get c with clip := false }) ∧
    ((¬ ∃ w, (s.timebases.get (other v)).window = some w ∧ ownsChannel w.ownsSet w.ownsTap c = true) →
      (s.abandonOther old v).channels.get c = s.channels.get c) := by
  unfold abandonOther
  cases hw : (s.timebases.get (other v)).window with
  | none => exact ⟨fun ⟨_, h, _⟩ => (nomatch h), fun _ => rfl⟩
  | some w =>
    have hch : ((s.abandonWindow (other v) w).countAbandonedAccounts old w).channels = (s.clearClips w).channels := by
      rw [countAbandonedAccounts_eq, abandonWindow_eq]
    dsimp only
    rw [hch, clearClips_get]
    refine ⟨fun ⟨x, hx, ho⟩ => ?_, fun h => ?_⟩
    · obtain rfl := Option.some.inj hx
      simp [ho]
    · have ho : ownsChannel w.ownsSet w.ownsTap c = false := Bool.eq_false_iff.2 fun ho => h ⟨w, rfl, ho⟩
      simp [ho]

/-- The trackers arranged, the marks of the windows in progress refreshed (R15, R26). -/
theorem arrangeTrackers_eq (s : State) (a : Arrangement) : s.arrangeTrackers a =
    { s with
      trackers := s.trackers.each fun u x => x.arrange u a, timebases := (s.arrangeTrackers a).timebases
      notices := { s.notices with lows := (s.arrangeTrackers a).notices.lows } } := rfl

/-- A timebase with no window in progress keeps its place where marks are refreshed. -/
theorem arrangeTrackers_timebase {s : State} {a : Arrangement} {u : Fin 2} (h : (s.timebases.get u).window = none) :
    (s.arrangeTrackers a).timebases.get u = s.timebases.get u := by
  have ht : (s.arrangeTrackers a).timebases.get u =
      { s.timebases.get u with window := (s.timebases.get u).window.map fun w =>
        { w with locked := w.locked &&
          (((s.trackers.each fun u x => x.arrange u a).get (w.joined.getD u)).state == .locked) } } := by
    simp [arrangeTrackers, refreshLocks, recordLows]
  rw [ht, h, Option.map_none, ← h]

/-! ### INCOMPLETE of the new content (R54) -/

theorem peerMissing_iff (s : State) (a : Fin 16) : s.peerMissing a = true ↔ s.tie.state ≠ .pairedPrimary ∧
    ∃ c, s.selector.content = some c ∧ ∃ m ∈ c.members, m.account = a ∧ ∃ j, m.point = .peer j := by
  unfold peerMissing
  cases s.selector.content with
  | none => simp
  | some c =>
    simp only [Bool.and_eq_true, bne_iff_ne, List.any_eq_true, Member.isPeerOf, beq_iff_eq, Option.some.injEq,
      exists_eq_left']
    refine and_congr_right fun _ => exists_congr fun m => and_congr_right fun _ => and_congr_right fun _ => ?_
    cases m.point <;> simp

theorem testPeers_account (s : State) (a : Fin 16) :
    (s.isEnabled a = true ∧ s.peerMissing a = true →
      s.testPeers.accounts.get a =
        { s.accounts.get a with flags := { (s.accounts.get a).flags with incomplete := true } }) ∧
    (¬ (s.isEnabled a = true ∧ s.peerMissing a = true) → s.testPeers.accounts.get a = s.accounts.get a) := by
  rw [testPeers_get, ← Bool.and_eq_true]
  exact ⟨fun h => if_pos h, fun h => if_neg h⟩

theorem testPeers_eq (s : State) : s.testPeers = { s with accounts := s.testPeers.accounts } := rfl

/-! ### The topology record (R43) -/

theorem placeTopology_room {s : State} (r : TopologyRecord) (h : s.queue.length < 32) :
    s.placeTopology r = { s with queue := s.queue ++ [.topology r] } := if_pos h

theorem placeTopology_dropped {s : State} (r : TopologyRecord) (h : 32 ≤ s.queue.length) : s.placeTopology r =
    { s with notices := { s.notices with droppedTopology := bump s.notices.droppedTopology } } :=
  if_neg (Nat.not_lt_of_le h)

theorem placeTopology_eq (s : State) (r : TopologyRecord) : s.placeTopology r =
    { s with
      queue := (s.placeTopology r).queue
      notices := { s.notices with droppedTopology := (s.placeTopology r).notices.droppedTopology } } := by
  by_cases h : s.queue.length < 32
  · rw [placeTopology_room r h]
  · rw [placeTopology_dropped r (Nat.le_of_not_lt h)]

/-! ### The switch applied (R41 to R43) -/

/-- The target made the active plan, marker and replacement mark cleared. -/
def switched (s : State) (p : Fin 8) (c : PlanContent) : State :=
  { s with selector := { s.selector with active := some p, content := some c, pendingPlan := none, replacement := false } }

/-- The switch with its topology record. -/
def switchRecorded (s : State) (v : Fin 2) (n : Nat) (p : Fin 8) (c : PlanContent) : State :=
  (s.switched p c).placeTopology (s.topologyOf v n p (c.arrangement != s.arrangement))

/-- The switch with windows and trackers as the new arrangement leaves them. -/
def switchArranged (s : State) (v : Fin 2) (n : Nat) (p : Fin 8) (c : PlanContent) : State :=
  if c.arrangement != s.arrangement then
    ((s.switchRecorded v n p c).abandonOther s.selector.content v).arrangeTrackers c.arrangement
  else s.switchRecorded v n p c

/-- The switch with its notice and the accounts' INCOMPLETE, before a replacement selects anew. -/
def switchNoted (s : State) (v : Fin 2) (n : Nat) (p : Fin 8) (c : PlanContent) : State :=
  ((s.switchArranged v n p c).latch .planSwitched).testPeers

theorem applyPlan_def (s : State) (v : Fin 2) (n : Nat) (p : Fin 8) (c : PlanContent) : s.applyPlan v n p c =
    if s.selector.active == some p then (s.switchNoted v n p c).select else s.switchNoted v n p c := rfl

section
variable (s : State) (v : Fin 2) (n : Nat) (p : Fin 8) (c : PlanContent)

theorem switchRecorded_eq : s.switchRecorded v n p c =
    { s with
      selector := (s.switched p c).selector
      queue := (s.switchRecorded v n p c).queue
      notices := { s.notices with droppedTopology := (s.switchRecorded v n p c).notices.droppedTopology } } :=
  placeTopology_eq _ _

theorem switchArranged_same (h : c.arrangement = s.arrangement) : s.switchArranged v n p c = s.switchRecorded v n p c :=
  if_neg (by simp [h])

theorem switchArranged_other (h : c.arrangement ≠ s.arrangement) : s.switchArranged v n p c =
    ((s.switchRecorded v n p c).abandonOther s.selector.content v).arrangeTrackers c.arrangement :=
  if_pos (by simp [h])

theorem switchArranged_eq : s.switchArranged v n p c =
    { s with
      selector := (s.switched p c).selector
      queue := (s.switchRecorded v n p c).queue
      timebases := (s.switchArranged v n p c).timebases, channels := (s.switchArranged v n p c).channels
      trackers := (s.switchArranged v n p c).trackers, accounts := (s.switchArranged v n p c).accounts
      notices := (s.switchArranged v n p c).notices } := by
  have hr := s.switchRecorded_eq v n p c
  by_cases h : c.arrangement = s.arrangement
  · rw [switchArranged_same s v n p c h, hr]
  · rw [switchArranged_other s v n p c h]
    generalize s.switchRecorded v n p c = u at hr ⊢
    have ho := u.abandonOther_eq s.selector.content v
    generalize u.abandonOther s.selector.content v = x at ho ⊢
    have ht := x.arrangeTrackers_eq c.arrangement
    generalize x.arrangeTrackers c.arrangement = y at ht ⊢
    generalize u.queue = q at hr ⊢
    rw [ht, ho, hr]

/-- The counters after a switch: a dropped record and an abandoned window (R29, R43). -/
theorem switchArranged_counts : (s.switchArranged v n p c).notices.droppedTopology =
      (s.switchRecorded v n p c).notices.droppedTopology ∧
    (s.switchArranged v n p c).notices.abandoned =
      (if c.arrangement ≠ s.arrangement ∧ (s.timebases.get (other v)).window ≠ none then bump s.notices.abandoned
        else s.notices.abandoned) := by
  have hr := s.switchRecorded_eq v n p c
  have hra : (s.switchRecorded v n p c).notices.abandoned = s.notices.abandoned := by rw [hr]
  have hrt : (s.switchRecorded v n p c).timebases = s.timebases := by rw [hr]
  by_cases h : c.arrangement = s.arrangement
  · rw [switchArranged_same s v n p c h, hra]
    simp [h]
  · rw [switchArranged_other s v n p c h, arrangeTrackers_eq, abandonOther_eq, hra, hrt]
    refine ⟨rfl, ?_⟩
    cases hw : (s.timebases.get (other v)).window <;> simp [h]

theorem other_ne : other v ≠ v := by
  revert v
  decide

theorem switchArranged_timebases (hv : (s.timebases.get v).window = none) :
    (s.switchArranged v n p c).timebases.get v = s.timebases.get v ∧
    (c.arrangement = s.arrangement → (s.switchArranged v n p c).timebases.get (other v) = s.timebases.get (other v)) ∧
    (c.arrangement ≠ s.arrangement → (s.switchArranged v n p c).timebases.get (other v) =
      { s.timebases.get (other v) with window := none }) := by
  have hrt : (s.switchRecorded v n p c).timebases = s.timebases := by rw [switchRecorded_eq]
  by_cases h : c.arrangement = s.arrangement
  · rw [switchArranged_same s v n p c h, hrt]
    exact ⟨rfl, fun _ => rfl, fun hn => absurd h hn⟩
  · have ho : ((s.switchRecorded v n p c).abandonOther s.selector.content v).timebases =
        s.timebases.change (other v) fun tb => { tb with window := none } := by rw [abandonOther_eq, hrt]
    have hgv : ((s.switchRecorded v n p c).abandonOther s.selector.content v).timebases.get v = s.timebases.get v := by
      rw [ho, Table.get_change_other _ _ _ _ (other_ne v)]
    have hgo : ((s.switchRecorded v n p c).abandonOther s.selector.content v).timebases.get (other v) =
        { s.timebases.get (other v) with window := none } := by rw [ho, Table.get_change_same]
    rw [switchArranged_other s v n p c h]
    refine ⟨?_, fun hs => absurd hs h, fun _ => ?_⟩
    · rw [arrangeTrackers_timebase (by rw [hgv, hv]), hgv]
    · rw [arrangeTrackers_timebase (by rw [hgo]), hgo]

theorem switchArranged_trackers (u : Fin 2) : (s.switchArranged v n p c).trackers.get u =
    if c.arrangement = s.arrangement then s.trackers.get u else (s.trackers.get u).arrange u c.arrangement := by
  have hrt : (s.switchRecorded v n p c).trackers = s.trackers := by rw [switchRecorded_eq]
  by_cases h : c.arrangement = s.arrangement
  · rw [switchArranged_same s v n p c h, hrt, if_pos h]
  · rw [switchArranged_other s v n p c h, arrangeTrackers_eq, abandonOther_eq, hrt, if_neg h]
    simp

theorem switchArranged_channel (ch : Fin 30) :
    (c.arrangement ≠ s.arrangement ∧
        (∃ w, (s.timebases.get (other v)).window = some w ∧ ownsChannel w.ownsSet w.ownsTap ch = true) →
      (s.switchArranged v n p c).channels.get ch = { s.channels.get ch with clip := false }) ∧
    (¬ (c.arrangement ≠ s.arrangement ∧
        (∃ w, (s.timebases.get (other v)).window = some w ∧ ownsChannel w.ownsSet w.ownsTap ch = true)) →
      (s.switchArranged v n p c).channels.get ch = s.channels.get ch) := by
  have hrc : (s.switchRecorded v n p c).channels = s.channels := by rw [switchRecorded_eq]
  have hrt : (s.switchRecorded v n p c).timebases = s.timebases := by rw [switchRecorded_eq]
  by_cases h : c.arrangement = s.arrangement
  · rw [switchArranged_same s v n p c h, hrc]
    exact ⟨fun hn => absurd h hn.1, fun _ => rfl⟩
  · obtain ⟨h1, h2⟩ := (s.switchRecorded v n p c).abandonOther_channel s.selector.content v ch
    rw [hrt, hrc] at h1 h2
    rw [switchArranged_other s v n p c h, arrangeTrackers_eq]
    exact ⟨fun hn => h1 hn.2, fun hn => h2 fun hw => hn ⟨h, hw⟩⟩

open Classical in
theorem switchArranged_account (a : Fin 16) : (s.switchArranged v n p c).accounts.get a =
    if c.arrangement ≠ s.arrangement ∧ s.losesOther s.selector.content v a then
      { s.accounts.get a with abandoned := min 65535 ((s.accounts.get a).abandoned + 1) } else s.accounts.get a := by
  have hr := s.switchRecorded_eq v n p c
  have hra : (s.switchRecorded v n p c).accounts = s.accounts := by rw [hr]
  have hrt : (s.switchRecorded v n p c).timebases = s.timebases := by rw [hr]
  have hrs : (s.switchRecorded v n p c).settings = s.settings := by rw [hr]
  by_cases h : c.arrangement = s.arrangement
  · rw [switchArranged_same s v n p c h, hra, if_neg fun hn => hn.1 h]
  · have hl : (s.switchRecorded v n p c).losesOther s.selector.content v a ↔ s.losesOther s.selector.content v a := by
      simp only [losesOther, isEnabled, hrt, hrs]
    rw [switchArranged_other s v n p c h, arrangeTrackers_eq]
    refine ((s.switchRecorded v n p c).abandonOther_account s.selector.content v a).trans ?_
    rw [hra]
    by_cases ha : s.losesOther s.selector.content v a
    · rw [if_pos (hl.2 ha), if_pos ⟨h, ha⟩]
    · rw [if_neg (mt hl.1 ha), if_neg fun hn => ha hn.2]

end

end State
end Sys2Proof.Machine
end

section
/-! PROOFS. The completion of a window taken whole (O13), and with the pending plan switch applied (O17). -/

/- The whole text is compiled as one file: these proofs are elaborated one after another, to stay within its memory. -/
set_option Elab.async false

namespace Sys2Proof.Machine

theorem Tie.summaryDue_state (x : Tie) (y : Summary) : (x.summaryDue y).state = x.state := by
  unfold Tie.summaryDue
  repeat' split
  all_goals rfl

namespace State

theorem exportWindow_state (s : State) (ev : CompletedWindow) : (s.exportWindow ev).tie.state = s.tie.state := by
  unfold exportWindow
  split
  · exact (Tie.transmit_state _).trans (Tie.summaryDue_state _ _)
  · rfl

/-! ### The switch whole -/

section
variable (s : State) (v : Fin 2) (n : Nat) (p : Fin 8) (c : PlanContent)

theorem switchNoted_eq : s.switchNoted v n p c =
    { s.switchArranged v n p c with
      accounts := (s.switchNoted v n p c).accounts, notices := (s.switchNoted v n p c).notices } := rfl

theorem switchNoted_notices :
    (s.switchNoted v n p c).notices = ((s.switchArranged v n p c).latch .planSwitched).notices := rfl

theorem switchNoted_selector : (s.switchNoted v n p c).selector = (s.switched p c).selector := by
  rw [switchNoted_eq, switchArranged_eq]

theorem switchNoted_account (a : Fin 16) :
    let x := (s.switchArranged v n p c).accounts.get a
    let peer := s.isEnabled a = true ∧ s.tie.state ≠ .pairedPrimary ∧
      ∃ m ∈ c.members, m.account = a ∧ ∃ j, m.point = .peer j
    (peer → (s.switchNoted v n p c).accounts.get a = { x with flags := { x.flags with incomplete := true } }) ∧
    (¬ peer → (s.switchNoted v n p c).accounts.get a = x) := by
  intro x peer
  have hr := s.switchArranged_eq v n p c
  have hset : ((s.switchArranged v n p c).latch .planSwitched).settings = s.settings := by rw [latch_eq, hr]
  have htie : ((s.switchArranged v n p c).latch .planSwitched).tie = s.tie := by rw [latch_eq, hr]
  have hsel : ((s.switchArranged v n p c).latch .planSwitched).selector = (s.switched p c).selector := by
    rw [latch_eq, hr]
  have hcontent := congrArg Selector.content hsel
  obtain ⟨h1, h2⟩ := ((s.switchArranged v n p c).latch .planSwitched).testPeers_account a
  have hiff : ((s.switchArranged v n p c).latch .planSwitched).isEnabled a = true ∧
      ((s.switchArranged v n p c).latch .planSwitched).peerMissing a = true ↔ peer := by
    rw [peerMissing_iff, htie, hcontent, isEnabled, hset]
    simp [peer, switched, isEnabled]
  exact ⟨fun h => h1 (hiff.2 h), fun h => h2 (mt hiff.1 h)⟩

/-- The state after a switch: the noted one, but for selector and notices where a replacement selects anew. -/
theorem applyPlan_eq : s.applyPlan v n p c =
    { s.switchNoted v n p c with
      selector := (s.applyPlan v n p c).selector, notices := (s.applyPlan v n p c).notices } := by
  rw [applyPlan_def]
  split
  · exact select_eq _
  · rfl

theorem applyPlan_within : (s.switchNoted v n p c).notices.within (s.applyPlan v n p c).notices := by
  rw [applyPlan_def]
  split
  · exact select_within _
  · exact ⟨fun _ h => h, fun _ h => h, fun _ h => h⟩

theorem applyPlan_counts : (s.applyPlan v n p c).notices.counts = (s.switchArranged v n p c).notices.counts := by
  have hn : (s.switchNoted v n p c).notices.counts = (s.switchArranged v n p c).notices.counts :=
    latch_counts _ .planSwitched
  rw [applyPlan_def, ← hn]
  split
  · exact select_counts _
  · rfl

theorem applyPlan_switched : (s.applyPlan v n p c).notices.latched.getLsbD 4 = true := by
  refine (s.applyPlan_within v n p c).1 4 ?_
  rw [switchNoted_notices, latch_getLsbD]
  simp [Notice.bit]

/-- The selector after a switch, where a replacement selects anew and where not (R37, R41). -/
theorem applyPlan_selector :
    (s.selector.active ≠ some p ∨ s.selector.word = none →
      (s.applyPlan v n p c).selector = (s.switched p c).selector) ∧
    ∀ word, s.selector.active = some p → s.selector.word = some word →
      (s.switched p c).selector.selected (s.applyPlan v n p c).selector word ∧
        ((∀ q, ¬ (s.switched p c).selector.matches word q) →
          (s.applyPlan v n p c).notices.latched.getLsbD 3 = true) := by
  have hsel := s.switchNoted_selector v n p c
  have hword : (s.switchNoted v n p c).selector.word = s.selector.word := by
    rw [hsel]
    rfl
  refine ⟨fun h => ?_, fun word ha hw => ?_⟩
  · rw [applyPlan_def]
    obtain h | h := h
    · rw [if_neg (by simpa using h), hsel]
    · rw [select_wordless (hword.trans h), ite_self, hsel]
  · have hsp := select_selected (hword.trans hw)
    rw [hsel] at hsp
    rw [applyPlan_def, if_pos (by simp [ha])]
    exact hsp

/-- What a switch leaves of the selector besides marker and unmatched indication (R41). -/
theorem applyPlan_plan : (s.applyPlan v n p c).selector.active = some p ∧
    (s.applyPlan v n p c).selector.content = some c ∧ (s.applyPlan v n p c).selector.replacement = false ∧
    (s.applyPlan v n p c).selector.slots = s.selector.slots := by
  obtain ⟨h1, h2⟩ := s.applyPlan_selector v n p c
  by_cases h : s.selector.active ≠ some p ∨ s.selector.word = none
  · rw [h1 h]
    exact ⟨rfl, rfl, rfl, rfl⟩
  · rw [not_or, not_not] at h
    obtain ⟨ha, hw⟩ := h
    obtain ⟨word, hw⟩ := Option.ne_none_iff_exists'.1 hw
    obtain ⟨⟨-, -, hframe⟩, -⟩ := h2 word ha hw
    exact ⟨congrArg Selector.active hframe, congrArg Selector.content hframe, congrArg Selector.replacement hframe,
      (congrArg Selector.slots hframe).trans rfl⟩

/-- The queue and the count of dropped records after a switch (R43). -/
theorem applyPlan_record :
    (s.queue.length < 32 → (s.applyPlan v n p c).queue =
      s.queue ++ [.topology (s.topologyOf v n p (c.arrangement != s.arrangement))]) ∧
    (32 ≤ s.queue.length → (s.applyPlan v n p c).queue = s.queue ∧
      (s.applyPlan v n p c).notices.droppedTopology = bump s.notices.droppedTopology) := by
  have hq : (s.applyPlan v n p c).queue = (s.switchRecorded v n p c).queue := by
    rw [applyPlan_eq, switchNoted_eq, switchArranged_eq]
  have hd : (s.applyPlan v n p c).notices.droppedTopology = (s.switchRecorded v n p c).notices.droppedTopology := by
    have h := congrArg (fun x => x.2.2.2.2.2.2.2) (s.applyPlan_counts v n p c)
    exact h.trans (s.switchArranged_counts v n p c).1
  rw [hq, hd]
  refine ⟨fun h => ?_, fun h => ?_⟩
  · rw [switchRecorded, placeTopology_room (s := s.switched p c) _ h]
    rfl
  · rw [switchRecorded, placeTopology_dropped (s := s.switched p c) _ h]
    exact ⟨rfl, rfl⟩

/-- The count of abandoned windows after a switch (R29). -/
theorem applyPlan_abandoned : (s.applyPlan v n p c).notices.abandoned =
    if c.arrangement ≠ s.arrangement ∧ (s.timebases.get (other v)).window ≠ none then bump s.notices.abandoned
      else s.notices.abandoned := by
  have h := congrArg (fun x => x.2.2.2.2.2.1) (s.applyPlan_counts v n p c)
  exact h.trans (s.switchArranged_counts v n p c).2

end

/-! ### The governing timebase (R40, R41) -/

theorem governSwitch_applies {s : State} {v : Fin 2} {p : Fin 8} {sl : PlanSlot} (n : Nat)
    (hg : s.arrangement.governing = v) (ho : s.op = .running) (hp : s.selector.pendingPlan = some p)
    (hs : s.selector.slots.get p = some sl) : s.governSwitch v n = s.applyPlan v n p sl.content := by
  simp only [governSwitch, hg, ho, hp, Selector.slotContent, hs, Option.map_some, BEq.rfl, Bool.and_self, if_true]

/-- A completion either applies a switch or leaves the state. -/
theorem governSwitch_cases (s : State) (v : Fin 2) (n : Nat) :
    s.governSwitch v n = s ∨ ∃ p c, s.governSwitch v n = s.applyPlan v n p c := by
  unfold governSwitch
  repeat' split
  · exact .inl rfl
  · exact .inl rfl
  · exact .inr ⟨_, _, rfl⟩
  · exact .inl rfl

/-- A completion's own timebase and the codes of the channels stand through a switch. -/
theorem governSwitch_kept {s : State} {v : Fin 2} (n : Nat) (hv : (s.timebases.get v).window = none) :
    (s.governSwitch v n).timebases.get v = s.timebases.get v ∧ ∀ ch,
      ((s.governSwitch v n).channels.get ch = s.channels.get ch ∨
        (s.governSwitch v n).channels.get ch = { s.channels.get ch with clip := false }) := by
  obtain h | ⟨p, c, h⟩ := s.governSwitch_cases v n
  · rw [h]
    exact ⟨rfl, fun ch => .inl rfl⟩
  · obtain ⟨htb, -, -⟩ := s.switchArranged_timebases v n p c hv
    rw [h, applyPlan_eq, switchNoted_eq]
    refine ⟨htb, fun ch => ?_⟩
    obtain ⟨h1, h2⟩ := s.switchArranged_channel v n p c ch
    by_cases hc : c.arrangement ≠ s.arrangement ∧
        (∃ w, (s.timebases.get (other v)).window = some w ∧ ownsChannel w.ownsSet w.ownsTap ch = true)
    · exact .inr (h1 hc)
    · exact .inl (h2 hc)

/-! ### What the completion itself leaves -/

section
variable (s : State) (v : Fin 2) (w : Window)

theorem accountedFor_own : (s.accountedFor v w).timebases.get v =
    ⟨(w.number + 1) % 2 ^ 32, none, some (w.toTable s.channels)⟩ := by
  rw [accountedFor_timebases, Table.get_put_same, nextNumber]

theorem accountedFor_other : (s.accountedFor v w).timebases.get (other v) = s.timebases.get (other v) := by
  rw [accountedFor_timebases, Table.get_put_other _ _ _ _ (other_ne v).symm]

theorem accountedFor_channel (ch : Fin 30) : (s.accountedFor v w).channels.get ch =
    { s.channels.get ch with clip := (s.channels.get ch).clip && !ownsChannel w.ownsSet w.ownsTap ch } := by
  have h : (s.accountedFor v w).channels = (s.clearClips w).channels := by rw [accountedFor_eq, finishWindow_eq]
  rw [h, clearClips_get]

theorem accountedFor_tracker (u : Fin 2) : (s.accountedFor v w).trackers.get u =
    if u = w.joined.getD v ∧ (s.trackers.get u).state = .holdover then
      { s.trackers.get u with holdover := min 25 ((s.trackers.get u).holdover + 1) }
    else s.trackers.get u := by
  have h : (s.accountedFor v w).trackers = s.trackers.change (w.joined.getD v) Tracker.countWindow := by
    rw [accountedFor_eq, finishWindow_eq]
  rw [h]
  by_cases hu : u = w.joined.getD v
  · subst hu
    rw [Table.get_change_same, countWindow_eq]
    simp
  · rw [Table.get_change_other _ _ _ _ (Ne.symm hu), if_neg fun h => hu h.1]

theorem accountedFor_frame : s.accountedFor v w =
    { s with
      timebases := (s.accountedFor v w).timebases, channels := (s.accountedFor v w).channels
      trackers := (s.accountedFor v w).trackers, accounts := (s.accountedFor v w).accounts
      notices := (s.accountedFor v w).notices, tie := (s.accountedFor v w).tie } := by
  have h := s.accountedFor_eq v w
  have hf := s.finishWindow_eq v w
  generalize s.accountedFor v w = u at h ⊢
  generalize s.finishWindow v w = x at h hf
  subst hf
  rw [h]

theorem accountedFor_counts : (s.accountedFor v w).notices.counts = s.notices.counts := by
  have hn : (s.accountedFor v w).notices = ((s.finishWindow v w).accountWindow (s.windowEvent v w)).notices := by
    rw [accountedFor_eq]
  have hf : (s.finishWindow v w).notices = s.notices := by rw [finishWindow_eq]
  rw [hn, accountWindow_counts, hf]

theorem accountedFor_state : (s.accountedFor v w).tie.state = s.tie.state := by
  have h : ((s.finishWindow v w).accountWindow (s.windowEvent v w)).tie = s.tie := by
    rw [accountWindow_eq, finishWindow_eq]
  exact (exportWindow_state _ _).trans (congrArg Tie.state h)

end

/-! ### The table of a completed window (R25 to R27) -/

theorem entry_owned {w : Window} {c : Fin 30} (clip : Bool) (h : ownsChannel w.ownsSet w.ownsTap c = true) :
    (w.entry c clip).owned = true ∧ (w.entry c clip).held = w.held.get c ∧ (w.entry c clip).clip = clip ∧
      ((w.entry c clip).unused = true ↔ w.scale.get c = 0) := by
  unfold Window.entry
  rw [if_pos h]
  by_cases hs : w.scale.get c = 0 <;> simp [hs]

theorem entry_zero {w : Window} {c : Fin 30} (clip : Bool)
    (h : ownsChannel w.ownsSet w.ownsTap c = false ∨ w.scale.get c = 0) :
    (w.entry c clip).rms = 0 ∧ ∀ i, (w.entry c clip).phasors.get i = ⟨0, 0⟩ := by
  unfold Window.entry
  by_cases ho : ownsChannel w.ownsSet w.ownsTap c = true
  · have hs : w.scale.get c = 0 := h.resolve_left (by simp [ho])
    simp [ho, hs, Phasor.zero]
  · simp [ho, ChannelEntry.notOwned, Phasor.zero]

theorem entry_ownership (w : Window) (c : Fin 30) (clip : Bool) :
    (w.entry c clip).owned = ownsChannel w.ownsSet w.ownsTap c := by
  cases ho : ownsChannel w.ownsSet w.ownsTap c
  · simp [Window.entry, ho, ChannelEntry.notOwned]
  · exact (entry_owned clip ho).1

theorem toTable_entry (w : Window) (channels : Table Channel 30) (c : Fin 30) :
    (w.toTable channels).entries.get c = w.entry c (channels.get c).clip := by
  simp [Window.toTable]

end State

/-- Settles O13: the completion's own part, which a switch leaves. -/
theorem windowCompletes : Obligations.WindowCompletes := by
  refine ⟨fun s v w ha hw hn => ?_, fun s v ha h => ?_⟩
  · have hown := s.accountedFor_own v w
    obtain ⟨htb, hch⟩ := State.governSwitch_kept (s := s.accountedFor v w) (v := v) w.number (by rw [hown])
    have hexec : exec (.windowComplete v) s = .next ((s.accountedFor v w).governSwitch v w.number) := by
      rw [State.exec_windowComplete ha, State.windowComplete_due hw hn]
    refine ⟨_, w.toTable s.channels, hexec, htb.trans hown, rfl, rfl, rfl, rfl, rfl, ?_, rfl, fun c => ?_, fun c ho => ?_,
      fun c h => ?_, fun c => ?_, fun hplain => ?_⟩
    · simp [Window.toTable]
    · rw [State.toTable_entry, State.entry_ownership]
    · rw [State.toTable_entry] at ho ⊢
      rw [State.entry_ownership] at ho
      obtain ⟨-, h2, h3, h4⟩ := State.entry_owned (s.channels.get c).clip ho
      refine ⟨h2, h3, h4, ?_⟩
      have hA := s.accountedFor_channel v w c
      rw [ho, Bool.not_true, Bool.and_false] at hA
      obtain h | h := hch c
      · rw [h, hA]
      · rw [h]
    · rw [State.toTable_entry] at h ⊢
      rw [State.entry_ownership] at h
      exact State.entry_zero _ h
    · have hA := s.accountedFor_channel v w c
      obtain h | h := hch c
      · rw [h, hA]
        exact ⟨rfl, rfl⟩
      · rw [h, hA]
        exact ⟨rfl, rfl⟩
    · have ht := State.exec_windowComplete_plain ha hw hn hplain
      rw [hexec] at ht
      have hstate : (s.accountedFor v w).governSwitch v w.number = s.accountedFor v w := by
        injection ht
      rw [hstate]
      refine ⟨fun c ho => ?_, s.accountedFor_other v w, s.accountedFor_tracker v w, ?_⟩
      · rw [State.toTable_entry, State.entry_ownership] at ho
        rw [State.accountedFor_channel, ho]
        simp
      · rw [State.accountedFor_frame]
  · rw [State.exec_windowComplete ha, State.windowComplete_none h]

/-- Settles O17: the completion accounted under the old content, then the switch by its parts. -/
theorem planSwitchApplies : Obligations.PlanSwitchApplies := by
  classical
  intro s v w p sl ha ho hw hn hgov hp hs
  obtain ⟨hsel, hop, hset⟩ := s.accountedFor_kept v w
  have harr : (s.accountedFor v w).arrangement = s.arrangement := by simp only [State.arrangement, hsel]
  have hexec : exec (.windowComplete v) s =
      .next ((s.accountedFor v w).applyPlan v w.number p sl.content) := by
    rw [State.exec_windowComplete ha, State.windowComplete_due hw hn,
      State.governSwitch_applies w.number (harr ▸ hgov) (hop.trans ho) (by rw [hsel, hp]) (by rw [hsel, hs])]
  have hown := s.accountedFor_own v w
  have hother := s.accountedFor_other v w
  have hframe := s.accountedFor_frame v w
  have hcounts := s.accountedFor_counts v w
  have hstate := s.accountedFor_state v w
  have hchan := s.accountedFor_channel v w
  have htrack := s.accountedFor_tracker v w
  have haccount := s.accountedFor_get v w
  generalize s.accountedFor v w = A at *
  have hT := A.applyPlan_eq v w.number p sl.content
  have hN := A.switchNoted_eq v w.number p sl.content
  obtain ⟨hactive, hcontent, hrepl, hslots⟩ := A.applyPlan_plan v w.number p sl.content
  obtain ⟨hselected, hanew⟩ := A.applyPlan_selector v w.number p sl.content
  obtain ⟨hroom, hdropped⟩ := A.applyPlan_record v w.number p sl.content
  have habandoned := A.applyPlan_abandoned v w.number p sl.content
  obtain ⟨htv, hsame, hdiff⟩ := A.switchArranged_timebases v w.number p sl.content (by rw [hown])
  have hqueue : A.queue = s.queue := by rw [hframe]
  have hclock : A.clock = s.clock := by rw [hframe]
  have hcount7 : A.notices.droppedTopology = s.notices.droppedTopology := congrArg (fun x => x.2.2.2.2.2.2.2) hcounts
  have hcount5 : A.notices.abandoned = s.notices.abandoned := congrArg (fun x => x.2.2.2.2.2.1) hcounts
  have hTtime : (A.applyPlan v w.number p sl.content).timebases =
      (A.switchArranged v w.number p sl.content).timebases := by rw [hT, hN]
  rw [harr] at hsame hdiff habandoned
  rw [hother] at hsame hdiff habandoned
  rw [hcount5] at habandoned
  rw [hqueue] at hroom hdropped
  rw [hcount7] at hdropped
  refine ⟨_, w.toTable s.channels, hexec, ?_, hactive, hcontent, hrepl, by rw [hslots, hsel],
    A.applyPlan_switched v w.number p sl.content, ⟨fun h => ?_, fun word h1 h2 => ?_⟩, fun h => ?_, hdropped, fun h => ⟨?_, ?_⟩,
    fun h => ⟨?_, fun hne => ?_, fun he => ?_⟩, fun ch => ?_, fun u => ?_, fun a => ?_, ?_⟩
  · rw [hTtime, htv, hown]
  · rw [hselected (by rwa [hsel]), State.switched, hsel]
  · have h := hanew word (by rwa [hsel]) (by rwa [hsel])
    rwa [State.switched, hsel] at h
  · have hbool : (sl.content.arrangement != s.arrangement) = decide (sl.content.arrangement ≠ s.arrangement) := by
      by_cases hx : sl.content.arrangement = s.arrangement <;> simp [hx]
    rw [hroom h, State.topologyOf, hsel, hclock, harr, hother, hbool]
  · rw [hTtime, hsame h]
  · rw [habandoned, if_neg fun hn => hn.1 h]
  · rw [hTtime, hdiff h]
  · rw [habandoned, if_pos ⟨h, hne⟩, bump_eq]
  · rw [habandoned, if_neg fun hn => hn.2 he]
  · obtain ⟨h1, h2⟩ := A.switchArranged_channel v w.number p sl.content ch
    have hTch : (A.applyPlan v w.number p sl.content).channels =
        (A.switchArranged v w.number p sl.content).channels := by rw [hT, hN]
    rw [harr, hother, hchan] at h1 h2
    rw [hTch]
    refine ⟨fun hc => ?_, fun hc => ?_⟩
    · obtain hc | hc := hc
      · by_cases hx : sl.content.arrangement ≠ s.arrangement ∧ ∃ ow, (s.timebases.get (other v)).window = some ow ∧
            ownsChannel ow.ownsSet ow.ownsTap ch = true
        · rw [h1 hx]
        · rw [h2 hx, hc]
          simp
      · rw [h1 hc]
    · rw [not_or] at hc
      rw [h2 hc.2, Bool.eq_false_iff.2 hc.1]
      simp
  · have hTtr : (A.applyPlan v w.number p sl.content).trackers =
        (A.switchArranged v w.number p sl.content).trackers := by rw [hT, hN]
    rw [hTtr, State.switchArranged_trackers, htrack, harr]
  · intro x y lost peer
    have hTac : (A.applyPlan v w.number p sl.content).accounts =
        (A.switchNoted v w.number p sl.content).accounts := by rw [hT]
    have hen : A.isEnabled a = s.isEnabled a := by simp only [State.isEnabled, hset]
    have hacc := A.switchArranged_account v w.number p sl.content a
    obtain ⟨hp1, hp2⟩ := A.switchNoted_account v w.number p sl.content a
    have hlost : (sl.content.arrangement ≠ A.arrangement ∧ A.losesOther A.selector.content v a) ↔ lost := by
      simp only [State.losesOther, harr, hen, hsel, hother, lost]
    have hy : y = (A.switchNoted v w.number p sl.content).accounts.get a := congrArg (Table.get · a) hTac
    rw [haccount] at hacc
    rw [hen, hstate, ← hy] at hp1 hp2
    have hx : (A.switchArranged v w.number p sl.content).accounts.get a =
        if lost then { x with abandoned := min 65535 (x.abandoned + 1) } else x := by
      rw [hacc]
      exact if_congr hlost rfl rfl
    rw [hx] at hp1 hp2
    by_cases hl : lost
    · rw [if_pos hl] at hp1 hp2
      by_cases hpe : peer
      · rw [hp1 hpe]
        exact ⟨fun _ => rfl, fun h => absurd hl h, fun _ => rfl, fun h => absurd hpe h, rfl⟩
      · rw [hp2 hpe]
        exact ⟨fun _ => rfl, fun h => absurd hl h, fun h => absurd h hpe, fun _ => rfl, rfl⟩
    · rw [if_neg hl] at hp1 hp2
      by_cases hpe : peer
      · rw [hp1 hpe]
        exact ⟨fun h => absurd h hl, fun _ => rfl, fun _ => rfl, fun h => absurd hpe h, rfl⟩
      · rw [hp2 hpe]
        exact ⟨fun h => absurd h hl, fun _ => rfl, fun h => absurd h hpe, fun _ => rfl, rfl⟩
  · have hR := A.switchArranged_eq v w.number p sl.content
    rw [hT, hN, hR, hframe]

end Sys2Proof.Machine
end

section
/-! PROOFS. The arithmetic of one contribution: accumulation with carry (O18) and the limit check (O19). -/

/- The whole text is compiled as one file: these proofs are elaborated one after another, to stay within its memory. -/
set_option Elab.async false

namespace Sys2Proof.Machine

/-! ### Accumulation with carry (R66, R67) -/

theorem Acc.add_residue (a : Acc) (c : Nat) : (a.add c).residue = (a.residue + c) % 115200000000000 := rfl

theorem Acc.add_whole (a : Acc) (c : Nat) :
    (a.add c).whole = min 4294967295 (a.whole + (a.residue + c) / 115200000000000) := rfl

theorem Acc.saturates_iff (a : Acc) (c : Nat) :
    a.saturates c = true ↔ 4294967295 < a.whole + (a.residue + c) / 115200000000000 := decide_eq_true_iff

theorem Acc.ext {a b : Acc} (hw : a.whole = b.whole) (hr : a.residue = b.residue) : a = b := by
  cases a
  cases b
  cases hw
  cases hr
  rfl

/-- Two products one after another are their sum. -/
theorem Acc.add_add (a : Acc) (c d : Nat) : (a.add c).add d = a.add (c + d) := by
  refine Acc.ext ?_ ?_
  · simp only [Acc.add_whole, Acc.add_residue]
    omega
  · simp only [Acc.add_residue]
    omega

/-! ### Sums over the orders (R65) -/

theorem pos_natAbs (z : Int) : (if 0 < z then z.natAbs else 0) = z.toNat := by
  split <;> omega

theorem neg_natAbs (z : Int) : (if z < 0 then z.natAbs else 0) = (-z).toNat := by
  split <;> omega

theorem sumFinNat_eq {n : Nat} (f : Fin n → Nat) : sumFinNat f = ((List.finRange n).map f).sum := by
  rw [sumFinNat, List.sum_eq_foldl, List.foldl_map]

/-! ### Masks made of flags -/

theorem bitsOf_testBit (l : List Bool) (i : Nat) : (bitsOf l).testBit i = l.getD i false := by
  induction l generalizing i with
  | nil => simp [bitsOf]
  | cons b l ih =>
    cases i with
    | zero => cases b <;> simp [bitsOf, Nat.testBit_zero, Nat.add_mod]
    | succ i =>
      have hdiv : (b.toNat + 2 * bitsOf l) / 2 = bitsOf l := by
        cases b
        · simp
        · simp
          omega
      rw [bitsOf, Nat.testBit_succ, hdiv, ih, List.getD_cons_succ]

theorem getD_map_finRange {n : Nat} (f : Fin n → Bool) (i : Fin n) : ((List.finRange n).map f).getD i.val false = f i := by
  simp [List.getD_eq_getElem?_getD]

/-- The mask of a table of flags has the bit of each flag. -/
theorem maskOf_getLsbD {n : Nat} (f : Fin n → Bool) (i : Fin n) :
    (BitVec.ofNat n (bitsOf ((List.finRange n).map f))).getLsbD i.val = f i := by
  rw [BitVec.getLsbD_ofNat, decide_eq_true i.isLt, bitsOf_testBit, getD_map_finRange, Bool.true_and]

/-! ### One contribution in an account (R57, R59, R64 to R70) -/

namespace Account
variable (acc : Account) (c : Contribution) (plan : Fin 8)

theorem contribute_mains : (acc.contribute c plan).mains = Mains.zip Acc.add acc.mains c.products := rfl

theorem contribute_absorbed (i : Fin 39) :
    (acc.contribute c plan).absorbed.get i = (acc.absorbed.get i).add (c.phn.get i).toNat := by
  simp [contribute]

theorem contribute_emitted (i : Fin 39) :
    (acc.contribute c plan).emitted.get i = (acc.emitted.get i).add (-(c.phn.get i)).toNat := by
  simp [contribute]

theorem contribute_peaks (j : Fin 40) :
    (acc.contribute c plan).peaks.get j = max (acc.peaks.get j) (c.currents.get j) ∧
      (acc.contribute c plan).periodPeaks.get j = max (acc.periodPeaks.get j) (c.currents.get j) := by
  simp [contribute]

theorem contribute_exceed (i : Fin 39) : (acc.contribute c plan).exceed.get i =
    if acc.exceedsAt c i then bump (acc.exceed.get i) else acc.exceed.get i := by
  simp [contribute]

theorem contribute_consecutive (i : Fin 39) : (acc.contribute c plan).consecutive.get i =
    if acc.exceedsAt c i then satAdd 10 (acc.consecutive.get i) 1
      else if acc.withinAt c i then 0 else acc.consecutive.get i := by
  simp [contribute]

theorem contribute_plansUsed (q : Fin 8) : (acc.contribute c plan).plansUsed.getLsbD q.val = true ↔
    acc.plansUsed.getLsbD q.val = true ∨ q = plan := by
  have h : (acc.contribute c plan).plansUsed.getLsbD q.val =
      (acc.plansUsed.getLsbD q.val || (oneBit 8 plan.val).getLsbD q.val) := BitVec.getLsbD_or ..
  rw [h, oneBit_getLsbD, decide_eq_true q.isLt, Bool.true_and, Bool.or_eq_true, decide_eq_true_eq]
  refine or_congr_right ⟨fun h => (Fin.ext h).symm, fun h => congrArg Fin.val h.symm⟩

/-- An accumulator of the account is held at its maximum (R67). -/
theorem saturatedBy_iff : acc.saturatedBy c = true ↔
    acc.mains.imp.saturates c.products.imp = true ∨ acc.mains.exp.saturates c.products.exp = true ∨
    acc.mains.q1.saturates c.products.q1 = true ∨ acc.mains.q2.saturates c.products.q2 = true ∨
    acc.mains.q3.saturates c.products.q3 = true ∨ acc.mains.q4.saturates c.products.q4 = true ∨
    acc.mains.habs.saturates c.products.habs = true ∨ acc.mains.hemi.saturates c.products.hemi = true ∨
    ∃ i, (acc.absorbed.get i).saturates (c.phn.get i).toNat = true ∨
      (acc.emitted.get i).saturates (-(c.phn.get i)).toNat = true := by
  simp [saturatedBy, Mains.zip, Mains.toList, or_assoc]

/-! ### The limit check (R85, R86) -/

theorem exceedsAt_iff (i : Fin 39) : acc.exceedsAt c i = true ↔
    acc.limits.get i ≠ 0 ∧ acc.limits.get i < c.currents.get (order40 i) := by
  simp [exceedsAt]

theorem withinAt_iff (i : Fin 39) : acc.withinAt c i = true ↔
    acc.limits.get i ≠ 0 ∧ c.currents.get (order40 i) ≤ acc.limits.get i := by
  simp [withinAt, exceedsAt]
  tauto

theorem sustainedMask_getLsbD (i : Fin 39) : (acc.sustainedMask c).getLsbD i.val = acc.sustainedAt c i := by
  unfold sustainedMask
  exact maskOf_getLsbD _ i

end Account

namespace State

theorem latchIf_exceedMask (s : State) (b : Bool) (a : Fin 16) :
    (s.latchIf b (.limitExceeded a)).notices.exceedMask.getLsbD a.val = (s.notices.exceedMask.getLsbD a.val || b) := by
  cases b
  · simp
  · refine (BitVec.getLsbD_or ..).trans ?_
    rw [oneBit_getLsbD, decide_eq_true a.isLt]
    simp

theorem latchIf_sustained (s : State) (a : Fin 16) (m : BitVec 39) (i : Nat) :
    ((s.latchIf (m != 0) (.limitSustained a m)).notices.sustained.get a).getLsbD i =
      ((s.notices.sustained.get a).getLsbD i || m.getLsbD i) := by
  by_cases h : m = 0
  · subst h
    simp
  · have hb : (m != 0) = true := by simpa using h
    rw [hb]
    have hs : (s.latchIf true (.limitSustained a m)).notices.sustained.get a = s.notices.sustained.get a ||| m :=
      Table.get_change_same _ _ _
    rw [hs, BitVec.getLsbD_or]

theorem latchIf_exceeded_sustained (s : State) (b : Bool) (a : Fin 16) :
    (s.latchIf b (.limitExceeded a)).notices.sustained = s.notices.sustained := by cases b <;> rfl

theorem latchIf_sustained_exceedMask (s : State) (b : Bool) (a : Fin 16) (m : BitVec 39) :
    (s.latchIf b (.limitSustained a m)).notices.exceedMask = s.notices.exceedMask := by cases b <;> rfl

/-- The notices of a contribution (R85, R86). -/
theorem contribute_notices (s : State) (a : Fin 16) (c : Contribution) (p : Fin 8) :
    ((s.accounts.get a).exceeds c = true → (s.contribute a c p).notices.latched.getLsbD 10 = true ∧
      (s.contribute a c p).notices.exceedMask.getLsbD a.val = true) ∧
    ((s.accounts.get a).sustainedMask c ≠ 0 → (s.contribute a c p).notices.latched.getLsbD 11 = true) ∧
    ∀ i, ((s.contribute a c p).notices.sustained.get a).getLsbD i =
      ((s.notices.sustained.get a).getLsbD i || ((s.accounts.get a).sustainedMask c).getLsbD i) := by
  unfold contribute
  refine ⟨fun h => ⟨?_, ?_⟩, fun h => ?_, fun i => ?_⟩
  · rw [latchIf_getLsbD, latchIf_getLsbD, h]
    simp [Notice.bit]
  · rw [latchIf_sustained_exceedMask, latchIf_exceedMask, h, Bool.or_true]
  · rw [latchIf_getLsbD, bne_iff_ne.2 h]
    simp [Notice.bit]
  · rw [latchIf_sustained, latchIf_exceeded_sustained]

end State

/-- Settles O18: the arithmetic of one accumulator, then the products by the signs of P and Q. -/
theorem energyIsAccumulated : Obligations.EnergyIsAccumulated := by
  refine ⟨fun a c d => ⟨Nat.mod_lt _ (by decide), fun h => ?_, Acc.saturates_iff a c, fun h => ?_, fun hw hr => ?_, ?_,
    Acc.add_add a c d⟩, fun acc c plan => ?_⟩
  · have hn : ¬ 4294967295 < a.whole + (a.residue + c) / 115200000000000 := fun hlt =>
      Bool.false_ne_true (h.symm.trans ((Acc.saturates_iff a c).2 hlt))
    rw [Acc.add_whole, Acc.add_residue]
    omega
  · have hlt := (Acc.saturates_iff a c).1 h
    exact ⟨by rw [Acc.add_whole]; omega, rfl⟩
  · refine Acc.ext ?_ ?_
    · rw [Acc.add_whole]
      omega
    · rw [Acc.add_residue]
      omega
  · rw [Acc.add_add, Acc.add_add, Nat.add_comm]
  · intro u P Q
    have hu : u = Mains.zip Acc.add acc.mains c.products := rfl
    refine ⟨fun hp => ?_, fun hp => ?_, fun hp => ?_, fun hp hq => ?_, fun hp hq => ?_, fun hp hq => ?_, fun hp hq => ?_,
      fun hp hq => ?_, ?_⟩
    · simp [hu, Mains.zip, Contribution.products, hp, hp.le.not_gt, P]
    · simp [hu, Mains.zip, Contribution.products, hp, hp.le.not_gt, P]
    · simp [hu, Mains.zip, Contribution.products, hp]
    · have h1 : ¬ c.p1n ≤ 0 := not_le.2 hp
      have h2 : ¬ c.p1n < 0 := not_lt.2 hp.le
      have h3 : ¬ c.q1n < 0 := not_lt.2 hq
      simp [hu, Mains.zip, Contribution.products, hp, hq, h1, h2, h3, Q]
    · have h1 : ¬ 0 < c.p1n := not_lt.2 hp
      have h2 : ¬ c.q1n ≤ 0 := not_le.2 hq
      have h3 : ¬ c.q1n < 0 := not_lt.2 hq.le
      simp [hu, Mains.zip, Contribution.products, hp, hq, h1, h2, h3, Q]
    · have h1 : ¬ 0 < c.p1n := not_lt.2 hp.le
      have h2 : ¬ 0 < c.q1n := not_lt.2 hq
      have h3 : ¬ 0 ≤ c.p1n := not_le.2 hp
      simp [hu, Mains.zip, Contribution.products, hp, hq, h1, h2, h3, Q]
    · have h1 : ¬ 0 ≤ c.q1n := not_le.2 hq
      have h2 : ¬ 0 < c.q1n := not_lt.2 hq.le
      have h3 : ¬ c.p1n < 0 := not_lt.2 hp
      simp [hu, Mains.zip, Contribution.products, hp, hq, h1, h2, h3, Q]
    · simp [hu, Mains.zip, Contribution.products, hp, hq]
    · intro y up down
      have hup : ∀ i, up i = (c.phn.get i).toNat := fun i => pos_natAbs _
      have hdown : ∀ i, down i = (-(c.phn.get i)).toNat := fun i => neg_natAbs _
      have habs : c.products.habs = ((List.finRange 39).map up).sum := by
        rw [funext hup]
        exact sumFinNat_eq _
      have hemi : c.products.hemi = ((List.finRange 39).map down).sum := by
        rw [funext hdown]
        exact sumFinNat_eq _
      refine ⟨fun i => ?_, ?_, ?_, ?_, rfl, rfl, fun hd => ?_, fun hd => ?_, acc.contribute_plansUsed c plan, rfl⟩
      · rw [hup, hdown]
        exact ⟨acc.contribute_absorbed c plan i, acc.contribute_emitted c plan i⟩
      · rw [hu, ← habs]
        rfl
      · rw [hu, ← hemi]
        rfl
      · have hflag : y.flags.saturated = (acc.flags.saturated || acc.saturatedBy c) := rfl
        rw [hflag, Bool.or_eq_true, Account.saturatedBy_iff, habs, hemi]
        simp only [hup, hdown]
        rfl
      · exact if_pos hd
      · exact if_neg (by rw [Contribution.degraded, hd]; decide)

/-- One order of the limit check, over the notices `n` before it and `m` after it. -/
theorem Account.order_checked (acc : Account) (c : Contribution) (p : Fin 8) (i : Fin 39) (a : Fin 16) (n m : Notices)
    (hexceed : acc.exceeds c = true → m.latched.getLsbD 10 = true ∧ m.exceedMask.getLsbD a.val = true)
    (hsustain : acc.sustainedMask c ≠ 0 → m.latched.getLsbD 11 = true)
    (hmask : ∀ i, (m.sustained.get a).getLsbD i = ((n.sustained.get a).getLsbD i || (acc.sustainedMask c).getLsbD i)) :
    (acc.limits.get i ≠ 0 → acc.limits.get i < c.currents.get ⟨i.val + 1, by omega⟩ →
      (acc.contribute c p).exceed.get i = min 65535 (acc.exceed.get i + 1) ∧
      (acc.contribute c p).consecutive.get i = min 10 (acc.consecutive.get i + 1) ∧
      m.latched.getLsbD 10 = true ∧ m.exceedMask.getLsbD a.val = true ∧
      (acc.consecutive.get i = 9 → m.latched.getLsbD 11 = true ∧ (m.sustained.get a).getLsbD i.val = true)) ∧
    (acc.limits.get i ≠ 0 → c.currents.get ⟨i.val + 1, by omega⟩ ≤ acc.limits.get i →
      (acc.contribute c p).exceed.get i = acc.exceed.get i ∧ (acc.contribute c p).consecutive.get i = 0) ∧
    (acc.limits.get i = 0 → (acc.contribute c p).exceed.get i = acc.exceed.get i ∧
      (acc.contribute c p).consecutive.get i = acc.consecutive.get i) ∧
    (acc.limits.get i = 0 ∨ c.currents.get ⟨i.val + 1, by omega⟩ ≤ acc.limits.get i ∨ acc.consecutive.get i ≠ 9 →
      (m.sustained.get a).getLsbD i.val = (n.sustained.get a).getLsbD i.val) := by
  refine ⟨fun hl hc => ?_, fun hl hc => ?_, fun hl => ?_, fun h => ?_⟩
  · have hx : acc.exceedsAt c i = true := (acc.exceedsAt_iff c i).2 ⟨hl, hc⟩
    have hany : acc.exceeds c = true := List.any_eq_true.2 ⟨i, List.mem_finRange i, hx⟩
    rw [acc.contribute_exceed, acc.contribute_consecutive, if_pos hx, if_pos hx]
    refine ⟨bump_eq _, rfl, (hexceed hany).1, (hexceed hany).2, fun h9 => ?_⟩
    have hbit : (acc.sustainedMask c).getLsbD i.val = true := by
      rw [acc.sustainedMask_getLsbD]
      simp [Account.sustainedAt, hx, h9]
    refine ⟨hsustain fun h0 => ?_, ?_⟩
    · rw [h0] at hbit
      simp at hbit
    · rw [hmask, hbit, Bool.or_true]
  · have hx : ¬ acc.exceedsAt c i = true := fun h => Nat.not_le_of_lt ((acc.exceedsAt_iff c i).1 h).2 hc
    have hw : acc.withinAt c i = true := (acc.withinAt_iff c i).2 ⟨hl, hc⟩
    rw [acc.contribute_exceed, acc.contribute_consecutive, if_neg hx, if_neg hx, if_pos hw]
    exact ⟨rfl, rfl⟩
  · have hx : ¬ acc.exceedsAt c i = true := fun h => ((acc.exceedsAt_iff c i).1 h).1 hl
    have hw : ¬ acc.withinAt c i = true := fun h => ((acc.withinAt_iff c i).1 h).1 hl
    rw [acc.contribute_exceed, acc.contribute_consecutive, if_neg hx, if_neg hx, if_neg hw]
    exact ⟨rfl, rfl⟩
  · have hbit : (acc.sustainedMask c).getLsbD i.val = false := by
      rw [acc.sustainedMask_getLsbD, Account.sustainedAt, Bool.and_eq_false_iff]
      by_cases h9 : acc.consecutive.get i = 9
      · refine .inl (Bool.eq_false_iff.2 fun hx => ?_)
        obtain ⟨h1, h2⟩ := (acc.exceedsAt_iff c i).1 hx
        obtain h | h | h := h
        · exact h1 h
        · exact Nat.not_le_of_lt h2 h
        · exact h h9
      · exact .inr (by simpa using h9)
    rw [hmask, hbit, Bool.or_false]

/-- What a contribution leaves: all but the accounts and the notices. -/
theorem State.contribute_frame (s : State) (a : Fin 16) (c : Contribution) (p : Fin 8) :
    { s.contribute a c p with accounts := s.accounts, notices := s.notices } = s := by
  rw [s.contribute_eq a c p]

/-- Settles O19: one order of the check, the peaks, and the frame of a contribution. -/
theorem limitsAreChecked : Obligations.LimitsAreChecked := by
  intro s a c plan i
  have hget := fun b => s.contribute_get a b c plan
  have hframe := s.contribute_frame a c plan
  obtain ⟨hexceed, hsustain, hmask⟩ := s.contribute_notices a c plan
  generalize s.contribute a c plan = t at hget hframe hexceed hsustain hmask ⊢
  have hu := (hget a).trans (if_pos rfl)
  intro acc t' u current
  rw [show u = acc.contribute c plan from hu]
  obtain ⟨hover, hunder, hnone, hkept⟩ := acc.order_checked c plan i a s.notices t.notices hexceed hsustain hmask
  exact ⟨hover, hunder, hnone, hkept, fun j => acc.contribute_peaks c plan j,
    fun b hb => (hget b).trans (if_neg (Ne.symm hb)), hframe⟩

end Sys2Proof.Machine
end

section
/-! PROOFS. Debounced switch inputs (O20), and the plan requests PLAN_ADD, PLAN_CONFIRM and PLAN_CLEAR (O22 to O24). -/

/- The whole text is compiled as one file: these proofs are elaborated one after another, to stay within its memory. -/
set_option Elab.async false

namespace Sys2Proof.Machine

/-! ### Debounced inputs (R34, R35) -/

theorem SwitchInput.timerDone_iff (x : SwitchInput) : x.timerDone = true ↔ ∃ d, x.timer = some d ∧ d.limit ≤ d.ran := by
  unfold SwitchInput.timerDone
  cases x.timer <;> simp

theorem SwitchInput.due_iff (x : SwitchInput) :
    x.due = true ↔ x.level ≠ none ∧ ∃ d, x.timer = some d ∧ d.limit ≤ d.ran := by
  rw [SwitchInput.due, Bool.and_eq_true, x.timerDone_iff, Option.isSome_iff_ne_none]

theorem Selector.word_none_iff (x : Selector) : x.word = none ↔ ∃ i, (x.inputs.get i).level = none := by
  unfold Selector.word
  split
  case isTrue h =>
    simp only [List.all_eq_true, List.mem_finRange, forall_true_left] at h
    exact ⟨nofun, fun ⟨i, hi⟩ => by simpa [hi] using h i⟩
  case isFalse h =>
    simp only [List.all_eq_true, List.mem_finRange, forall_true_left, not_forall] at h
    obtain ⟨i, hi⟩ := h
    exact ⟨fun _ => ⟨i, by simpa using hi⟩, fun _ => rfl⟩

theorem Selector.firstDue_iff (x : Selector) : x.firstDue = true ↔
    ∀ i, (x.inputs.get i).level = none ∧ ∃ d, (x.inputs.get i).timer = some d ∧ d.limit ≤ d.ran := by
  simp only [Selector.firstDue, Bool.and_eq_true, beq_iff_eq, List.all_eq_true, List.mem_finRange, forall_true_left,
    SwitchInput.timerDone_iff, Selector.word_none_iff]
  exact ⟨fun h i => (h.2 i).symm, fun h => ⟨⟨0, (h 0).1⟩, fun i => (h i).symm⟩⟩

namespace State

theorem debounce_due {s : State} {i : Fin 8} (h : (s.selector.inputs.get i).due = true) :
    s.debounce i = (s.changeInput i SwitchInput.settle).select := if_pos h

theorem debounce_idle {s : State} {i : Fin 8} (h : (s.selector.inputs.get i).due = false) : s.debounce i = s := by
  simp [debounce, h]

theorem firstWord_due {s : State} (h : s.selector.firstDue = true) : s.firstWord =
    ({ s with selector := { s.selector with inputs := s.selector.inputs.each fun _ x => x.settle } }).select := if_pos h

theorem firstWord_idle {s : State} (h : s.selector.firstDue = false) : s.firstWord = s := by simp [firstWord, h]

theorem settleDebounce_settled {s : State} (hd : ∀ i, (s.selector.inputs.get i).due = false)
    (hf : s.selector.firstDue = false) : s.settleDebounce = s := by
  rw [settleDebounce, foldl_fixed _ s _ fun i => debounce_idle (hd i), firstWord_idle hf]

/-- Selection that finds no match latches UNMATCHED (R38). -/
theorem select_unmatched_latched {s : State} (hw : s.selector.word ≠ none) (hu : s.select.selector.unmatched = true) :
    s.select.notices.latched.getLsbD 3 = true := by
  obtain ⟨w, hw⟩ := Option.ne_none_iff_exists'.1 hw
  obtain ⟨⟨-, hmatched, -⟩, hlatch⟩ := select_selected hw
  refine hlatch fun p hp => ?_
  obtain ⟨q, hq, hlow⟩ := exists_lowest ⟨p, hp⟩
  exact Bool.false_ne_true ((hmatched q hq hlow).1.symm.trans hu)

/-- Selection leaves the switch inputs, and with them the switch word. -/
theorem select_inputs (s : State) : s.select.selector.inputs = s.selector.inputs := by
  unfold select
  split
  · rfl
  · split <;> rfl

theorem select_word (s : State) : s.select.selector.word = s.selector.word := by
  rw [Selector.word, Selector.word, s.select_inputs]

end State

/-- One input at a millisecond sample, case by case (R34). -/
theorem SwitchInput.sample_spec (x : SwitchInput) (level : Bool) (time : Nat) : let y := x.sample level time
    y.level = x.level ∧ y.sampled = some level ∧
    (x.timer = none → x.level = some level → y.timer = none) ∧
    (x.timer = none → x.level ≠ some level → y.timer = some ⟨0, time⟩) ∧
    (∀ d, x.timer = some d → x.sampled = some level → y.timer = some ⟨min d.limit (d.ran + 1), d.limit⟩) ∧
    (∀ d, x.timer = some d → x.sampled ≠ some level → x.level = some level → y.timer = none) ∧
    (∀ d, x.timer = some d → x.sampled ≠ some level → x.level ≠ some level → y.timer = some ⟨0, time⟩) := by
  refine ⟨rfl, rfl, fun ht hl => ?_, fun ht hl => ?_, fun d ht hs => ?_, fun d ht hs hl => ?_, fun d ht hs hl => ?_⟩
  · simp [SwitchInput.sample, ht, hl]
  · simp [SwitchInput.sample, ht, hl]
  · simp [SwitchInput.sample, ht, hs, satAdd]
  · simp [SwitchInput.sample, ht, hs, hl]
  · simp [SwitchInput.sample, ht, hs, hl]

/-- Settles O20: the sample of each input, then the selection that a completed debounce and the first word run. -/
theorem switchInputsAreDebounced : Obligations.SwitchInputsAreDebounced := by
  refine ⟨fun s levels ha hop hd hf => ?_, fun s levels hop => ?_, fun s i d ha hl ht hdone => ?_, fun s i hd => ?_,
    fun s ha hl hd => ?_, fun s ⟨i, hi⟩ => ?_⟩
  · refine ⟨_, congrArg Host.Outcome.next (State.whenAlive_running s _ ha), fun i => ?_, ?_, ?_⟩ <;>
      rw [State.switchSample, if_neg (by simpa using hop), State.settleDebounce_settled hd hf]
    rw [Table.get_each]
    exact SwitchInput.sample_spec _ _ _
  · refine congrArg Host.Outcome.next ?_
    by_cases ha : s.stopped = true
    · exact State.whenAlive_stopped s _ ha
    · rw [State.whenAlive_running s _ (Bool.eq_false_iff.2 ha), State.switchSample, if_pos (by rw [hop]; rfl)]
  · have hdue : (s.selector.inputs.get i).due = true := (SwitchInput.due_iff _).2 ⟨hl, d, ht, hdone⟩
    refine ⟨_, congrArg Host.Outcome.next ((State.whenAlive_running s _ ha).trans (State.debounce_due hdue)),
      ⟨fun w hw => (State.select_selected (s := s.changeInput i SwitchInput.settle) hw).1, fun hw => ?_⟩, fun hu hw => ?_, ?_⟩
    · exact congrArg State.selector (State.select_wordless hw)
    · exact State.select_unmatched_latched (by rwa [State.select_word] at hw) hu
    · rw [State.select_eq]
      rfl
  · have hdue : (s.selector.inputs.get i).due = false := by
      refine Bool.eq_false_iff.2 fun h => ?_
      obtain ⟨-, d, ht, hdone⟩ := (SwitchInput.due_iff _).1 h
      exact Nat.not_le_of_lt (hd d ht) hdone
    refine congrArg Host.Outcome.next ?_
    by_cases ha : s.stopped = true
    · exact State.whenAlive_stopped s _ ha
    · exact (State.whenAlive_running s _ (Bool.eq_false_iff.2 ha)).trans (State.debounce_idle hdue)
  · have hdue : s.selector.firstDue = true := (Selector.firstDue_iff _).2 fun i => ⟨hl i, hd i⟩
    refine ⟨_, congrArg Host.Outcome.next ((State.whenAlive_running s _ ha).trans (State.firstWord_due hdue)),
      fun i => ?_, fun w hw => ?_, ?_⟩
    · rw [State.select_inputs, Table.get_each]
      exact ⟨rfl, rfl⟩
    · rw [State.select_word] at hw
      rw [State.select_inputs]
      exact (State.select_selected hw).1
    · rw [State.select_eq]
  · have hdue : s.selector.firstDue = false :=
      Bool.eq_false_iff.2 fun h => hi ((Selector.firstDue_iff _).1 h i).1
    refine congrArg Host.Outcome.next ?_
    by_cases ha : s.stopped = true
    · exact State.whenAlive_stopped s _ ha
    · exact (State.whenAlive_running s _ (Bool.eq_false_iff.2 ha)).trans (State.firstWord_idle hdue)

end Sys2Proof.Machine
end

section
/-! PROOFS. Requests at the message link: the frame carries them (O50), the tests at dispatch (O46), and the receive
buffer (O47). -/

/- The whole text is compiled as one file: these proofs are elaborated one after another, to stay within its memory. -/
set_option Elab.async false

namespace Sys2Proof.Machine

/-! ### A request is the arrival of its frame (R159, R162, log 6) -/

theorem Kind.code_msb (k : Kind) : k.code.msb = false := by cases k <;> rfl

theorem State.goodFrame_kind (s : State) (k : Kind) (tag : Byte) (body : List Byte) :
    s.goodFrame ⟨k.code, tag, body⟩ = s.request k tag body :=
  if_neg (by rw [k.code_msb]; exact Bool.false_ne_true)

theorem exec_of_request {e : Host.Outcome State Fault Refusal} {k : Kind} {tag : Byte} {body : List Byte} {s : State}
    (h : e = .next (s.whenAlive fun u => u.request k tag body)) :
    e = .next (s.whenAlive fun u => u.goodFrame ⟨k.code, tag, body⟩) := by
  simp only [h, State.goodFrame_kind]

/-- A command that carries a request is the arrival of its frame. -/
theorem exec_request {c : Instr} {kind tag : Byte} {body : List Byte} (h : c.request = some (kind, tag, body)) (s : State) :
    exec c s = .next (s.whenAlive fun u => u.goodFrame ⟨kind, tag, body⟩) := by
  cases c <;> simp only [Instr.request, reduceCtorEq, Option.some.injEq, Prod.mk.injEq] at h <;>
    obtain ⟨rfl, rfl, rfl⟩ := h
  case unknownKind => rfl
  all_goals exact (exec_of_request rfl).trans rfl

/-- A well-formed command that carries a request has a kind of a request and a body that a frame holds. -/
theorem request_sent {c : Instr} {kind tag : Byte} {body : List Byte} (hw : c.wf = true)
    (h : c.request = some (kind, tag, body)) : kind.toNat < 0x80 ∧ body.length ≤ 1024 := by
  cases c
  case unknownKind k t b => exact Laws.Operands.unknownKind k t b hw kind tag body h
  all_goals simp only [Instr.request, reduceCtorEq, Option.some.injEq, Prod.mk.injEq] at h
  all_goals obtain ⟨rfl, rfl, rfl⟩ := h; exact ⟨by decide, by simpa [Instr.wf, bodyOk] using hw⟩

/-- Settles O50: the frame is found behind the noise and read back, and its arrival is the request's. -/
theorem frameCarriesRequest : Obligations.FrameCarriesRequest := by
  intro i kind tag body noise line s hw h hline
  rw [exec_hostFrameComplete_requestFrame s (request_sent hw h).2 hline, exec_request h]

/-! ### The answer at dispatch (R164, R165) -/

theorem requestCodes_eq : requestCodes = Kind.all.map Kind.code := rfl

theorem Kind.mem_all (k : Kind) : k ∈ Kind.all := by cases k <;> decide

theorem mem_requestCodes {kind : Byte} : kind ∈ requestCodes ↔ ∃ k : Kind, k.code = kind := by
  rw [requestCodes_eq, List.mem_map]
  exact ⟨fun ⟨k, _, h⟩ => ⟨k, h⟩, fun ⟨k, h⟩ => ⟨k, k.mem_all, h⟩⟩

theorem readKind_unknown {kind : Byte} (h : kindUnknown kind = true) : readKind kind = none ∧ kind.msb = false := by
  simp only [kindUnknown, Bool.and_eq_true, decide_eq_true_eq, Bool.not_eq_true', List.contains_eq_mem,
    decide_eq_false_iff_not] at h
  refine ⟨List.find?_eq_none.2 fun k _ hk => h.2 (mem_requestCodes.2 ⟨k, eq_of_beq hk⟩), ?_⟩
  rw [BitVec.msb_eq_decide]
  exact decide_eq_false (by omega)

namespace State

/-- A frame that comes to a free link is answered at once; a refusal leaves everything else (R162, R163). -/
theorem goodFrame_refused {s : State} (h : s.free) {f : HostFrame} {x : Status} (hf : f.kind.msb = false)
    (hx : x ≠ .done) (ha : (s.holding f).answer f = (s.holding f).refuse x) :
    (s.whenAlive fun u => u.goodFrame f) = s.replied f.kind f.tag f.body x [] := by
  obtain ⟨halive, hmsg⟩ := h
  have hr : (f.kind == Kind.restart.code && x == .done) = false := by rw [beq_false_of_ne hx, Bool.and_false]
  rw [whenAlive_running _ _ halive, goodFrame, if_neg (by rw [hf]; exact Bool.false_ne_true),
    frameArrives_free _ _ hmsg]
  change ((s.holding f).answer f).after.setReply (some (replyTo f ((s.holding f).answer f))) = _
  rw [ha]
  simp only [refuse, replyTo, hr]
  rfl

theorem answer_kind (s : State) (k : Kind) (tag : Byte) (body : List Byte) :
    s.answer ⟨k.code, tag, body⟩ = s.answerKind k body := by
  simp only [answer, readKind_code]

/-- The tests at dispatch in their order (R164). -/
theorem answerKind_busy {s : State} {k : Kind} (body : List Byte) (ho : s.op ≠ .running) (ha : k.always = false) :
    s.answerKind k body = s.refuse .busy := by
  simp [answerKind, ho, ha]

theorem answerKind_length {s : State} {k : Kind} {body : List Byte} (ho : s.op = .running ∨ k.always = true)
    (hl : k.lengthOk body.length = false) : s.answerKind k body = s.refuse .length := by
  have hserved : (s.op != .running && !k.always) = false := by
    obtain ho | ha := ho
    · simp [ho]
    · simp [ha]
  simp [answerKind, hserved, hl]

theorem answerKind_field {s : State} {k : Kind} {body : List Byte} (ho : s.op = .running)
    (hl : k.lengthOk body.length = true) (hr : k.reservedOk body = false) : s.answerKind k body = s.refuse .field := by
  simp [answerKind, ho, hl, hr]

end State

/-- A request of a kind of the table, refused at dispatch. -/
theorem exec_refused {c : Instr} {k : Kind} {tag : Byte} {body : List Byte} {s : State} {x : Status}
    (h : c.request = some (k.code, tag, body)) (hf : s.free) (hx : x ≠ .done)
    (ha : (s.holding ⟨k.code, tag, body⟩).answerKind k body = (s.holding ⟨k.code, tag, body⟩).refuse x) :
    exec c s = .next (s.replied k.code tag body x []) := by
  rw [exec_request h]
  exact congrArg _ (State.goodFrame_refused hf k.code_msb hx ((State.answer_kind _ k tag body).trans ha))

theorem Kind.always_iff (k : Kind) : k.always = true ↔ k.code = 0x01 ∨ k.code = 0x02 ∨ k.code = 0x70 := by
  cases k <;> decide

theorem Kind.lengthOk_fixed {k : Kind} {n m : Nat} (h : (k.code, n) ∈ fixedLengths) (hm : m ≠ n) :
    k.lengthOk m = false := by
  cases k <;> simp [fixedLengths, Kind.code] at h <;> simpa [Kind.lengthOk, h] using hm

theorem Kind.lengthOk_part {k : Kind} {n m : Nat} (h : (k.code, n) ∈ fixedParts) (hm : m < n) : k.lengthOk m = false := by
  cases k <;> simp [fixedParts, Kind.code] at h <;> simp [Kind.lengthOk] <;> omega

theorem flagsOk_false {b : Byte} (h : b &&& 0xFE ≠ 0) : flagsOk b = false := beq_false_of_ne h

/-- Settles O46: the kind that the code names, then each test of the dispatch. -/
theorem dispatchTestsRequests : Obligations.DispatchTestsRequests := by
  intro c kind tag body s h hf
  have hsent : ∀ p ∈ fixedLengths ++ fixedParts, p.1 ∈ requestCodes := by decide
  have hserved : ∀ k : Kind, s.op = .running ∨ k.code = 0x01 ∨ k.code = 0x02 ∨ k.code = 0x70 →
      s.op = .running ∨ k.always = true := fun k ho => ho.imp_right k.always_iff.2
  refine ⟨fun hu => ?_, fun hk ho h1 h2 h3 => ?_, fun ho => ⟨fun n hn hl => ?_, fun n hn hl => ?_⟩,
    fun ho => ⟨fun hk hl hr => ?_, fun hk hl hr => ?_, fun hk hl hr => ?_⟩⟩
  · obtain ⟨hnone, hmsb⟩ := readKind_unknown hu
    rw [exec_request h]
    exact congrArg _ (State.goodFrame_refused (f := ⟨kind, tag, body⟩) hf hmsb nofun (by simp only [State.answer, hnone]))
  · obtain ⟨k, rfl⟩ := mem_requestCodes.1 hk
    refine exec_refused h hf nofun (State.answerKind_busy body ho (Bool.eq_false_iff.2 fun ha => ?_))
    obtain e | e | e := k.always_iff.1 ha
    · exact h1 e
    · exact h2 e
    · exact h3 e
  · obtain ⟨k, rfl⟩ := mem_requestCodes.1 (hsent _ (List.mem_append_left _ hn))
    exact exec_refused h hf nofun (State.answerKind_length (hserved k ho) (k.lengthOk_fixed hn hl))
  · obtain ⟨k, rfl⟩ := mem_requestCodes.1 (hsent _ (List.mem_append_right _ hn))
    exact exec_refused h hf nofun (State.answerKind_length (hserved k ho) (k.lengthOk_part hn hl))
  · subst hk
    refine exec_refused (k := .setSetting) h hf nofun (State.answerKind_field ho (decide_eq_true hl) ?_)
    obtain hr | hr := hr
    · simp [Kind.reservedOk, flagsOk_false hr]
    · rw [Kind.reservedOk, beq_false_of_ne hr, Bool.and_false]
  · subst hk
    refine exec_refused (k := .planConfirm) h hf nofun (State.answerKind_field ho (by simp [Kind.lengthOk, hl]) ?_)
    obtain hr | ⟨h2, h3⟩ := hr
    · simp [Kind.reservedOk, flagsOk_false hr]
    · rw [Kind.reservedOk, beq_false_of_ne h3, h2]
      exact Bool.and_false _
  · subst hk
    refine exec_refused (k := .limitLoad) h hf nofun (State.answerKind_field ho (decide_eq_true hl) ?_)
    obtain hr | hr := hr
    · simp [Kind.reservedOk, flagsOk_false hr]
    · simp [Kind.reservedOk, hr]

/-! ### The receive buffer (R162, R171) -/

/-- Settles O47: the arrival by the places held, and the last byte of a reply by the places it frees. -/
theorem bufferHoldsTwo : Obligations.BufferHoldsTwo := by
  refine ⟨fun c kind tag body s h hkind ha => ?_, fun s ha => ⟨fun hr => ?_, fun f r hm hr => ?_, fun ps r hm => ?_⟩⟩
  · have hmsb : ¬ kind.msb = true := by
      rw [BitVec.msb_eq_decide, decide_eq_true_eq]
      omega
    have harrive : ∀ u : State, u.stopped = false → exec c u = .next (u.frameArrives ⟨kind, tag, body⟩) := fun u hu => by
      rw [exec_request h, State.whenAlive_running _ _ hu, State.goodFrame, if_neg hmsb]
    refine ⟨fun f r hp hr => ?_, fun hp => ?_, fun f r hm hr => ?_⟩
    · rw [harrive s ha, State.frameArrives_waits s _ r (by rw [hp]; exact Nat.one_lt_two) hr, hp]
      rfl
    · rw [harrive s ha, State.frameArrives_overrun s _ (by rw [hp]; decide)]
      exact congrArg (fun n => Host.Outcome.next { s with notices := { s.notices with overruns := n } }) (bump_eq _)
    · rw [harrive { s with msg := ⟨[], none, false⟩ } ha]
      refine congrArg Host.Outcome.next ((State.whenAlive_running s _ ha).trans ?_)
      simp only [State.replySent, hm, hr]
      simp [State.freePlace, hm, State.frameArrives]
  · refine congrArg Host.Outcome.next ((State.whenAlive_running s _ ha).trans ?_)
    simp only [State.replySent, hr]
  · refine congrArg Host.Outcome.next ((State.whenAlive_running s _ ha).trans ?_)
    simp only [State.replySent, hm, hr]
    simp [State.freePlace, hm, State.dispatch]
  · refine congrArg Host.Outcome.next ((State.whenAlive_running s _ ha).trans ?_)
    simp only [State.replySent, hm]
    simp [State.freePlace, hm, State.dispatch]

end Sys2Proof.Machine
end

section
/-! PROOFS. The plan requests PLAN_ADD, PLAN_CONFIRM and PLAN_CLEAR (O22 to O24). -/

/- The whole text is compiled as one file: these proofs are elaborated one after another, to stay within its memory. -/
set_option Elab.async false

namespace Sys2Proof.Machine

/-! ### A request that its owner serves -/

/-- A request served by its owner: the owner's state and answer (R163). -/
theorem State.request_served {s : State} (h : s.ready) {k : Kind} (hk : k ≠ .restart) {tag : Byte} {body : List Byte}
    (hl : k.lengthOk body.length = true) (hr : k.reservedOk body = true) {a : Answer}
    (ho : (s.holding ⟨k.code, tag, body⟩).owner k body = a) :
    (s.whenAlive fun u => u.request k tag body) =
      a.after.setReply (some ⟨k.code + 0x80, tag, a.status, a.body, false⟩) := by
  rw [State.request_ready h, State.answerKind_served (s.holding _) k body h.2 hl hr, ho, replyTo,
    beq_false_of_ne (Kind.code_ne_restart hk), Bool.false_and]

/-- A request refused by its owner leaves everything but the link's reply (R163). -/
theorem State.request_refused {s : State} (h : s.ready) {k : Kind} (hk : k ≠ .restart) {tag : Byte} {body : List Byte}
    {x : Status} (hl : k.lengthOk body.length = true) (hr : k.reservedOk body = true)
    (ho : (s.holding ⟨k.code, tag, body⟩).owner k body = (s.holding ⟨k.code, tag, body⟩).refuse x) :
    (s.whenAlive fun u => u.request k tag body) = s.replied k.code tag body x [] :=
  State.request_replied (t := s) h hk hl hr ho

theorem field_byte (n : Byte) (rest : List Byte) : field (n :: rest) 0 1 = n.toNat := by simp [field, slice, ofLe]

/-! ### The members of a PLAN_ADD (R45) -/

theorem Member.bytes_length (m : Member) : m.bytes.length = 4 := by
  obtain ⟨a, p, b⟩ := m
  cases p <;> cases b <;> rfl

theorem readMember_bytes (m : Member) : readMember m.bytes = .inr m := by
  obtain ⟨a, p, b⟩ := m
  have ha : a.val % 256 = a.val := Nat.mod_eq_of_lt (by omega)
  cases p with
  | tap k =>
    have hk : k.val % 256 = k.val := Nat.mod_eq_of_lt (by omega)
    cases b <;> simp [readMember, Member.bytes, byte, leBytes, field, slice, ofLe, byteAt, ha, hk]
  | peer j =>
    have hj : j.val % 256 = j.val := Nat.mod_eq_of_lt (by omega)
    cases b <;> simp [readMember, Member.bytes, byte, leBytes, field, slice, ofLe, byteAt, ha, hj]

theorem readMember_field (a kind number sign : Byte) (h : 1 < kind.toNat) :
    readMember [a, kind, number, sign] = .inl .field := by
  simp [readMember, field, slice, ofLe, h]

theorem readMember_range (a kind number sign : Byte) (h : kind.toNat ≤ 1) (hr : 15 < a.toNat ∨
    (kind.toNat = 0 ∧ 7 < number.toNat) ∨ (kind.toNat = 1 ∧ 3 < number.toNat) ∨ (sign ≠ 0x01 ∧ sign ≠ 0xFF)) :
    readMember [a, kind, number, sign] = .inl .range := by
  have hfield : field [a, kind, number, sign] 0 1 = a.toNat ∧ field [a, kind, number, sign] 1 1 = kind.toNat ∧
      field [a, kind, number, sign] 2 1 = number.toNat := by simp [field, slice, ofLe]
  obtain ⟨h0, h1, h2⟩ := hfield
  simp only [readMember, h0, h1, h2, if_neg (Nat.not_lt.2 h)]
  split
  · split
    · rfl
    next ha hsign =>
      have hnumber : (kind.toNat = 0 ∧ 7 < number.toNat) ∨ (kind.toNat = 1 ∧ 3 < number.toNat) := by
        obtain hr | hr | hr | hr := hr
        · omega
        · exact .inl hr
        · exact .inr hr
        · exact absurd (by simpa [byteAt] using hr) hsign
      split
      · exact dif_neg (by omega)
      · exact dif_neg (by omega)
  · rfl

theorem readMembers_append (good : List Member) (k : Nat) (bs : List Byte) :
    readMembers (good.length + k) (good.flatMap Member.bytes ++ bs) =
      match readMembers k bs with
      | .inl x => .inl x
      | .inr ms => .inr (good ++ ms) := by
  induction good with
  | nil =>
    rw [List.length_nil, Nat.zero_add, List.flatMap_nil, List.nil_append]
    cases readMembers k bs <;> rfl
  | cons m good ih =>
    have ht : (m.bytes ++ (good.flatMap Member.bytes ++ bs)).take 4 = m.bytes := by
      rw [← m.bytes_length, List.take_left]
    have hd : (m.bytes ++ (good.flatMap Member.bytes ++ bs)).drop 4 = good.flatMap Member.bytes ++ bs := by
      rw [← m.bytes_length, List.drop_left]
    rw [List.length_cons, Nat.succ_add, List.flatMap_cons, List.append_assoc, readMembers, ht, readMember_bytes, hd, ih]
    cases readMembers k bs <;> rfl

theorem readMembers_bytes (ms : List Member) : readMembers ms.length (ms.flatMap Member.bytes) = .inr ms := by
  simpa [readMembers] using readMembers_append ms 0 []

/-- The first bad member refuses. -/
theorem readMembers_bad (good : List Member) {a b c d : Byte} {tail : List Byte} {n : Nat} {x : Status}
    (hn : good.length < n) (h : readMember [a, b, c, d] = .inl x) :
    readMembers n (good.flatMap Member.bytes ++ [a, b, c, d] ++ tail) = .inl x := by
  obtain ⟨k, rfl⟩ := Nat.exists_eq_add_of_lt hn
  rw [List.append_assoc, Nat.add_assoc, readMembers_append, readMembers]
  simp [h]

theorem flatMap_bytes_length (ms : List Member) : (ms.flatMap Member.bytes).length = 4 * ms.length := by
  induction ms with
  | nil => rfl
  | cons m ms ih =>
    rw [List.flatMap_cons, List.length_append, ih, m.bytes_length, List.length_cons]
    omega

namespace State

section
variable (s : State) {n : Byte} {rest : List Byte} {buf : PlanBuffer}

theorem planAdd_sequence (h : s.selector.buffer = none) (body : List Byte) : s.planAdd body = s.refuse .sequence := by
  simp [planAdd, h]

theorem planAdd_range (h : s.selector.buffer = some buf) (hn : n.toNat = 0 ∨ 8 < n.toNat) :
    s.planAdd (n :: rest) = s.refuse .range := by
  simp [planAdd, h, field_byte, hn]

theorem planAdd_length (h : s.selector.buffer = some buf) (hn : 1 ≤ n.toNat) (hn8 : n.toNat ≤ 8)
    (hl : rest.length ≠ 4 * n.toNat) : s.planAdd (n :: rest) = s.refuse .length := by
  have hbad : ¬ (n.toNat = 0 ∨ 8 < n.toNat) := by omega
  have hlen : rest.length + 1 ≠ 1 + 4 * n.toNat := by omega
  simp [planAdd, h, field_byte, hbad, hlen]

theorem planAdd_bad {x : Status} (h : s.selector.buffer = some buf) (hn : 1 ≤ n.toNat) (hn8 : n.toNat ≤ 8)
    (hl : rest.length = 4 * n.toNat) (hx : readMembers n.toNat rest = .inl x) : s.planAdd (n :: rest) = s.refuse x := by
  have hbad : ¬ (n.toNat = 0 ∨ 8 < n.toNat) := by omega
  simp [planAdd, h, field_byte, hbad, hl, hx, Nat.add_comm 1]

theorem planAdd_full {ms : List Member} (h : s.selector.buffer = some buf) (hn : 1 ≤ n.toNat) (hn8 : n.toNat ≤ 8)
    (hl : rest.length = 4 * n.toNat) (hx : readMembers n.toNat rest = .inr ms) (hout : 32 < buf.members.length + ms.length) :
    s.planAdd (n :: rest) = (s.withBuffer none).refuse .range := by
  have hbad : ¬ (n.toNat = 0 ∨ 8 < n.toNat) := by omega
  simp [planAdd, h, field_byte, hbad, hl, hx, Nat.add_comm 1, hout, withBuffer]

theorem planAdd_done {ms : List Member} (h : s.selector.buffer = some buf) (hn : 1 ≤ n.toNat) (hn8 : n.toNat ≤ 8)
    (hl : rest.length = 4 * n.toNat) (hx : readMembers n.toNat rest = .inr ms) (hin : buf.members.length + ms.length ≤ 32) :
    s.planAdd (n :: rest) = ⟨.done, byte (buf.members.length + ms.length),
      s.withBuffer (some ⟨buf.slot, buf.members ++ ms⟩)⟩ := by
  have hbad : ¬ (n.toNat = 0 ∨ 8 < n.toNat) := by omega
  simp [planAdd, h, field_byte, hbad, hl, hx, Nat.add_comm 1, hin.not_gt, withBuffer]

end

end State

/-- Settles O22: the count, the length, the members read one by one, and the room. -/
theorem planAddAnswers : Obligations.PlanAddAnswers := by
  intro s tag n rest h body refuse
  have hk : Kind.planAdd ≠ .restart := by decide
  have hl : Kind.planAdd.lengthOk body.length = true := decide_eq_true (p := 1 ≤ rest.length + 1) (by omega)
  have hrefuse : ∀ x, (s.holding ⟨Kind.planAdd.code, tag, body⟩).planAdd body =
      (s.holding ⟨Kind.planAdd.code, tag, body⟩).refuse x → exec (.planAdd tag body) s = refuse x :=
    fun x hx => congrArg Host.Outcome.next (State.request_refused h hk hl rfl hx)
  refine ⟨fun hb => hrefuse _ (State.planAdd_sequence (s.holding _) hb body), fun buf hb => ⟨fun hn => ?_, fun hn hn8 hlen => ?_,
    fun good a kind number sign tail hn8 hrest hlen => ?_, fun ms hms hms8 hn hrest => ?_⟩⟩
  · exact hrefuse _ (State.planAdd_range (s.holding _) hb hn)
  · exact hrefuse _ (State.planAdd_length (s.holding _) hb hn hn8 hlen)
  · have hgood : good.length < n.toNat := by
      rw [hrest, List.length_append, List.length_append, flatMap_bytes_length] at hlen
      simp only [List.length_cons, List.length_nil] at hlen
      omega
    have hbad : ∀ x, readMember [a, kind, number, sign] = .inl x → exec (.planAdd tag body) s = refuse x := fun x hx =>
      hrefuse x (State.planAdd_bad (s.holding _) hb (by omega) hn8 hlen (by rw [hrest, readMembers_bad good hgood hx]))
    exact ⟨fun hf => hbad _ (readMember_field a kind number sign hf),
      fun hk hr => hbad _ (readMember_range a kind number sign hk hr)⟩
  · have hlen : rest.length = 4 * n.toNat := by rw [hrest, flatMap_bytes_length, hn]
    have hread : readMembers n.toNat rest = .inr ms := by rw [hn, hrest, readMembers_bytes]
    refine ⟨fun hroom => ?_, fun hfull => ?_⟩
    · exact congrArg Host.Outcome.next
        (State.request_replied (t := s.withBuffer (some ⟨buf.slot, buf.members ++ ms⟩)) h hk hl rfl
          (State.planAdd_done (s.holding _) hb (by omega) (by omega) hlen hread hroom))
    · exact congrArg Host.Outcome.next (State.request_replied (t := s.withBuffer none) h hk hl rfl
        (State.planAdd_full (s.holding _) hb (by omega) (by omega) hlen hread hfull))

/-! ### PLAN_CONFIRM (R46) -/

theorem hasDuplicate_iff (ms : List Member) :
    hasDuplicate ms = true ↔ ¬ (ms.map fun m => (m.account, m.point)).Nodup := by
  induction ms with
  | nil => simp [hasDuplicate]
  | cons m ms ih =>
    rw [hasDuplicate, Bool.or_eq_true, ih, List.map_cons, List.nodup_cons]
    simp only [List.any_eq_true, Bool.and_eq_true, beq_iff_eq, List.mem_map, Prod.mk.injEq]
    rw [not_and_or, not_not]

theorem readArrangement_none {kind leader : Nat} (h : 1 < kind ∨ (kind = 1 ∧ 1 < leader)) :
    readArrangement kind leader = none := by
  unfold readArrangement
  obtain h | ⟨rfl, h⟩ := h
  · rw [if_neg (by omega), if_neg (by omega)]
  · rw [if_neg (by omega), if_pos rfl, dif_neg (by omega)]

theorem confirmContent_none {ms : List Member} {mask value : Byte} {kind leader : Nat}
    (h : ms = [] ∨ ¬ (ms.map fun m => (m.account, m.point)).Nodup ∨ 1 < kind ∨ value &&& ~~~mask ≠ 0 ∨
      (kind = 1 ∧ 1 < leader)) : confirmContent ms mask value kind leader = none := by
  unfold confirmContent
  split
  · rfl
  next a ha =>
    refine if_pos ?_
    obtain h | h | h | h | h := h
    · simp [h]
    · simp [(hasDuplicate_iff ms).2 h]
    · exact absurd (ha.symm.trans (readArrangement_none (.inl h))) nofun
    · rw [bne_iff_ne.2 h, Bool.or_true]
    · exact absurd (ha.symm.trans (readArrangement_none (.inr h))) nofun

theorem confirmContent_some {ms : List Member} {mask value : Byte} {kind leader : Nat} {a : Arrangement}
    (hne : ms ≠ []) (hnd : (ms.map fun m => (m.account, m.point)).Nodup) (hv : value &&& ~~~mask = 0)
    (ha : readArrangement kind leader = some a) : confirmContent ms mask value kind leader = some ⟨mask, value, a, ms⟩ := by
  have hdup : hasDuplicate ms = false := Bool.eq_false_iff.2 fun h => (hasDuplicate_iff ms).1 h hnd
  have hempty : ms.isEmpty = false := by simpa using hne
  simp only [confirmContent, ha]
  refine if_neg ?_
  rw [hdup, hempty, hv]
  decide

namespace State

/-- The selector with the slot confirmed and the buffer used up. -/
def confirmedSelector (s : State) (p : Fin 8) (c : PlanContent) (persist : Bool) : Selector :=
  { s.selector with slots := s.selector.slots.put p (some ⟨c, persist⟩), buffer := none }

/-- The slot confirmed, and selection or the pending replacement, before the store write (R46). -/
def slotConfirmed (s : State) (p : Fin 8) (c : PlanContent) (persist : Bool) : State :=
  if s.selector.active == some p then
    { s with selector := { s.confirmedSelector p c persist with replacement := true, pendingPlan := some p } }
  else ({ s with selector := s.confirmedSelector p c persist }).select

theorem confirmSlot_volatile (s : State) (p : Fin 8) (c : PlanContent) :
    s.confirmSlot p c false = s.slotConfirmed p c false := rfl

theorem confirmSlot_persist (s : State) (p : Fin 8) (c : PlanContent) : s.confirmSlot p c true =
    (s.slotConfirmed p c true).writeImage fun i => { i with plans := i.plans.put p (some c) } := rfl

theorem slotConfirmed_eq (s : State) (p : Fin 8) (c : PlanContent) (b : Bool) : s.slotConfirmed p c b =
    { s with selector := (s.slotConfirmed p c b).selector, notices := (s.slotConfirmed p c b).notices } := by
  unfold slotConfirmed
  split
  · rfl
  · rw [select_eq]

theorem confirmSlot_selector (s : State) (p : Fin 8) (c : PlanContent) (b : Bool) :
    (s.confirmSlot p c b).selector = (s.slotConfirmed p c b).selector := by cases b <;> rfl

theorem confirmSlot_eq (s : State) (p : Fin 8) (c : PlanContent) (b : Bool) : s.confirmSlot p c b =
    { s with
      selector := (s.confirmSlot p c b).selector, notices := (s.confirmSlot p c b).notices
      store := (s.confirmSlot p c b).store } := by
  cases b
  · rw [confirmSlot_volatile, slotConfirmed_eq]
  · rw [confirmSlot_persist, slotConfirmed_eq]
    rfl

theorem confirmSlot_store (s : State) (p : Fin 8) (c : PlanContent) : (s.confirmSlot p c false).store = s.store ∧
    (s.confirmSlot p c true).store =
      some (.image { s.storedImage with plans := s.storedImage.plans.put p (some c) }) := by
  rw [confirmSlot_volatile, confirmSlot_persist, s.slotConfirmed_eq p c false, s.slotConfirmed_eq p c true]
  exact ⟨rfl, rfl⟩

/-- Selection does not look at the message link. -/
theorem select_holding (s : State) (f : HostFrame) : (s.holding f).select = s.select.holding f := by
  unfold select
  simp only [holding_selector]
  split
  · rfl
  · split <;> rfl

theorem slotConfirmed_holding (s : State) (f : HostFrame) (p : Fin 8) (c : PlanContent) (b : Bool) :
    (s.holding f).slotConfirmed p c b = (s.slotConfirmed p c b).holding f := by
  have hactive : ((s.holding f).selector.active == some p) = (s.selector.active == some p) := rfl
  by_cases h : (s.selector.active == some p) = true
  · rw [slotConfirmed, slotConfirmed, hactive, if_pos h, if_pos h]
    rfl
  · rw [slotConfirmed, slotConfirmed, hactive, if_neg h, if_neg h]
    exact select_holding { s with selector := s.confirmedSelector p c b } f

theorem confirmSlot_holding (s : State) (f : HostFrame) (p : Fin 8) (c : PlanContent) (b : Bool) :
    (s.holding f).confirmSlot p c b = (s.confirmSlot p c b).holding f := by
  cases b
  · exact s.slotConfirmed_holding f p c false
  · rw [confirmSlot_persist, slotConfirmed_holding]
    rfl

section
variable {s : State} {mask value kind leader flags : Byte} {buf : PlanBuffer}

theorem planConfirm_sequence (h : s.selector.buffer = none) (body : List Byte) :
    s.planConfirm body = s.refuse .sequence := by
  simp [planConfirm, h]

theorem planConfirm_busy (h : s.selector.buffer = some buf) (hf : flags = 1) (hs : s.store ≠ none) :
    s.planConfirm [mask, value, kind, leader, flags] = s.refuse .busy := by
  simp [planConfirm, h, hf, byteAt, storeBusy, Option.isSome_iff_ne_none.2 hs]

theorem planConfirm_read (h : s.selector.buffer = some buf) (hf : flags.getLsbD 0 = false ∨ s.store = none) :
    s.planConfirm [mask, value, kind, leader, flags] =
      match confirmContent buf.members mask value kind.toNat leader.toNat with
      | none => (s.withBuffer none).refuse .range
      | some c => (s.confirmSlot buf.slot c (flags.getLsbD 0)).doneNow := by
  have hbusy : (flags.getLsbD 0 && s.storeBusy) = false := by
    obtain hf | hs := hf
    · rw [hf, Bool.false_and]
    · rw [storeBusy, hs]
      exact Bool.and_false _
  have h2 : field [mask, value, kind, leader, flags] 2 1 = kind.toNat := by simp [field, slice, ofLe]
  have h3 : field [mask, value, kind, leader, flags] 3 1 = leader.toNat := by simp [field, slice, ofLe]
  have h4 : byteAt [mask, value, kind, leader, flags] 4 = flags := rfl
  have h0 : byteAt [mask, value, kind, leader, flags] 0 = mask := rfl
  have h1 : byteAt [mask, value, kind, leader, flags] 1 = value := rfl
  simp only [planConfirm, h, h0, h1, h2, h3, h4, hbusy]
  cases confirmContent buf.members mask value kind.toNat leader.toNat <;> rfl

end

end State

theorem readArrangement_some {kind leader : Byte} {a : Arrangement}
    (h : (kind = 0 ∧ a = .separate) ∨ (kind = 1 ∧ ∃ v : Fin 2, leader.toNat = v.val ∧ a = .common v)) :
    readArrangement kind.toNat leader.toNat = some a := by
  obtain ⟨rfl, rfl⟩ | ⟨rfl, v, hv, rfl⟩ := h
  · rfl
  · rw [hv]
    exact (if_neg (by decide)).trans ((if_pos rfl).trans (dif_pos v.isLt))

/-- Settles O23: the persist that must wait, the content that fails its tests, and the slot confirmed. -/
theorem planConfirmAnswers : Obligations.PlanConfirmAnswers := by
  intro s tag mask value kind leader flags h hflags hleader body
  have hk : Kind.planConfirm ≠ .restart := by decide
  have hr : Kind.planConfirm.reservedOk body = true := by
    have h4 : flagsOk flags = true := by obtain rfl | rfl := hflags <;> decide
    change (flagsOk flags && (kind != 0 || leader == 0)) = true
    simpa [h4] using hleader
  refine ⟨fun hb => ?_, fun buf hb => ⟨fun hf hs => ?_, fun hs => ⟨fun hbad => ?_, fun a hne hnd hv ha => ?_⟩⟩⟩
  · exact congrArg Host.Outcome.next
      (State.request_refused h hk rfl hr (State.planConfirm_sequence (s := s.holding _) hb body))
  · exact congrArg Host.Outcome.next
      (State.request_refused h hk rfl hr (State.planConfirm_busy (s := s.holding _) hb hf hs))
  all_goals
    have hfree : flags.getLsbD 0 = false ∨ s.store = none := hs.imp_left fun h0 => by rw [h0]; rfl
    have hread := State.planConfirm_read (s := s.holding ⟨Kind.planConfirm.code, tag, body⟩) (mask := mask)
      (value := value) (kind := kind) (leader := leader) hb hfree
  · have hnone : confirmContent buf.members mask value kind.toNat leader.toNat = none := by
      refine confirmContent_none (hbad.imp_right (.imp_right (.imp_right (.imp_right fun ⟨h1, h2⟩ => ⟨?_, h2⟩))))
      rw [h1]
      rfl
    simp only [hnone] at hread
    exact congrArg Host.Outcome.next (State.request_replied (t := s.withBuffer none) h hk rfl hr hread)
  · simp only [confirmContent_some hne hnd hv (readArrangement_some ha), State.confirmSlot_holding] at hread
    refine ⟨_, congrArg Host.Outcome.next (State.request_replied h hk rfl hr hread), rfl, ?_, ?_⟩
    · intro c x
      have hbit : flags.getLsbD 0 = (flags == 1) := by obtain rfl | rfl := hflags <;> rfl
      rw [hbit]
      have hsel : ((s.confirmSlot buf.slot c (flags == 1)).replied Kind.planConfirm.code tag body .done []).selector =
          (s.slotConfirmed buf.slot c (flags == 1)).selector := s.confirmSlot_selector _ _ _
      refine ⟨fun hact => ?_, fun hact => ⟨fun w hw => ?_, fun hw => ?_⟩, fun hf => ?_, fun hf => ?_⟩
      · rw [hsel, State.slotConfirmed, if_pos (beq_iff_eq.2 hact)]
        rfl
      · rw [hsel, State.slotConfirmed, if_neg (by simpa using hact)]
        exact (State.select_selected (s := { s with selector := s.confirmedSelector buf.slot c (flags == 1) }) hw).1
      · rw [hsel, State.slotConfirmed, if_neg (by simpa using hact)]
        exact congrArg State.selector
          (State.select_wordless (s := { s with selector := s.confirmedSelector buf.slot c (flags == 1) }) hw)
      · subst hf
        exact (s.confirmSlot_store buf.slot c).1
      · subst hf
        exact (s.confirmSlot_store buf.slot c).2
    · rw [State.confirmSlot_eq]
      rfl

/-! ### PLAN_CLEAR (R48) -/

namespace State

/-- The selector with the named slots emptied. -/
def clearedSelector (s : State) (mask : Byte) : Selector :=
  { s.selector with slots := s.selector.slots.each fun p sl => if mask.getLsbD p.val then none else sl }

/-- A named slot is VALID. -/
def clearsValid (s : State) (mask : Byte) : Bool :=
  (List.finRange 8).any fun p => mask.getLsbD p.val && (s.selector.slots.get p).isSome

/-- A named slot is marked stored. -/
def clearsStored (s : State) (mask : Byte) : Bool :=
  (List.finRange 8).any fun p => mask.getLsbD p.val && s.selector.isStored p

/-- The slots cleared, and selection, before the store write (R48). -/
def slotsCleared (s : State) (mask : Byte) : State :=
  if s.clearsValid mask then ({ s with selector := s.clearedSelector mask }).select
  else { s with selector := s.clearedSelector mask }

/-- The stored image without the named stored slots. -/
def imageCleared (s : State) (mask : Byte) (i : Image) : Image :=
  { i with plans := i.plans.each fun p c => if mask.getLsbD p.val && s.selector.isStored p then none else c }

theorem clearSlots_def (s : State) (mask : Byte) : s.clearSlots mask =
    if s.clearsStored mask then (s.slotsCleared mask).writeImage (s.imageCleared mask) else s.slotsCleared mask := rfl

section
variable {s : State} {mask : Byte}

theorem isStored_iff (p : Fin 8) : s.selector.isStored p = true ↔ ∃ c, s.selector.slots.get p = some ⟨c, true⟩ := by
  unfold Selector.isStored
  cases h : s.selector.slots.get p with
  | none => simp
  | some sl =>
    obtain ⟨c, b⟩ := sl
    simp

theorem clearsStored_iff : s.clearsStored mask = true ↔
    ∃ p : Fin 8, mask.getLsbD p.val = true ∧ ∃ c, s.selector.slots.get p = some ⟨c, true⟩ := by
  simp only [clearsStored, List.any_eq_true, List.mem_finRange, true_and, Bool.and_eq_true, isStored_iff]

theorem clearsValid_iff : s.clearsValid mask = true ↔
    ∃ p : Fin 8, mask.getLsbD p.val = true ∧ s.selector.slots.get p ≠ none := by
  simp only [clearsValid, List.any_eq_true, List.mem_finRange, true_and, Bool.and_eq_true, Option.isSome_iff_ne_none]

theorem planClear_inUse (h : ∃ p : Fin 8, mask.getLsbD p.val = true ∧ s.selector.active = some p) :
    s.planClear [mask] = s.refuse .inUse := by
  refine if_pos (List.any_eq_true.2 ?_)
  obtain ⟨p, hp, hact⟩ := h
  exact ⟨p, List.mem_finRange p, Bool.and_eq_true_iff.2 ⟨hp, beq_iff_eq.2 hact⟩⟩

theorem planClear_free (h : ∀ p : Fin 8, mask.getLsbD p.val = true → s.selector.active ≠ some p) : s.planClear [mask] =
    if s.storeBusy && s.clearsStored mask then s.refuse .busy else (s.clearSlots mask).doneNow := by
  refine if_neg fun hany => ?_
  obtain ⟨p, -, hp⟩ := List.any_eq_true.1 hany
  obtain ⟨hp, hact⟩ := Bool.and_eq_true_iff.1 hp
  exact h p hp (beq_iff_eq.1 hact)

theorem planClear_busy (h : ∀ p : Fin 8, mask.getLsbD p.val = true → s.selector.active ≠ some p)
    (hb : (s.storeBusy && s.clearsStored mask) = true) : s.planClear [mask] = s.refuse .busy :=
  (planClear_free h).trans (if_pos hb)

theorem planClear_done (h : ∀ p : Fin 8, mask.getLsbD p.val = true → s.selector.active ≠ some p)
    (hb : ¬ (s.storeBusy && s.clearsStored mask) = true) : s.planClear [mask] = (s.clearSlots mask).doneNow :=
  (planClear_free h).trans (if_neg hb)

end

theorem slotsCleared_eq (s : State) (mask : Byte) : s.slotsCleared mask =
    { s with selector := (s.slotsCleared mask).selector, notices := (s.slotsCleared mask).notices } := by
  unfold slotsCleared
  split
  · rw [select_eq]
  · rfl

theorem clearSlots_selector (s : State) (mask : Byte) : (s.clearSlots mask).selector = (s.slotsCleared mask).selector := by
  rw [clearSlots_def]
  split <;> rfl

theorem clearSlots_eq (s : State) (mask : Byte) : s.clearSlots mask =
    { s with
      selector := (s.clearSlots mask).selector, notices := (s.clearSlots mask).notices
      store := (s.clearSlots mask).store } := by
  rw [clearSlots_def, slotsCleared_eq]
  split <;> rfl

theorem clearSlots_store (s : State) (mask : Byte) : (s.clearSlots mask).store =
    if s.clearsStored mask then some (.image (s.imageCleared mask s.storedImage)) else s.store := by
  rw [clearSlots_def, slotsCleared_eq]
  split <;> rfl

theorem slotsCleared_holding (s : State) (f : HostFrame) (mask : Byte) :
    (s.holding f).slotsCleared mask = (s.slotsCleared mask).holding f := by
  have hvalid : (s.holding f).clearsValid mask = s.clearsValid mask := rfl
  unfold slotsCleared
  rw [hvalid]
  cases s.clearsValid mask
  · rfl
  · exact select_holding { s with selector := s.clearedSelector mask } f

theorem clearSlots_holding (s : State) (f : HostFrame) (mask : Byte) :
    (s.holding f).clearSlots mask = (s.clearSlots mask).holding f := by
  have hstored : (s.holding f).clearsStored mask = s.clearsStored mask := rfl
  rw [clearSlots_def, clearSlots_def, hstored, slotsCleared_holding]
  cases s.clearsStored mask <;> rfl

/-- Selection changes the marker and the unmatched indication of the selector alone. -/
theorem select_slots (s : State) : s.select.selector.slots = s.selector.slots := by
  unfold select
  split
  · rfl
  · split <;> rfl

theorem slotsCleared_slots (s : State) (mask : Byte) :
    (s.slotsCleared mask).selector.slots = (s.clearedSelector mask).slots := by
  unfold slotsCleared
  split
  · exact select_slots _
  · rfl

theorem slotsCleared_slot (s : State) (mask : Byte) (p : Fin 8) : (s.slotsCleared mask).selector.slots.get p =
    if mask.getLsbD p.val then none else s.selector.slots.get p := by
  rw [slotsCleared_slots, clearedSelector, Table.get_each]

end State

/-- Settles O24: the active slot, the store write that must wait, and the slots cleared. -/
theorem planClearAnswers : Obligations.PlanClearAnswers := by
  intro s tag mask h named stored
  have hk : Kind.planClear ≠ .restart := by decide
  refine ⟨fun huse => ?_, fun hfree => ⟨fun hst hbusy => ?_, fun hgo => ?_⟩⟩
  · exact congrArg Host.Outcome.next
      (State.request_refused h hk rfl rfl (State.planClear_inUse (s := s.holding _) huse))
  · have hwait : (s.storeBusy && s.clearsStored mask) = true :=
      Bool.and_eq_true_iff.2 ⟨Option.isSome_iff_ne_none.2 hbusy, State.clearsStored_iff.2 hst⟩
    exact congrArg Host.Outcome.next
      (State.request_refused h hk rfl rfl (State.planClear_busy (s := s.holding _) hfree hwait))
  · have hnot : ¬ (s.storeBusy && s.clearsStored mask) = true := fun hb => by
      obtain ⟨hbusy, hst⟩ := Bool.and_eq_true_iff.1 hb
      obtain ⟨p, hp, hpst⟩ := State.clearsStored_iff.1 hst
      obtain hgo | hgo := hgo
      · exact hgo p hp hpst
      · exact Option.isSome_iff_ne_none.1 hbusy hgo
    have hdone := State.planClear_done (s := s.holding ⟨Kind.planClear.code, tag, [mask]⟩) hfree hnot
    rw [State.clearSlots_holding] at hdone
    have hsel : ((s.clearSlots mask).replied Kind.planClear.code tag [mask] .done []).selector =
        (s.slotsCleared mask).selector := s.clearSlots_selector mask
    have hstore : ((s.clearSlots mask).replied Kind.planClear.code tag [mask] .done []).store =
        if s.clearsStored mask then some (.image (s.imageCleared mask s.storedImage)) else s.store :=
      s.clearSlots_store mask
    refine ⟨_, congrArg Host.Outcome.next (State.request_replied h hk rfl rfl hdone), rfl, fun p hp => ?_, fun p hp => ?_,
      fun w hv hw => ?_, fun hidle => ?_, fun hst => ?_, fun hst => ?_, ?_⟩
    · rw [hsel, State.slotsCleared_slot, if_pos hp]
    · rw [hsel, State.slotsCleared_slot, if_neg hp]
    · rw [hsel, State.slotsCleared_slots, State.slotsCleared, if_pos (State.clearsValid_iff.2 hv)]
      exact (State.select_selected (s := { s with selector := s.clearedSelector mask }) hw).1
    · rw [hsel, State.slotsCleared_slots, State.slotsCleared]
      split
      next hv =>
        obtain ⟨p, hp, hpv⟩ := State.clearsValid_iff.1 hv
        obtain hidle | hidle := hidle
        · exact absurd (hidle p hp) hpv
        · exact congrArg State.selector
            (State.select_wordless (s := { s with selector := s.clearedSelector mask }) hidle)
      next => rfl
    · rw [hstore, if_neg fun hb => ?_]
      obtain ⟨p, hp, hpst⟩ := State.clearsStored_iff.1 hb
      exact hst p hp hpst
    · rw [hstore, if_pos (State.clearsStored_iff.2 hst)]
      refine ⟨_, rfl, fun p hp => ?_, fun p hp => ?_, rfl⟩
      · exact (Table.get_each _ _ _).trans
          (if_pos (Bool.and_eq_true_iff.2 ⟨hp.1, (State.isStored_iff p).2 hp.2⟩))
      · exact (Table.get_each _ _ _).trans (if_neg fun hb => hp
          ⟨(Bool.and_eq_true_iff.1 hb).1, (State.isStored_iff p).1 (Bool.and_eq_true_iff.1 hb).2⟩)
    · rw [State.clearSlots_eq]
      rfl

end Sys2Proof.Machine
end

section
/-! PROOFS. Reading the items of a body at their offsets, and IDENT and STATE (O25). -/

/- The whole text is compiled as one file: these proofs are elaborated one after another, to stay within its memory. -/
set_option Elab.async false

namespace Sys2Proof.Machine

/-! ### Items behind others -/

theorem slice_skip {a b : List Byte} {i k : Nat} (h : a.length ≤ i) : slice (a ++ b) i k = slice b (i - a.length) k := by
  rw [slice, slice, List.drop_append, List.drop_eq_nil_of_le h, List.nil_append]

theorem slice_head {a b : List Byte} {k : Nat} (h : a.length = k) : slice (a ++ b) 0 k = a := by
  rw [slice, List.drop_zero, ← h, List.take_left]

theorem slice_whole {a : List Byte} {k : Nat} (h : a.length = k) : slice a 0 k = a := by
  rw [slice, List.drop_zero, ← h, List.take_length]

/-- An item behind `a`. -/
theorem field_skip {a b : List Byte} {i k : Nat} (h : a.length ≤ i) : field (a ++ b) i k = field b (i - a.length) k := by
  rw [field, field, slice_skip h]

theorem field_skip_add (a b : List Byte) (i k : Nat) : field (a ++ b) (a.length + i) k = field b i k := by
  rw [field_skip (Nat.le_add_right _ _), Nat.add_sub_cancel_left]

/-- The first item, of `k` bytes. -/
theorem field_head {b : List Byte} {k n : Nat} : field (leBytes k n ++ b) 0 k = n % 256 ^ k := by
  rw [field, slice_head (leBytes_length k n), ofLe_leBytes]

theorem field_last {k n : Nat} : field (leBytes k n) 0 k = n % 256 ^ k := by
  rw [field, slice_whole (leBytes_length k n), ofLe_leBytes]

theorem byteAt_eq (bs : List Byte) (i : Nat) : byteAt bs i = BitVec.ofNat 8 (field bs i 1) := by
  have hdrop : slice bs i 1 = (bs[i]?).toList := by rw [slice, List.take_one, List.head?_drop]
  rw [byteAt, field, hdrop, List.getD_eq_getElem?_getD]
  cases bs[i]? with
  | none => rfl
  | some b => simp [ofLe]

/-- A bit of a flags byte. -/
theorem flagsByte_getLsbD (n i : Nat) (hi : i < 8) : (BitVec.ofNat 8 (n % 256)).getLsbD i = n.testBit i := by
  rw [BitVec.getLsbD_ofNat, decide_eq_true hi, Bool.true_and, show 256 = 2 ^ 8 from rfl, Nat.testBit_mod_two_pow,
    decide_eq_true hi, Bool.true_and]

theorem boolByte_one (b : Bool) : BitVec.ofNat 8 (b.toNat % 256) = 1 ↔ b = true := by cases b <;> decide

theorem bitsOf_lt (l : List Bool) : bitsOf l < 2 ^ l.length := by
  induction l with
  | nil => exact Nat.one_pos
  | cons b l ih =>
    have hb : b.toNat ≤ 1 := Bool.toNat_le b
    rw [bitsOf, List.length_cons, Nat.pow_succ]
    omega

/-! ### Items that may be absent -/

theorem planByte_eq (p : Option (Fin 8)) : planByte p = leBytes 1 (p.elim 255 Fin.val) := by cases p <;> rfl

theorem segmentBytes_eq (g : Option (Fin 256)) : segmentBytes g = leBytes 2 (g.elim 0xFFFF Fin.val) := by cases g <;> rfl

theorem byteList_eq (b : Byte) : [b] = leBytes 1 b.toNat := by simp [leBytes]

namespace State

theorem trackerBytes_eq (s : State) (v : Fin 2) : s.trackerBytes v =
    leBytes 1 (s.trackers.get v).state.code ++ (leBytes 4 (s.trackedFreq v) ++
      (leBytes 1 (s.trackers.get v).holdover ++ leBytes 1 ((s.trackers.get v).ref.elim 255 Fin.val))) := by
  simp only [trackerBytes, List.append_assoc]
  cases (s.trackers.get v).ref <;> rfl

/-- The STATE reply as its items one behind the other (R168). -/
theorem stateBody_eq (s : State) : s.stateBody =
    leBytes 1 s.op.code ++ (s.trackerBytes 0 ++ (s.trackerBytes 1 ++
    (leBytes 1 (bitsOf ((List.finRange 4).map fun l => (s.lanes.get l).up)) ++
    (leBytes 1 (s.selector.word.getD 0).toNat ++ (leBytes 1 s.selector.word.isSome.toNat ++
    (leBytes 1 (s.selector.active.elim 255 Fin.val) ++ (leBytes 1 (s.selector.pendingPlan.elim 255 Fin.val) ++
    (leBytes 1 (bitsOf [s.selector.replacement, s.selector.unmatched]) ++
    (leBytes 1 s.tie.state.code ++ (leBytes 1 s.archive.state.code ++ (leBytes 1 s.archive.error.code ++
    (leBytes 1 s.archive.heldInd.toNat ++ (leBytes 1 s.queue.length ++ (leBytes 4 s.clock.index ++
    (leBytes 1 s.clock.part ++ (leBytes 4 s.clock.position ++ (leBytes 1 s.clock.aligned.toNat ++
    (leBytes 4 s.archive.mark ++
    (leBytes 2 ((if s.archive.state == .scanning then none else s.archive.head).elim 0xFFFF Fin.val) ++
    (leBytes 2 ((if s.archive.state == .scanning then none else s.tail).elim 0xFFFF Fin.val) ++
    (leBytes 2 (if s.archive.state == .scanning then 0 else s.erasedCount) ++
    leBytes 1 s.storeBusy.toNat))))))))))))))))))))) := by
  unfold stateBody
  simp only [byte, boolByte, planByte_eq, segmentBytes_eq, List.append_assoc]
  rw [byteList_eq]

end State

theorem State.stateBody_holding (s : State) (f : HostFrame) : (s.holding f).stateBody = s.stateBody := by
  have ht : ∀ v, (s.holding f).trackerBytes v = s.trackerBytes v := fun _ => rfl
  have htail : (s.holding f).tail = s.tail :=
    congrArg List.head? (State.segmentsWith_congr (s := s.holding f) (t := s) rfl Marker.holds)
  have herased : (s.holding f).erasedCount = s.erasedCount := rfl
  have hstore : (s.holding f).storeBusy = s.storeBusy := rfl
  unfold State.stateBody
  rw [ht, ht, htail, herased, hstore]
  rfl

theorem identBody_eq : identBody =
    [0x40, 0x08, 1, 0x00, 0x7D, 30, 4, 2, 8, 2, 40, 16, 8, 32, 4, 48, 32, 0x00, 0x01, 0x00, 0x80, 4, 0x00, 0x04, 2] := rfl

/-- A request served in every operating state whose owner changes nothing (R164 (2)). -/
theorem State.request_read {s : State} (h : s.free) {k : Kind} (ha : k.always = true ∨ s.op = .running) (hk : k ≠ .restart)
    {tag : Byte} {body : List Byte} {x : Status} {reply : List Byte} {t : State}
    (hl : k.lengthOk body.length = true) (hr : k.reservedOk body = true)
    (ho : (s.holding ⟨k.code, tag, body⟩).owner k body = ⟨x, reply, t.holding ⟨k.code, tag, body⟩⟩) :
    (s.whenAlive fun u => u.request k tag body) = t.replied k.code tag body x reply := by
  obtain ⟨halive, hmsg⟩ := h
  have hserved : ((s.holding ⟨k.code, tag, body⟩).op != .running && !k.always) = false := by
    obtain ha | ho := ha
    · rw [ha, Bool.not_true, Bool.and_false]
    · rw [State.holding_op, ho]
      rfl
  have hanswer : (s.holding ⟨k.code, tag, body⟩).answer ⟨k.code, tag, body⟩ =
      ⟨x, reply, t.holding ⟨k.code, tag, body⟩⟩ := by
    rw [State.answer_kind, State.answerKind, hserved, hl, hr]
    exact ho
  rw [State.whenAlive_running _ _ halive, State.request, State.frameArrives_free _ _ hmsg]
  change ((s.holding ⟨k.code, tag, body⟩).answer _).after.setReply
    (some (replyTo _ ((s.holding ⟨k.code, tag, body⟩).answer _))) = _
  rw [hanswer]
  simp only [replyTo, beq_false_of_ne (Kind.code_ne_restart hk), Bool.false_and]
  rfl

theorem OpState.code_lt (x : OpState) : x.code < 256 := by cases x <;> decide
theorem TrackerState.code_lt (x : TrackerState) : x.code < 256 := by cases x <;> decide
theorem TieState.code_lt (x : TieState) : x.code < 256 := by cases x <;> decide
theorem ArchiveState.code_lt (x : ArchiveState) : x.code < 256 := by cases x <;> decide
theorem ArchiveError.code_lt (x : ArchiveError) : x.code < 256 := by cases x <;> decide

theorem elim_val_lt {n d m : Nat} (o : Option (Fin n)) (hd : d < m) (hn : n ≤ m) : o.elim d Fin.val < m := by
  cases o with
  | none => exact hd
  | some p => exact p.isLt.trans_le hn

theorem State.erasedCount_lt (s : State) : s.erasedCount < 65536 :=
  Nat.lt_of_le_of_lt ((List.length_filter_le _ _).trans (List.length_finRange).le) (by decide)

/-- Settles O25: both bodies item by item. -/
theorem identAndStateAnswer : Obligations.IdentAndStateAnswer := by
  refine ⟨fun s tag h => ?_, fun s tag h => ⟨s.stateBody, ?_, ?_⟩⟩
  · rw [← identBody_eq]
    exact congrArg Host.Outcome.next (State.request_read (t := s) (k := .ident) h (.inl rfl) nofun rfl rfl rfl)
  · refine congrArg Host.Outcome.next (State.request_read (t := s) (k := .stateRequest) h (.inl rfl) nofun rfl rfl ?_)
    rw [← s.stateBody_holding ⟨Kind.stateRequest.code, tag, []⟩]
    rfl
  · rw [State.stateBody_eq, State.trackerBytes_eq, State.trackerBytes_eq]
    simp only [List.append_assoc, Fin.forall_fin_two, byteAt_eq]
    refine ⟨by simp, ?_⟩
    simp only [field_skip, field_head, field_last, leBytes_length, Nat.reduceSub, Nat.reduceLeDiff, Nat.reduceMul,
      Nat.reduceAdd, Nat.reducePow, Fin.val_zero, Fin.val_one, le_refl, Nat.sub_self, true_and, boolByte_one]
    have hopt : ∀ {n : Nat} (o : Option (Fin n)), n ≤ 256 → o.elim 255 Fin.val % 256 = o.elim 255 Fin.val :=
      fun o hn => Nat.mod_eq_of_lt (elim_val_lt o (by decide) hn)
    have hseg : ∀ o : Option (Fin 256), o.elim 65535 Fin.val % 65536 = o.elim 65535 Fin.val :=
      fun o => Nat.mod_eq_of_lt (elim_val_lt o (by decide) (by decide))
    refine ⟨Nat.mod_eq_of_lt s.op.code_lt, ⟨⟨Nat.mod_eq_of_lt (TrackerState.code_lt _), ?_⟩,
      Nat.mod_eq_of_lt (TrackerState.code_lt _), ?_⟩, fun l => ?_, ?_, Option.isSome_iff_ne_none, ?_, ?_, ?_, ?_,
      Nat.mod_eq_of_lt s.tie.state.code_lt, Nat.mod_eq_of_lt s.archive.state.code_lt,
      Nat.mod_eq_of_lt s.archive.error.code_lt, fun hs => ?_, fun hs => ?_, Option.isSome_iff_ne_none⟩
    · rw [hopt _ (by decide)]
      cases (s.trackers.get 0).ref <;> rfl
    · rw [hopt _ (by decide)]
      cases (s.trackers.get 1).ref <;> rfl
    · rw [flagsByte_getLsbD _ _ (by omega), bitsOf_testBit, getD_map_finRange]
    · rw [Nat.mod_eq_of_lt (s.selector.word.getD 0).isLt, BitVec.ofNat_toNat, BitVec.setWidth_eq]
    · rw [hopt _ (by decide)]
      cases s.selector.active <;> rfl
    · rw [hopt _ (by decide)]
      cases s.selector.pendingPlan <;> rfl
    · rw [flagsByte_getLsbD _ _ (by decide), bitsOf_testBit]
      rfl
    · rw [flagsByte_getLsbD _ _ (by decide), bitsOf_testBit]
      rfl
    · rw [if_pos (beq_iff_eq.2 hs), if_pos (beq_iff_eq.2 hs), if_pos (beq_iff_eq.2 hs)]
      exact ⟨rfl, rfl, rfl⟩
    · have hno : ¬ (s.archive.state == .scanning) = true := fun h => hs (beq_iff_eq.1 h)
      rw [if_neg hno, if_neg hno, if_neg hno, hseg, hseg]
      refine ⟨?_, ?_, Nat.mod_eq_of_lt s.erasedCount_lt⟩
      · cases s.archive.head <;> rfl
      · cases s.tail <;> rfl

end Sys2Proof.Machine
end

section
/-! PROOFS. Bodies made of lists of equal items, SNAPSHOT (O27) and the notice unit (O28). -/

/- The whole text is compiled as one file: these proofs are elaborated one after another, to stay within its memory. -/
set_option Elab.async false

namespace Sys2Proof.Machine

/-! ### Lists of items of one length -/

theorem field_prefix {a b : List Byte} {i k : Nat} (h : i + k ≤ a.length) : field (a ++ b) i k = field a i k := by
  have hdrop : k ≤ (a.drop i).length := by
    rw [List.length_drop]
    omega
  rw [field, field, slice, slice, List.drop_append_of_le_length (by omega), List.take_append_of_le_length hdrop]

theorem finRange_split {n : Nat} (i : Fin n) :
    ∃ l r, List.finRange n = l ++ i :: r ∧ l.map Fin.val = List.range i.val := by
  have hi : i.val < (List.finRange n).length := by simp
  have hget : (List.finRange n)[i.val] = i := by simp
  refine ⟨(List.finRange n).take i.val, (List.finRange n).drop (i.val + 1), ?_, ?_⟩
  · conv_lhs => rw [← List.take_append_drop i.val (List.finRange n), List.drop_eq_getElem_cons hi, hget]
  · rw [List.map_take, List.map_coe_finRange_eq_range, List.take_range, Nat.min_eq_left i.isLt.le]

theorem filter_val_length {n : Nat} (l : List (Fin n)) (p : Nat → Bool) :
    (l.filter fun i => p i.val).length = ((l.map Fin.val).filter p).length := by
  rw [List.filter_map, List.length_map]
  rfl

theorem flatMap_length {α : Type} (l : List α) {g : α → List Byte} {w : Nat} (hw : ∀ i, (g i).length = w) :
    (l.flatMap g).length = w * l.length := by
  induction l with
  | nil => rfl
  | cons x l ih => rw [List.flatMap_cons, List.length_append, hw, ih, List.length_cons, Nat.mul_succ, Nat.add_comm]

theorem flatMap_if {α : Type} (l : List α) (p : α → Bool) (g : α → List Byte) :
    (l.flatMap fun i => if p i then g i else []) = (l.filter p).flatMap g := by
  induction l with
  | nil => rfl
  | cons x l ih =>
    rw [List.flatMap_cons, ih]
    cases hx : p x
    · rw [List.filter_cons_of_neg (by rw [hx]; exact Bool.false_ne_true)]
      rfl
    · rw [List.filter_cons_of_pos hx]
      rfl

section
variable {n : Nat} {g : Fin n → List Byte} {w : Nat} (p : Nat → Bool)

theorem filtered_length (hw : ∀ i, (g i).length = w) :
    (((List.finRange n).filter fun i => p i.val).flatMap g).length = w * ((List.range n).filter p).length := by
  rw [flatMap_length _ hw, filter_val_length, List.map_coe_finRange_eq_range]

/-- The item of a selected index stands behind those of the selected indices below. -/
theorem field_filtered (hw : ∀ i, (g i).length = w) (i : Fin n) (hp : p i.val = true) {j k : Nat} (hj : j + k ≤ w)
    (rest : List Byte) :
    field (((List.finRange n).filter fun i => p i.val).flatMap g ++ rest) (w * ((List.range i.val).filter p).length + j) k =
      field (g i) j k := by
  obtain ⟨l, r, hsplit, hval⟩ := finRange_split i
  have hbelow : ((l.filter fun i => p i.val).flatMap g).length = w * ((List.range i.val).filter p).length := by
    rw [flatMap_length _ hw, filter_val_length, hval]
  rw [hsplit, List.filter_append, List.filter_cons_of_pos (by exact hp), List.flatMap_append, List.flatMap_cons,
    List.append_assoc, ← hbelow, field_skip_add, List.append_assoc, field_prefix (by rw [hw]; exact hj)]

theorem field_filtered_last (hw : ∀ i, (g i).length = w) (i : Fin n) (hp : p i.val = true) {j k : Nat} (hj : j + k ≤ w) :
    field (((List.finRange n).filter fun i => p i.val).flatMap g) (w * ((List.range i.val).filter p).length + j) k =
      field (g i) j k := by
  have h := field_filtered p hw i hp hj []
  rwa [List.append_nil] at h

end

/-- The item of index `i` of a whole table. -/
theorem field_table {n : Nat} {g : Fin n → List Byte} {w : Nat} (hw : ∀ i, (g i).length = w) (i : Fin n) {j k : Nat}
    (hj : j + k ≤ w) (rest : List Byte) : field ((List.finRange n).flatMap g ++ rest) (w * i.val + j) k = field (g i) j k := by
  have h := field_filtered (fun _ => true) hw i rfl hj rest
  rwa [List.filter_true, List.filter_true, List.length_range] at h

theorem field_table_last {n : Nat} {g : Fin n → List Byte} {w : Nat} (hw : ∀ i, (g i).length = w) (i : Fin n) {j k : Nat}
    (hj : j + k ≤ w) : field ((List.finRange n).flatMap g) (w * i.val + j) k = field (g i) j k := by
  have h := field_table hw i hj []
  rwa [List.append_nil] at h

theorem field_leInt (k : Nat) (z : Int) : (field (leInt k z) 0 k : Int) = z % (256 ^ k : Nat) := by
  have hpos : (0 : Int) < (256 ^ k : Nat) := by positivity
  have hnn := Int.emod_nonneg z (ne_of_gt hpos)
  have hlt := Int.emod_lt_of_pos z hpos
  rw [leInt, field_last, Nat.mod_eq_of_lt (by omega), Int.toNat_of_nonneg hnn]

/-! ### SNAPSHOT (R32, R33) -/

theorem countBits_eq (n mask : Nat) : countBits n mask = ((List.range n).filter (bitOf mask)).length := rfl

/-- The 8 bytes of a phasor. -/
def phasorBytes (e : ChannelEntry) (i : Fin 40) : List Byte := leInt 4 (e.phasors.get i).re ++ leInt 4 (e.phasors.get i).im

theorem phasorBytes_length (e : ChannelEntry) (i : Fin 40) : (phasorBytes e i).length = 8 := by simp [phasorBytes]

theorem snapshotEntry_eq (c : Fin 30) (e : ChannelEntry) (orders : Nat) : snapshotEntry c e orders =
    leBytes 1 c.val ++ (leBytes 1 (bitsOf [!e.owned, e.unused, e.held, e.clip]) ++ (leBytes 4 e.rms ++ (leBytes 2 0 ++
      ((List.finRange 40).filter fun i => bitOf orders i.val).flatMap (phasorBytes e)))) := by
  rw [← flatMap_if]
  simp only [snapshotEntry, List.append_assoc]
  rfl

theorem snapshotEntry_length (c : Fin 30) (e : ChannelEntry) (orders : Nat) :
    (snapshotEntry c e orders).length = 8 + 8 * countBits 40 orders := by
  simp only [snapshotEntry_eq, List.length_append, leBytes_length, filtered_length _ (phasorBytes_length e), countBits_eq]
  omega

theorem snapshotBody_eq (v : Fin 2) (p : PhasorTable) (channels orders : Nat) : snapshotBody v p channels orders =
    leBytes 1 v.val ++ (leBytes 4 p.number ++ (leBytes 8 p.start ++ (leBytes 2 p.n ++ (leBytes 4 p.freq ++
      (leBytes 1 (bitsOf [p.track, p.joined.isSome, p.lanesDown.get 0, p.lanesDown.get 1, p.lanesDown.get 2,
        p.lanesDown.get 3]) ++ (leBytes 4 0 ++
      ((List.finRange 30).filter fun c => bitOf channels c.val).flatMap
        fun c => snapshotEntry c (p.entries.get c) orders)))))) := by
  rw [← flatMap_if]
  simp only [snapshotBody, List.append_assoc]
  rfl

theorem snapshotBody_length (v : Fin 2) (p : PhasorTable) (channels orders : Nat) :
    (snapshotBody v p channels orders).length = 24 + countBits 30 channels * (8 + 8 * countBits 40 orders) := by
  simp only [snapshotBody_eq, List.length_append, leBytes_length, countBits_eq 30, Nat.mul_comm _ (8 + _),
    filtered_length _ fun c => snapshotEntry_length c (p.entries.get c) orders]
  omega

/-- The header of a SNAPSHOT body. -/
theorem snapshotBody_header (v : Fin 2) (p : PhasorTable) (channels orders : Nat) :
    let b := snapshotBody v p channels orders
    field b 0 1 = v.val ∧ field b 1 4 = p.number % 2 ^ 32 ∧ field b 5 8 = p.start % 2 ^ 64 ∧
    field b 13 2 = p.n % 2 ^ 16 ∧ field b 15 4 = p.freq % 2 ^ 32 ∧
    (byteAt b 19).getLsbD 0 = p.track ∧ (byteAt b 19).getLsbD 1 = p.joined.isSome ∧
    (∀ l : Fin 4, (byteAt b 19).getLsbD (2 + l.val) = p.lanesDown.get l) ∧ (byteAt b 19).toNat < 64 ∧
    field b 20 4 = 0 := by
  have hflags : bitsOf [p.track, p.joined.isSome, p.lanesDown.get 0, p.lanesDown.get 1, p.lanesDown.get 2,
      p.lanesDown.get 3] < 64 := bitsOf_lt _
  dsimp only
  rw [snapshotBody_eq]
  simp only [byteAt_eq, field_skip, field_head, leBytes_length, Nat.reduceSub, Nat.reduceLeDiff, Nat.reducePow, le_refl,
    Nat.sub_self, true_and, Nat.zero_mod, and_true]
  refine ⟨Nat.mod_eq_of_lt (by omega), ?_, ?_, fun l => ?_, ?_⟩
  · rw [flagsByte_getLsbD _ _ (by decide), bitsOf_testBit]
    rfl
  · rw [flagsByte_getLsbD _ _ (by decide), bitsOf_testBit]
    rfl
  · rw [flagsByte_getLsbD _ _ (by omega), bitsOf_testBit]
    fin_cases l <;> rfl
  · rw [BitVec.toNat_ofNat]
    omega

/-- The entry of a selected channel. -/
theorem snapshotBody_entry (v : Fin 2) (p : PhasorTable) (channels orders : Nat) (c : Fin 30)
    (hc : bitOf channels c.val = true) {j k : Nat} (hj : j + k ≤ 8 + 8 * countBits 40 orders) :
    field (snapshotBody v p channels orders)
      (24 + countBits c.val channels * (8 + 8 * countBits 40 orders) + j) k =
      field (snapshotEntry c (p.entries.get c) orders) j k := by
  rw [snapshotBody_eq]
  have h := field_filtered_last (bitOf channels) (fun c => snapshotEntry_length c (p.entries.get c) orders) c hc hj
  rw [countBits_eq c.val, Nat.mul_comm, Nat.add_assoc]
  simp (disch := (simp only [leBytes_length] <;> omega)) only [field_skip, leBytes_length]
  rw [← h]
  congr 1
  omega

/-- The items of an entry. -/
theorem snapshotEntry_items (c : Fin 30) (e : ChannelEntry) (orders : Nat) :
    let b := snapshotEntry c e orders
    field b 0 1 = c.val ∧ (BitVec.ofNat 8 (field b 1 1)).getLsbD 0 = (!e.owned) ∧
    (BitVec.ofNat 8 (field b 1 1)).getLsbD 1 = e.unused ∧ (BitVec.ofNat 8 (field b 1 1)).getLsbD 2 = e.held ∧
    (BitVec.ofNat 8 (field b 1 1)).getLsbD 3 = e.clip ∧ (BitVec.ofNat 8 (field b 1 1)).toNat < 16 ∧
    field b 2 4 = e.rms % 2 ^ 32 ∧ field b 6 2 = 0 := by
  have hflags : bitsOf [!e.owned, e.unused, e.held, e.clip] < 16 := bitsOf_lt _
  dsimp only
  rw [snapshotEntry_eq]
  simp only [field_skip, field_head, leBytes_length, Nat.reduceSub, Nat.reduceLeDiff, Nat.reducePow, le_refl,
    Nat.sub_self, Nat.zero_mod, and_true]
  refine ⟨Nat.mod_eq_of_lt (by omega), ?_, ?_, ?_, ?_, ?_⟩
  · rw [flagsByte_getLsbD _ _ (by decide), bitsOf_testBit]
    rfl
  · rw [flagsByte_getLsbD _ _ (by decide), bitsOf_testBit]
    rfl
  · rw [flagsByte_getLsbD _ _ (by decide), bitsOf_testBit]
    rfl
  · rw [flagsByte_getLsbD _ _ (by decide), bitsOf_testBit]
    rfl
  · rw [BitVec.toNat_ofNat]
    omega

theorem countBits_lt {n i mask : Nat} (hi : i < n) (h : bitOf mask i = true) : countBits i mask < countBits n mask := by
  have hsplit : List.range n = List.range (i + 1) ++ (List.range (n - (i + 1))).map (i + 1 + ·) := by
    rw [← List.range_add]
    congr 1
    omega
  rw [countBits_eq, countBits_eq, hsplit, List.filter_append, List.length_append, List.range_succ, List.filter_append,
    List.length_append, List.filter_cons_of_pos h, List.length_cons]
  omega

/-- The phasor of a selected order in an entry. -/
theorem snapshotEntry_phasor (c : Fin 30) (e : ChannelEntry) (orders : Nat) (i : Fin 40) (hi : bitOf orders i.val = true) :
    (field (snapshotEntry c e orders) (8 + 8 * countBits i.val orders) 4 : Int) = (e.phasors.get i).re % 2 ^ 32 ∧
    (field (snapshotEntry c e orders) (12 + 8 * countBits i.val orders) 4 : Int) = (e.phasors.get i).im % 2 ^ 32 := by
  have hre := field_filtered_last (bitOf orders) (phasorBytes_length e) i hi (j := 0) (k := 4) (by decide)
  have him := field_filtered_last (bitOf orders) (phasorBytes_length e) i hi (j := 4) (k := 4) (by decide)
  have h0 : field (phasorBytes e i) 0 4 = field (leInt 4 (e.phasors.get i).re) 0 4 := field_prefix (by simp)
  have h4 : field (phasorBytes e i) 4 4 = field (leInt 4 (e.phasors.get i).im) 0 4 := by
    rw [phasorBytes, field_skip (by simp), leInt_length]
  have hout : ∀ j, field (snapshotEntry c e orders) (8 + j) 4 =
      field (((List.finRange 40).filter fun i => bitOf orders i.val).flatMap (phasorBytes e)) j 4 := fun j => by
    rw [snapshotEntry_eq]
    simp (disch := (simp only [leBytes_length] <;> omega)) only [field_skip, leBytes_length]
    congr 1
    omega
  have hadd : 12 + 8 * countBits i.val orders = 8 + (8 * countBits i.val orders + 4) := by omega
  refine ⟨?_, ?_⟩
  · rw [hout]
    exact (congrArg Nat.cast (hre.trans h0)).trans (field_leInt 4 _)
  · rw [hadd, hout]
    exact (congrArg Nat.cast (him.trans h4)).trans (field_leInt 4 _)

namespace State
variable {s : State} {body : List Byte}

theorem snapshot_range (h : 1 < field body 0 1 ∨ field body 1 4 = 0 ∨ field body 5 5 = 0) : s.snapshot body = (.range, []) := by
  unfold snapshot
  dsimp only
  split
  next htb =>
    refine if_pos ?_
    simp only [Bool.or_eq_true, decide_eq_true_eq]
    omega
  next => rfl

theorem snapshot_field (htb : field body 0 1 ≤ 1) (ho : field body 5 5 ≠ 0) (hc : 2 ^ 30 ≤ field body 1 4) :
    s.snapshot body = (.field, []) := by
  have hgo : ¬ (decide (field body 1 4 = 0) || decide (field body 5 5 = 0)) = true := by
    simp only [Bool.or_eq_true, decide_eq_true_eq]
    omega
  exact (dif_pos (by omega)).trans ((if_neg hgo).trans (if_pos hc))

theorem snapshot_table {v : Fin 2} (htb : field body 0 1 = v.val) (ho : field body 5 5 ≠ 0) (hc0 : field body 1 4 ≠ 0)
    (hc : field body 1 4 < 2 ^ 30) : s.snapshot body =
      match (s.timebases.get v).table with
      | none => (.refusedState, [])
      | some p =>
        if 1024 < snapshotSize (field body 1 4) (field body 5 5) then (.tooLarge, [])
        else (.done, snapshotBody v p (field body 1 4) (field body 5 5)) := by
  have hlt : field body 0 1 < 2 := by omega
  have hv : (⟨field body 0 1, hlt⟩ : Fin 2) = v := Fin.ext htb
  simp only [snapshot, hlt, dite_true, hv, ho, hc0, decide_false, Bool.or_self, Nat.not_le.2 hc, if_false,
    Bool.false_eq_true] <;> rfl

end State

/-- Settles O27: the refusals, then the header and the entries of the table. -/
theorem snapshotAnswers : Obligations.SnapshotAnswers := by
  intro s tag body h hlen channels orders size refuse
  have hl : Kind.snapshot.lengthOk body.length = true := by rw [hlen]; rfl
  have hans : ∀ x b, s.snapshot body = (x, b) →
      exec (.snapshot tag body) s = .next (s.replied 0x42 tag body x b) := fun x b hx => by
    refine congrArg Host.Outcome.next (State.request_replied (t := s) (k := .snapshot) h nofun hl rfl ?_)
    change (⟨(s.snapshot body).1, (s.snapshot body).2, s.holding _⟩ : Answer) = _
    rw [hx]
  refine ⟨fun hr => hans _ _ (State.snapshot_range hr), fun htb ho hc => hans _ _ (State.snapshot_field htb ho hc),
    fun v htb ho hc0 hc => ⟨fun hn => ?_, fun p hp => ⟨fun hbig => ?_, fun hfit => ?_⟩⟩⟩
  · refine hans _ _ ((State.snapshot_table htb ho hc0 hc).trans ?_)
    rw [hn]
  · refine hans _ _ ((State.snapshot_table htb ho hc0 hc).trans ?_)
    rw [hp]
    exact if_pos hbig
  · refine ⟨snapshotBody v p channels orders, hans _ _ ((State.snapshot_table htb ho hc0 hc).trans ?_),
      snapshotBody_length v p channels orders, ?_⟩
    · rw [hp]
      exact if_neg hfit.not_gt
    · obtain ⟨h0, h1, h2, h3, h4, h5, h6, h7, h8, h9⟩ := snapshotBody_header v p channels orders
      refine ⟨h0, h1, h2, h3, h4, h5, h6, h7, h8, h9, fun c hc => ?_⟩
      intro e off
      have hentry := fun j k => snapshotBody_entry v p channels orders c hc (j := j) (k := k)
      obtain ⟨e0, e1, e2, e3, e4, e5, e6, e7⟩ := snapshotEntry_items c e orders
      have hoff0 : field (snapshotBody v p channels orders) off 1 = field (snapshotEntry c e orders) 0 1 :=
        hentry 0 1 (by omega)
      have hoff1 : byteAt (snapshotBody v p channels orders) (off + 1) =
          BitVec.ofNat 8 (field (snapshotEntry c e orders) 1 1) := by
        rw [byteAt_eq]
        exact congrArg _ (hentry 1 1 (by omega))
      rw [hoff0, hoff1]
      refine ⟨e0, e1, e2, e3, e4, e5, (hentry 2 4 (by omega)).trans e6, (hentry 6 2 (by omega)).trans e7, fun i hi => ?_⟩
      have hlt : countBits i.val orders < countBits 40 orders := countBits_lt i.isLt hi
      obtain ⟨hre, him⟩ := snapshotEntry_phasor c e orders i hi
      refine ⟨(congrArg Nat.cast ?_).trans hre, (congrArg Nat.cast ?_).trans him⟩
      · rw [Nat.add_assoc]
        exact hentry _ 4 (by omega)
      · rw [Nat.add_assoc]
        exact hentry _ 4 (by omega)

/-! ### The notice unit (R174 to R177) -/

theorem Notices.takeBody_eq (n : Notices) : n.takeBody =
    leBytes 3 n.latched.toNat ++ (leBytes 1 n.laneMask.toNat ++ (leBytes 1 n.setMask.toNat ++ (leBytes 4 n.clipMask.toNat ++
    (leBytes 2 n.exceedMask.toNat ++ ((List.finRange 16).flatMap (fun a => leBytes 5 (n.sustained.get a).toNat) ++
    (leBytes 1 n.lows.toNat ++ ((List.finRange 4).flatMap (fun l => leBytes 2 (n.laneErrors.get l)) ++
    (leBytes 2 n.discarded ++ (leBytes 2 n.overruns ++ (leBytes 2 n.resent ++ (leBytes 2 n.badPages ++
    (leBytes 2 n.abandoned ++ (leBytes 2 n.syncFaults ++ leBytes 2 n.droppedTopology))))))))))))) := by
  simp only [Notices.takeBody, byte, List.append_assoc]

/-- The items of a NOTICE_TAKE body. -/
theorem Notices.takeBody_items (n : Notices) : let b := n.takeBody
    b.length = 114 ∧ field b 0 3 = n.latched.toNat ∧ field b 3 1 = n.laneMask.toNat ∧
    field b 4 1 = n.setMask.toNat ∧ field b 5 4 = n.clipMask.toNat ∧ field b 9 2 = n.exceedMask.toNat ∧
    (∀ a : Fin 16, field b (11 + 5 * a.val) 5 = (n.sustained.get a).toNat) ∧ field b 91 1 = n.lows.toNat ∧
    (∀ l : Fin 4, field b (92 + 2 * l.val) 2 = n.laneErrors.get l % 65536) ∧
    field b 100 2 = n.discarded % 65536 ∧ field b 102 2 = n.overruns % 65536 ∧ field b 104 2 = n.resent % 65536 ∧
    field b 106 2 = n.badPages % 65536 ∧ field b 108 2 = n.abandoned % 65536 ∧ field b 110 2 = n.syncFaults % 65536 ∧
    field b 112 2 = n.droppedTopology % 65536 := by
  have hsustained := flatMap_length (List.finRange 16) fun a => leBytes_length 5 (n.sustained.get a).toNat
  have herrors := flatMap_length (List.finRange 4) fun l => leBytes_length 2 (n.laneErrors.get l)
  rw [List.length_finRange] at hsustained herrors
  dsimp only
  rw [Notices.takeBody_eq]
  simp only [List.length_append, hsustained, herrors, field_skip, field_head, field_last, leBytes_length, Nat.reduceSub,
    Nat.reduceLeDiff, Nat.reducePow, Nat.reduceMul, Nat.reduceAdd, le_refl, Nat.sub_self, true_and, and_true]
  refine ⟨Nat.mod_eq_of_lt ?_, Nat.mod_eq_of_lt ?_, Nat.mod_eq_of_lt ?_, Nat.mod_eq_of_lt ?_, Nat.mod_eq_of_lt ?_,
    fun a => ?_, Nat.mod_eq_of_lt ?_, fun l => ?_⟩
  case refine_6 =>
    simp (disch := (simp only [leBytes_length] <;> omega)) only [field_skip, leBytes_length]
    have hoff : 11 + 5 * a.val - 3 - 1 - 1 - 4 - 2 = 5 * a.val + 0 := by omega
    rw [hoff, field_table (fun a => leBytes_length 5 _) a (by decide), field_last]
    exact Nat.mod_eq_of_lt (by omega)
  case refine_8 =>
    simp (disch := (simp only [leBytes_length, hsustained] <;> omega)) only [field_skip, leBytes_length, hsustained]
    have hoff : 92 + 2 * l.val - 3 - 1 - 1 - 4 - 2 - 5 * 16 - 1 = 2 * l.val + 0 := by omega
    rw [hoff, field_table (fun l => leBytes_length 2 _) l (by decide), field_last]
    rfl
  all_goals omega

namespace State

theorem latch_pulse (s : State) (x : Notice) : (s.latch x).notices.pulse = (s.notices.pulse || s.callsPulse x) := rfl

theorem latchIf_pulse (s : State) (b : Bool) (x : Notice) :
    (s.latchIf b x).notices.pulse = (s.notices.pulse || (b && s.callsPulse x)) := by
  cases b
  · exact (Bool.or_false _).symm
  · rfl

theorem callsPulse_level {s : State} (h : s.settings.attentionMode = .level) (x : Notice) : s.callsPulse x = false := by
  simp [callsPulse, h]

theorem callsPulse_close {s : State} (h : s.settings.attentionMode = .pulseClose) (x : Notice) :
    s.callsPulse x = (x == .closed) := by
  simp [callsPulse, h]

theorem callsPulse_any {s : State} (h : s.settings.attentionMode = .pulseAny) (x : Notice) :
    s.callsPulse x = true ↔ s.notices.latched.getLsbD x.bit = false ∧ s.settings.noticeMask.getLsbD x.bit = false := by
  simp [callsPulse, h]

theorem closeNotices_pulse {s : State} (h : s.settings.attentionMode = .pulseClose) (b c : Bool) :
    ((s.latchIf b .closed).latchIf c .intervalExtended).notices.pulse = (s.notices.pulse || b) := by
  have hmode : (s.latchIf b .closed).settings.attentionMode = .pulseClose := by cases b <;> exact h
  rw [latchIf_pulse, latchIf_pulse, callsPulse_close h, callsPulse_close hmode]
  simp

/-- In PULSE_CLOSE a close pulses the line exactly where it forms a record (R177 (2)). -/
theorem settleClose_pulse {s : State} (h : s.settings.attentionMode = .pulseClose) (concerned formed : List (Fin 16))
    (cause : CloseCause) (reason : Option CloseReason) (index part : Nat) (aligned advances : Bool) :
    (s.settleClose concerned formed cause reason index part aligned advances).notices.pulse =
      (s.notices.pulse || !formed.isEmpty) := by
  unfold settleClose
  exact closeNotices_pulse (by exact h) _ _

theorem normalClose_pulse {s : State} (h : s.settings.attentionMode = .pulseClose) (cause : CloseCause)
    (aligned lateOpen : Bool) : (s.normalClose cause aligned lateOpen).notices.pulse =
      (s.notices.pulse || !(if s.normalForms then s.enabledAccounts else []).isEmpty) := by
  have hh := s.handed_eq none
  rw [normalClose_eq]
  refine (settleClose_pulse (s := s.handed none) ?_ _ _ _ _ _ _ _ _).trans ?_
  · rw [hh]
    exact h
  · rw [hh]

theorem handed_primary {s : State} (h : s.tie.state = .pairedPrimary) (reason : Option CloseReason) : s.handed reason =
    (s.onTie fun t => t.closeDue ⟨s.clock.index, s.clock.part, reason⟩).transmit.notePair := by
  rw [handed, handClose, if_pos (beq_iff_eq.2 h)]

theorem handed_other {s : State} (h : s.tie.state ≠ .pairedPrimary) (reason : Option CloseReason) :
    s.handed reason = s.notePair := by
  rw [handed, handClose, if_neg fun h0 => h (beq_iff_eq.1 h0)]

/-- A close does not look at the message link. -/
theorem handed_holding (s : State) (f : HostFrame) (reason : Option CloseReason) :
    (s.holding f).handed reason = (s.handed reason).holding f := by
  by_cases h : s.tie.state = .pairedPrimary
  · rw [handed_primary h, handed_primary (s := s.holding f) h]
    rfl
  · rw [handed_other h, handed_other (s := s.holding f) h]
    rfl

theorem settleClose_holding (s : State) (f : HostFrame) (concerned formed : List (Fin 16)) (cause : CloseCause)
    (reason : Option CloseReason) (index part : Nat) (aligned advances : Bool) :
    (s.holding f).settleClose concerned formed cause reason index part aligned advances =
      (s.settleClose concerned formed cause reason index part aligned advances).holding f := by
  unfold settleClose
  generalize (!formed.isEmpty) = x
  generalize (concerned.any fun a => !formed.contains a) = y
  cases x <;> cases y <;> rfl

theorem normalClose_holding (s : State) (f : HostFrame) (cause : CloseCause) (aligned lateOpen : Bool) :
    (s.holding f).normalClose cause aligned lateOpen = (s.normalClose cause aligned lateOpen).holding f := by
  rw [normalClose_eq, normalClose_eq, handed_holding, settleClose_holding]
  rfl

theorem attentionLine_pulse {s : State} (ha : s.stopped = false) (h : s.settings.attentionMode ≠ .level) :
    s.attentionLine = s.notices.pulse := by
  unfold attentionLine
  rw [ha]
  cases hm : s.settings.attentionMode
  · exact absurd hm h
  · rfl
  · rfl

/-- An unmasked latched notice asserts the line in LEVEL (R177 (1)). -/
theorem attentionLine_level {s : State} (ha : s.stopped = false) (h : s.settings.attentionMode = .level) {i : Nat}
    (hl : s.notices.latched.getLsbD i = true) (hm : s.settings.noticeMask.getLsbD i = false) : s.attentionLine = true := by
  have hbit : (s.notices.latched &&& ~~~s.settings.noticeMask).getLsbD i = true := by
    have hi : i < 18 := BitVec.lt_of_getLsbD hl
    rw [BitVec.getLsbD_and, BitVec.getLsbD_not, hl, hm, decide_eq_true hi]
    rfl
  have hne : s.notices.latched &&& ~~~s.settings.noticeMask ≠ 0 := fun h0 => by
    rw [h0] at hbit
    simp at hbit
  simp only [attentionLine, ha, h]
  exact bne_iff_ne.2 hne

theorem sameButClose_settings {s t : State} (h : s.sameButClose t) :
    t.settings = s.settings ∧ t.stopped = s.stopped := by
  unfold sameButClose at h
  exact ⟨(congrArg settings h :), (congrArg stopped h :)⟩

end State

/-- Settles O28: the body, then the latching and what pulses the line. -/
theorem noticesAreTaken : Obligations.NoticesAreTaken := by
  refine ⟨fun s tag h => ⟨s.notices.takeBody, ?_, s.notices.takeBody_items⟩, fun s tag h => ?_, fun s x => ⟨fun hm => ?_,
    fun hm => ?_, fun hm => ?_⟩, fun s tag h hm ht hi => ?_, fun s ha => ?_⟩
  · exact congrArg Host.Outcome.next (State.request_read (t := s.clearNotices) (k := .noticeTake) h (.inl rfl) nofun rfl rfl rfl)
  · refine ⟨(s.latch .test).replied 0x71 tag [] .done [], congrArg Host.Outcome.next
      (State.request_replied (t := s.latch .test) (k := .noticeRaise) h nofun rfl rfl rfl), rfl, rfl, fun hm hk => ?_,
      fun hm hk hl => ?_, fun hm => ?_, rfl, rfl⟩
    · refine State.attentionLine_level (i := 17) h.1.1 hm ?_ hk
      exact (s.latch_getLsbD .test 17).trans (by simp [Notice.bit])
    · have hmode : ((s.latch .test).replied 0x71 tag [] .done []).settings.attentionMode ≠ .level := fun h0 =>
        nomatch (hm.symm.trans h0)
      refine (State.attentionLine_pulse (s := (s.latch .test).replied 0x71 tag [] .done []) h.1.1 hmode).trans ?_
      exact Bool.or_eq_true_iff.2 (.inr ((State.callsPulse_any hm .test).2 ⟨hl, hk⟩))
    · refine (s.latch_pulse .test).trans ?_
      cases hmode : s.settings.attentionMode
      · rw [State.callsPulse_level hmode, Bool.or_false]
      · rw [State.callsPulse_close hmode]
        exact Bool.or_false _
      · exact absurd hmode hm
  · rw [State.latch_pulse, State.callsPulse_level hm, Bool.or_false]
  · rw [State.latch_pulse, State.callsPulse_close hm, Bool.or_eq_true, beq_iff_eq]
  · rw [State.latch_pulse, Bool.or_eq_true, State.callsPulse_any hm]
  · have hans : (s.holding ⟨Kind.closeNow.code, tag, []⟩).closeNow = ⟨.done, leBytes 4 (s.normalClose .closeNow false
        false).clock.index ++ boolByte s.closeRoom,
        (s.normalClose .closeNow false false).holding ⟨Kind.closeNow.code, tag, []⟩⟩ := by
      have hpaired : ¬ ((s.holding ⟨Kind.closeNow.code, tag, []⟩).tie.state == .pairedSecondary) = true :=
        fun h0 => ht (beq_iff_eq.1 h0)
      rw [State.closeNow, if_neg hpaired, State.normalClose_holding]
      rfl
    refine ⟨_, congrArg Host.Outcome.next (State.request_replied (k := .closeNow) h nofun rfl rfl hans),
      fun hne hroom => ?_, fun hnone => ?_⟩
    · have hform : s.normalForms = true := (State.normalForms_room_iff hi hne).2 hroom
      have hpulse : (s.normalClose .closeNow false false).notices.pulse = true := by
        rw [State.normalClose_pulse hm, if_pos hform, List.isEmpty_eq_false_iff.2 hne]
        exact Bool.or_true _
      refine ⟨?_, hpulse, ?_⟩
      · exact (((s.normalClose_taken .closeNow false false).1 hi).2.1 hroom).2.2.2.2.1 hne
      · obtain ⟨hset, hstop⟩ := State.sameButClose_settings (s.normalClose_same .closeNow false false)
        refine (State.attentionLine_pulse (hstop.trans h.1.1) ?_).trans hpulse
        exact fun h0 => nomatch hm.symm.trans ((congrArg Settings.attentionMode hset).symm.trans h0)
    · have hform : (if s.normalForms then s.enabledAccounts else []) = [] := by
        obtain h0 | hfull := hnone
        · rw [h0, ite_self]
        · by_cases hne : s.enabledAccounts = []
          · rw [hne, ite_self]
          · exact if_neg fun hf => Nat.not_le_of_lt hfull ((State.normalForms_room_iff hi hne).1 hf)
      refine (State.normalClose_pulse hm .closeNow false false).trans ?_
      rw [hform]
      exact Bool.or_false _
  · exact congrArg Host.Outcome.next (State.whenAlive_running s _ ha)

end Sys2Proof.Machine
end

section
/-! PROOFS. The reading requests TIE_STATUS, ACCOUNT_READ, LIMIT_GET, PLAN_GET and GET (O26). -/

/- The whole text is compiled as one file: these proofs are elaborated one after another, to stay within its memory. -/
set_option Elab.async false

namespace Sys2Proof.Machine

/-! ### Setting ids (11.1) -/

theorem idIndex_some {n id base : Nat} {k : Fin n} : idIndex n id base = some k ↔ id = base + k.val := by
  unfold idIndex
  split
  next h =>
    split
    next hb =>
      rw [Option.some.injEq, Fin.ext_iff]
      dsimp only
      omega
    next hb =>
      refine ⟨nofun, fun h0 => ?_⟩
      omega
  next h =>
    refine ⟨nofun, fun h0 => ?_⟩
    omega

theorem readId_id (i : SettingId) : readId i.id = some i := by
  have hvoltage : ∀ v : Fin 2, readId (SettingId.nominalVoltage v).id = some (.nominalVoltage v) := by decide
  have hpresence : ∀ v : Fin 2, readId (SettingId.presence v).id = some (.presence v) := by decide
  have hscale : ∀ c : Fin 30, readId (SettingId.scale c).id = some (.scale c) := by decide
  have hdelay : ∀ c : Fin 30, readId (SettingId.delay c).id = some (.delay c) := by decide
  have hbinding : ∀ k : Fin 8, readId (SettingId.binding k).id = some (.binding k) := by decide
  have henabled : ∀ a : Fin 16, readId (SettingId.enabled a).id = some (.enabled a) := by decide
  have hname : ∀ a : Fin 16, readId (SettingId.name a).id = some (.name a) := by decide
  have hmask : ∀ a : Fin 16, readId (SettingId.orderMask a).id = some (.orderMask a) := by decide
  have hslot : ∀ j : Fin 4, readId (SettingId.exportSlot j).id = some (.exportSlot j) := by decide
  cases i
  case nominalVoltage v => exact hvoltage v
  case presence v => exact hpresence v
  case scale c => exact hscale c
  case delay c => exact hdelay c
  case binding k => exact hbinding k
  case enabled a => exact henabled a
  case name a => exact hname a
  case orderMask a => exact hmask a
  case exportSlot j => exact hslot j
  all_goals rfl

theorem readId_some {n : Nat} {i : SettingId} (h : readId n = some i) : n = i.id := by
  unfold readId at h
  split at h
  case h_11 =>
    simp only [Option.or_eq_some_iff, Option.map_eq_some_iff, idIndex_some] at h
    obtain ⟨k, rfl, rfl⟩ | ⟨-, ⟨k, rfl, rfl⟩ | ⟨-, ⟨k, rfl, rfl⟩ | ⟨-, ⟨k, rfl, rfl⟩ | ⟨-, ⟨k, rfl, rfl⟩ | ⟨-, ⟨k, rfl, rfl⟩ |
      ⟨-, ⟨k, rfl, rfl⟩ | ⟨-, ⟨k, rfl, rfl⟩ | ⟨-, k, rfl, rfl⟩⟩⟩⟩⟩⟩⟩⟩ := h <;> rfl
  all_goals
    cases h
    rfl

/-! ### TIE_STATUS (R157) -/

theorem toggleByte_eq (o : Option Bool) : toggleByte o = leBytes 1 (o.elim 255 Bool.toNat) := by cases o <;> rfl

theorem State.tieBody_eq (s : State) : s.tieBody =
    leBytes 1 s.tie.state.code ++ (leBytes 1 s.settings.preference.code ++ (leBytes 1 s.tie.attempt ++
    (leBytes 2 s.tie.ownSeed ++ (leBytes 2 s.tie.partnerSeed ++ (leBytes 1 s.tie.sendToggle.toNat ++
    (leBytes 1 (s.tie.partnerToggle.elim 255 Bool.toNat) ++ (leBytes 1 (s.tie.inFlight.elim 255 PageBody.code) ++
    (leBytes 1 s.tie.sendCount ++ (leBytes 4 (s.tie.holding.elim 0 Summary.count) ++
    (leBytes 4 (s.tie.holding.elim 0 Summary.first) ++ (leBytes 1 s.tie.closeList.length ++
    (leBytes 1 (s.tie.exportBase.elim 255 Fin.val) ++ (leBytes 2 s.tie.sent ++ (leBytes 2 s.tie.accepted ++
    (leBytes 2 s.tie.lost ++ (leBytes 2 s.tie.merged ++ (leBytes 1 s.tie.lastPair.isSome.toNat ++
    (leBytes 4 (s.tie.lastPair.elim 0 Prod.fst) ++ leBytes 1 (s.tie.lastPair.elim 0 Prod.snd))))))))))))))))))) := by
  simp only [tieBody, byte, boolByte, toggleByte_eq]
  cases s.tie.inFlight <;> cases s.tie.holding <;> cases s.tie.exportBase <;> cases s.tie.lastPair <;>
    simp only [List.append_assoc] <;> rfl

theorem Preference.code_lt (x : Preference) : x.code < 256 := by cases x <;> decide
theorem PageBody.code_lt (x : PageBody) : x.code < 255 := by cases x <;> simp [PageBody.code]

/-- The items of a TIE_STATUS body. -/
theorem State.tieBody_items (s : State) : let b := s.tieBody
    b.length = 35 ∧ field b 0 1 = s.tie.state.code ∧ field b 1 1 = s.settings.preference.code ∧
    field b 2 1 = s.tie.attempt % 256 ∧ field b 3 2 = s.tie.ownSeed % 65536 ∧ field b 5 2 = s.tie.partnerSeed % 65536 ∧
    field b 7 1 = s.tie.sendToggle.toNat ∧
    field b 8 1 = (match s.tie.partnerToggle with | some x => x.toNat | none => 255) ∧
    field b 9 1 = (match s.tie.inFlight with | some x => x.code | none => 255) ∧
    field b 10 1 = s.tie.sendCount % 256 ∧
    field b 11 4 = (match s.tie.holding with | some x => x.count % 2 ^ 32 | none => 0) ∧
    field b 15 4 = (match s.tie.holding with | some x => x.first % 2 ^ 32 | none => 0) ∧
    field b 19 1 = s.tie.closeList.length % 256 ∧
    field b 20 1 = (match s.tie.exportBase with | some v => v.val | none => 255) ∧
    field b 21 2 = s.tie.sent % 65536 ∧ field b 23 2 = s.tie.accepted % 65536 ∧ field b 25 2 = s.tie.lost % 65536 ∧
    field b 27 2 = s.tie.merged % 65536 ∧ (byteAt b 29 = 1 ↔ s.tie.lastPair ≠ none) ∧ field b 29 1 ≤ 1 ∧
    field b 30 4 = (match s.tie.lastPair with | some p => p.1 % 2 ^ 32 | none => 0) ∧
    field b 34 1 = (match s.tie.lastPair with | some p => p.2 % 256 | none => 0) := by
  dsimp only
  rw [State.tieBody_eq]
  simp only [List.length_append, byteAt_eq, field_skip, field_head, field_last, leBytes_length, Nat.reduceSub,
    Nat.reduceLeDiff, Nat.reducePow, Nat.reduceAdd, le_refl, Nat.sub_self, true_and, boolByte_one]
  have hbool : ∀ b : Bool, b.toNat % 256 = b.toNat := by decide
  refine ⟨Nat.mod_eq_of_lt s.tie.state.code_lt, Nat.mod_eq_of_lt s.settings.preference.code_lt, hbool _, ?_, ?_, ?_, ?_, ?_,
    Option.isSome_iff_ne_none, ?_, ?_, ?_⟩
  · cases s.tie.partnerToggle with
    | none => rfl
    | some b => exact hbool b
  · cases s.tie.inFlight with
    | none => rfl
    | some x => exact Nat.mod_eq_of_lt (x.code_lt.trans (by decide))
  · cases s.tie.holding <;> rfl
  · cases s.tie.holding <;> rfl
  · cases s.tie.exportBase with
    | none => rfl
    | some v => exact Nat.mod_eq_of_lt (by change v.val < 256; omega)
  · rw [hbool]
    exact Bool.toNat_le _
  · cases s.tie.lastPair <;> rfl
  · cases s.tie.lastPair <;> rfl

/-! ### ACCOUNT_READ (R76 to R78) -/

/-- An accumulator entry stands at an offset (R77). -/
def Acc.at (x : Acc) (b : List Byte) (off : Nat) : Prop :=
  field b off 4 = x.whole % 2 ^ 32 ∧ field b (off + 4) 8 = x.residue % 2 ^ 64

theorem Acc.bytes_length (x : Acc) : x.bytes.length = 12 := by simp [Acc.bytes]

theorem Acc.bytes_at (x : Acc) : x.at x.bytes 0 := by
  refine ⟨?_, ?_⟩
  · simp only [Acc.bytes, field_head, Nat.reducePow]
  · simp only [Acc.bytes, field_skip, field_last, leBytes_length, Nat.reduceAdd, Nat.reducePow, le_refl, Nat.sub_self]

/-- `part` stands in `b` at an offset. -/
def Stands (part b : List Byte) (off : Nat) : Prop := ∃ pre post, b = pre ++ (part ++ post) ∧ pre.length = off

theorem Stands.field {part b : List Byte} {off j k : Nat} (h : Stands part b off) (hj : j + k ≤ part.length) :
    field b (off + j) k = field part j k := by
  obtain ⟨pre, post, rfl, rfl⟩ := h
  rw [field_skip_add, field_prefix hj]

theorem Stands.slice {part b : List Byte} {off k : Nat} (h : Stands part b off) (hk : part.length = k) :
    slice b off k = part := by
  obtain ⟨pre, post, rfl, rfl⟩ := h
  rw [slice_skip (Nat.le_refl _), Nat.sub_self, slice_head hk]

/-- From an offset of `b` on there is `rest`. -/
def EndsWith (rest b : List Byte) (off : Nat) : Prop := ∃ pre, b = pre ++ rest ∧ pre.length = off

theorem EndsWith.start {rest b : List Byte} (h : b = rest) : EndsWith rest b 0 := ⟨[], h, rfl⟩

theorem EndsWith.stands {part rest b : List Byte} {off : Nat} (h : EndsWith (part ++ rest) b off) : Stands part b off :=
  let ⟨pre, hb, hoff⟩ := h
  ⟨pre, rest, hb, hoff⟩

theorem EndsWith.last {rest b : List Byte} {off : Nat} (h : EndsWith rest b off) : Stands rest b off :=
  let ⟨pre, hb, hoff⟩ := h
  ⟨pre, [], by rw [hb, List.append_nil], hoff⟩

theorem EndsWith.next {part rest b : List Byte} {off n : Nat} (h : EndsWith (part ++ rest) b off) (hn : part.length = n) :
    EndsWith rest b (off + n) := by
  obtain ⟨pre, rfl, rfl⟩ := h
  exact ⟨pre ++ part, by rw [List.append_assoc], by rw [List.length_append, hn]⟩

theorem Stands.trans {part mid b : List Byte} {i off : Nat} (h : Stands mid b off) (hp : Stands part mid i) :
    Stands part b (off + i) := by
  obtain ⟨pre, post, rfl, rfl⟩ := h
  obtain ⟨pre', post', rfl, rfl⟩ := hp
  exact ⟨pre ++ pre', post' ++ post, by simp only [List.append_assoc], List.length_append⟩

theorem Acc.at_stands {x : Acc} {part b : List Byte} {off j : Nat} (h : Stands part b off) (hj : j + 12 ≤ part.length)
    (hx : x.at part j) : x.at b (off + j) := by
  refine ⟨(h.field (by omega)).trans hx.1, ?_⟩
  rw [Nat.add_assoc]
  exact (h.field (by omega)).trans hx.2

theorem Acc.at_filtered {n : Nat} (f : Fin n → Acc) (p : Nat → Bool) (i : Fin n) (hp : p i.val = true) :
    (f i).at (((List.finRange n).filter fun i => p i.val).flatMap fun i => (f i).bytes)
      (12 * ((List.range i.val).filter p).length) := by
  have hw : ∀ i, (f i).bytes.length = 12 := fun i => (f i).bytes_length
  obtain ⟨h0, h4⟩ := (f i).bytes_at
  exact ⟨(field_filtered_last p hw i hp (j := 0) (by decide)).trans h0,
    (field_filtered_last p hw i hp (j := 4) (by decide)).trans h4⟩

/-- The groups of an ACCOUNT_READ body (R77). -/
def State.accountGroup (s : State) (a : Fin 16) (orders : Nat) : Nat → List Byte
  | 0 => [(s.accounts.get a).mains.imp, (s.accounts.get a).mains.exp, (s.accounts.get a).mains.q1,
      (s.accounts.get a).mains.q2, (s.accounts.get a).mains.q3, (s.accounts.get a).mains.q4].flatMap Acc.bytes
  | 1 => [(s.accounts.get a).mains.habs, (s.accounts.get a).mains.hemi].flatMap Acc.bytes
  | 2 => (orders39 orders).flatMap fun i => ((s.accounts.get a).absorbed.get i).bytes
  | 3 => (orders39 orders).flatMap fun i => ((s.accounts.get a).emitted.get i).bytes
  | 4 => (orders40 orders).flatMap fun i => leBytes 4 ((s.accounts.get a).peaks.get i)
  | 5 => (orders39 orders).flatMap fun i => leBytes 2 ((s.accounts.get a).exceed.get i)
  | _ => leBytes 1 (s.isEnabled a).toNat ++ (s.settings.name.get a ++ (leBytes 4 (s.accounts.get a).windows ++
      (leBytes 4 (s.accounts.get a).degraded ++ (leBytes 2 (s.accounts.get a).abandoned ++
      (leBytes 1 (s.accounts.get a).flags.bits ++ (leBytes 1 (s.accounts.get a).plansUsed.toNat ++
      leBytes 1 (s.accounts.get a).span))))))

/-- A group, if it is selected. -/
def State.accountPart (s : State) (a : Fin 16) (groups orders i : Nat) : List Byte :=
  if bitOf groups i then s.accountGroup a orders i else []

/-- The 12 bytes before the groups. -/
def State.accountHead (s : State) (a : Fin 16) (groups orders : Nat) : List Byte :=
  leBytes 1 a.val ++ (leBytes 1 groups ++ (leBytes 5 orders ++ (leBytes 4 s.clock.index ++ leBytes 1 s.clock.part)))

theorem State.accountBody_eq (s : State) (a : Fin 16) (groups orders : Nat) : s.accountBody a groups orders =
    s.accountHead a groups orders ++
    (s.accountPart a groups orders 0 ++ (s.accountPart a groups orders 1 ++ (s.accountPart a groups orders 2 ++
    (s.accountPart a groups orders 3 ++ (s.accountPart a groups orders 4 ++ (s.accountPart a groups orders 5 ++
    s.accountPart a groups orders 6)))))) := by
  have h6 : s.accountGroup a orders 6 = boolByte (s.isEnabled a) ++ s.settings.name.get a ++
      leBytes 4 (s.accounts.get a).windows ++ leBytes 4 (s.accounts.get a).degraded ++
      leBytes 2 (s.accounts.get a).abandoned ++ byte (s.accounts.get a).flags.bits ++ [(s.accounts.get a).plansUsed] ++
      byte (s.accounts.get a).span := by
    rw [byteList_eq]
    simp only [boolByte, byte, List.append_assoc]
    rfl
  unfold accountPart accountHead
  rw [h6]
  simp only [accountBody, byte, List.append_assoc]
  rfl

/-- The number of the selected orders below entry `i`, from order 2 on. -/
def ordersBelow (orders i : Nat) : Nat := ((List.range i).filter fun h => bitOf orders (h + 1)).length

theorem orders39_eq (orders : Nat) : orders39 orders = (List.finRange 39).filter fun i => bitOf orders (i.val + 1) := rfl

theorem orders39_length (orders : Nat) : (orders39 orders).length = ordersBelow orders 39 := by
  rw [orders39_eq, filter_val_length _ fun h => bitOf orders (h + 1), List.map_coe_finRange_eq_range, ordersBelow]

theorem orders40_length (orders : Nat) : (orders40 orders).length = countBits 40 orders := by
  rw [orders40, filter_val_length, List.map_coe_finRange_eq_range, countBits_eq]

section
variable (s : State) (a : Fin 16) (groups orders : Nat)

theorem State.accountGroup_lengths : (s.accountGroup a orders 0).length = 72 ∧ (s.accountGroup a orders 1).length = 24 ∧
    (s.accountGroup a orders 2).length = 12 * ordersBelow orders 39 ∧
    (s.accountGroup a orders 3).length = 12 * ordersBelow orders 39 ∧
    (s.accountGroup a orders 4).length = 4 * countBits 40 orders ∧
    (s.accountGroup a orders 5).length = 2 * ordersBelow orders 39 ∧
    ((s.settings.name.get a).length = 8 → (s.accountGroup a orders 6).length = 22) := by
  refine ⟨flatMap_length _ Acc.bytes_length, flatMap_length _ Acc.bytes_length, ?_, ?_, ?_, ?_, fun hn => ?_⟩
  · rw [← orders39_length]
    exact flatMap_length _ fun i => Acc.bytes_length _
  · rw [← orders39_length]
    exact flatMap_length _ fun i => Acc.bytes_length _
  · rw [← orders40_length]
    exact flatMap_length _ fun i => leBytes_length 4 _
  · rw [← orders39_length]
    exact flatMap_length _ fun i => leBytes_length 2 _
  · simp only [accountGroup, List.length_append, leBytes_length, hn]

theorem State.accountPart_length {i n : Nat} (h : (s.accountGroup a orders i).length = n) :
    (s.accountPart a groups orders i).length = if groups.testBit i then n else 0 := by
  unfold accountPart bitOf
  split
  · exact h
  · rfl

/-- Where the selected groups stand. -/
theorem State.accountBody_stands : let b := s.accountBody a groups orders
    let room (i n : Nat) : Nat := if groups.testBit i then n else 0
    let at2 := 12 + room 0 72
    let at3 := at2 + room 1 24
    let at4 := at3 + room 2 (12 * ordersBelow orders 39)
    let at5 := at4 + room 3 (12 * ordersBelow orders 39)
    let at6 := at5 + room 4 (4 * countBits 40 orders)
    let at7 := at6 + room 5 (2 * ordersBelow orders 39)
    Stands (s.accountPart a groups orders 0) b 12 ∧ Stands (s.accountPart a groups orders 1) b at2 ∧
    Stands (s.accountPart a groups orders 2) b at3 ∧ Stands (s.accountPart a groups orders 3) b at4 ∧
    Stands (s.accountPart a groups orders 4) b at5 ∧ Stands (s.accountPart a groups orders 5) b at6 ∧
    Stands (s.accountPart a groups orders 6) b at7 := by
  intro b room at2 at3 at4 at5 at6 at7
  obtain ⟨h0, h1, h2, h3, h4, h5, -⟩ := s.accountGroup_lengths a orders
  have lhead : (s.accountHead a groups orders).length = 12 := by simp [accountHead]
  have e0 := (EndsWith.start (s.accountBody_eq a groups orders)).next lhead
  rw [Nat.zero_add] at e0
  have e1 := e0.next (s.accountPart_length a groups orders h0)
  have e2 := e1.next (s.accountPart_length a groups orders h1)
  have e3 := e2.next (s.accountPart_length a groups orders h2)
  have e4 := e3.next (s.accountPart_length a groups orders h3)
  have e5 := e4.next (s.accountPart_length a groups orders h4)
  have e6 := e5.next (s.accountPart_length a groups orders h5)
  exact ⟨e0.stands, e1.stands, e2.stands, e3.stands, e4.stands, e5.stands, e6.last⟩

theorem State.accountGroup_mains (m : Mains Acc) (hm : (s.accounts.get a).mains = m) :
    (m.imp.at (s.accountGroup a orders 0) 0 ∧ m.exp.at (s.accountGroup a orders 0) 12 ∧
      m.q1.at (s.accountGroup a orders 0) 24 ∧ m.q2.at (s.accountGroup a orders 0) 36 ∧
      m.q3.at (s.accountGroup a orders 0) 48 ∧ m.q4.at (s.accountGroup a orders 0) 60) ∧
    m.habs.at (s.accountGroup a orders 1) 0 ∧ m.hemi.at (s.accountGroup a orders 1) 12 := by
  simp only [accountGroup, hm, Acc.at, List.flatMap_cons, List.flatMap_nil, Acc.bytes, List.append_assoc, field_skip,
    field_head, leBytes_length, Nat.reduceAdd, Nat.reduceSub, Nat.reduceLeDiff, Nat.reducePow, le_refl, Nat.sub_self,
    and_self]

theorem State.accountGroup_account (hn : (s.settings.name.get a).length = 8) : let g := s.accountGroup a orders 6
    field g 0 1 = (s.isEnabled a).toNat ∧ slice g 1 8 = s.settings.name.get a ∧
    field g 9 4 = (s.accounts.get a).windows % 2 ^ 32 ∧ field g 13 4 = (s.accounts.get a).degraded % 2 ^ 32 ∧
    field g 17 2 = (s.accounts.get a).abandoned % 65536 ∧ field g 19 1 = (s.accounts.get a).flags.bits % 256 ∧
    field g 20 1 = (s.accounts.get a).plansUsed.toNat % 256 ∧ field g 21 1 = (s.accounts.get a).span % 256 := by
  have hbool : ∀ b : Bool, b.toNat % 256 = b.toNat := by decide
  dsimp only [accountGroup]
  simp only [field_skip, slice_skip, slice_head, field_head, field_last, hn, leBytes_length, Nat.reduceSub, Nat.reduceLeDiff,
    Nat.reducePow, le_refl, Nat.sub_self, hbool, and_self]

theorem State.accountBody_head : let b := s.accountBody a groups orders
    field b 0 1 = a.val % 256 ∧ field b 1 1 = groups % 256 ∧ field b 2 5 = orders % 256 ^ 5 ∧
    field b 7 4 = s.clock.index % 2 ^ 32 ∧ field b 11 1 = s.clock.part % 256 := by
  dsimp only
  rw [accountBody_eq, accountHead]
  simp only [List.append_assoc, field_skip, field_head, leBytes_length, Nat.reduceSub, Nat.reduceLeDiff,
    Nat.reducePow, le_refl, Nat.sub_self, and_self]

/-- The size of the table of R77 is the body's (R77). -/
theorem accountReadSize_eq : accountReadSize groups orders =
    12 + (if groups.testBit 0 then 72 else 0) + (if groups.testBit 1 then 24 else 0) +
    (if groups.testBit 2 then 12 * ordersBelow orders 39 else 0) +
    (if groups.testBit 3 then 12 * ordersBelow orders 39 else 0) +
    (if groups.testBit 4 then 4 * countBits 40 orders else 0) +
    (if groups.testBit 5 then 2 * ordersBelow orders 39 else 0) + (if groups.testBit 6 then 22 else 0) := by
  rw [accountReadSize, orders39_length, orders40_length]
  rfl

theorem State.accountBody_length (hn : (s.settings.name.get a).length = 8) :
    (s.accountBody a groups orders).length = accountReadSize groups orders := by
  obtain ⟨h0, h1, h2, h3, h4, h5, h6⟩ := s.accountGroup_lengths a orders
  rw [accountReadSize_eq, accountBody_eq]
  simp only [List.length_append, s.accountPart_length a groups orders h0, s.accountPart_length a groups orders h1,
    s.accountPart_length a groups orders h2, s.accountPart_length a groups orders h3,
    s.accountPart_length a groups orders h4, s.accountPart_length a groups orders h5,
    s.accountPart_length a groups orders (h6 hn), accountHead, leBytes_length]
  omega

end

/-! ### The requests -/

/-- The limits and consecutive counts of a LIMIT_GET reply (R84). -/
def Account.limitBytes (acc : Account) : List Byte :=
  (List.finRange 39).flatMap fun i => leBytes 4 (acc.limits.get i) ++ byte (acc.consecutive.get i)

theorem Account.limitEntry_length (acc : Account) (i : Fin 39) :
    (leBytes 4 (acc.limits.get i) ++ byte (acc.consecutive.get i)).length = 5 := by simp

theorem Account.limitBytes_length (acc : Account) : acc.limitBytes.length = 195 :=
  (flatMap_length _ acc.limitEntry_length).trans (by rw [List.length_finRange])

theorem Account.limitBytes_items (acc : Account) (i : Fin 39) :
    field acc.limitBytes (5 * i.val) 4 = acc.limits.get i % 2 ^ 32 ∧
    field acc.limitBytes (5 * i.val + 4) 1 = acc.consecutive.get i % 256 := by
  refine ⟨(field_table_last acc.limitEntry_length i (j := 0) (k := 4) (by decide)).trans field_head,
    (field_table_last acc.limitEntry_length i (j := 4) (k := 1) (by decide)).trans ?_⟩
  rw [field_skip (by rw [leBytes_length]), leBytes_length]
  exact field_last

namespace State
variable {s : State} {body : List Byte}

theorem accountRead_range (h : 15 < field body 0 1 ∨ field body 1 1 = 0) : s.accountRead body = s.refuse .range := by
  unfold accountRead
  dsimp only
  split
  next ha => exact if_pos (h.resolve_left (by omega))
  next => rfl

theorem accountRead_of {a : Fin 16} (ha : field body 0 1 = a.val) (h0 : 0 < field body 1 1) : s.accountRead body =
    if 128 ≤ field body 1 1 then s.refuse .field
    else if perOrder (field body 1 1) && field body 2 5 == 0 then s.refuse .range
    else if 1024 < accountReadSize (field body 1 1) (field body 2 5) then s.refuse .tooLarge
    else ⟨.done, s.accountBody a (field body 1 1) (field body 2 5), s⟩ := by
  have hlt : field body 0 1 < 16 := by omega
  have hfin : (⟨field body 0 1, hlt⟩ : Fin 16) = a := Fin.ext ha
  unfold accountRead
  dsimp only
  rw [dif_pos hlt, if_neg (by omega), hfin]

theorem limitGet_of {b : Byte} {a : Fin 16} (h : b.toNat = a.val) :
    s.limitGet [b] = ⟨.done, [b] ++ (s.accounts.get a).limitBytes, s⟩ := by
  have hlt : field [b] 0 1 < 16 := by
    rw [field_singleton]
    omega
  have hfin : (⟨field [b] 0 1, hlt⟩ : Fin 16) = a := Fin.ext ((field_singleton b).trans h)
  unfold limitGet
  rw [dif_pos hlt, hfin, field_singleton, byteList_eq b]
  rfl

theorem slotBody_valid {x : Selector} {p : Fin 8} {sl : PlanSlot} (h : x.slots.get p = some sl) : x.slotBody p =
    [BitVec.ofNat 8 p.val, 1, BitVec.ofNat 8 (bitsOf [sl.stored, decide (x.active = some p),
      decide (x.pendingPlan = some p), decide (x.active = some p) && x.replacement]), sl.content.mask, sl.content.value] ++
    sl.content.arrangement.bytes ++ [BitVec.ofNat 8 sl.content.members.length] ++ sl.content.members.flatMap Member.bytes := by
  rw [Selector.slotBody, h]
  simp only [Selector.isActive, Bool.beq_eq_decide_eq]
  rfl

theorem planGet_of {b : Byte} {p : Fin 8} (h : b.toNat = p.val) : s.planGet [b] = ⟨.done, s.selector.slotBody p, s⟩ := by
  have hlt : field [b] 0 1 < 8 := by
    rw [field_singleton]
    omega
  have hfin : (⟨field [b] 0 1, hlt⟩ : Fin 8) = p := Fin.ext ((field_singleton b).trans h)
  unfold planGet
  rw [dif_pos hlt, hfin]

end State

section
variable {s : State} {a : Fin 16} {orders off : Nat} {b : List Byte}

theorem State.accountGroup_quadrants (h : Stands (s.accountGroup a orders 0) b off) :
    (s.accounts.get a).mains.imp.at b off ∧ (s.accounts.get a).mains.exp.at b (off + 12) ∧
    (s.accounts.get a).mains.q1.at b (off + 24) ∧ (s.accounts.get a).mains.q2.at b (off + 36) ∧
    (s.accounts.get a).mains.q3.at b (off + 48) ∧ (s.accounts.get a).mains.q4.at b (off + 60) := by
  have hl := (s.accountGroup_lengths a orders).1
  obtain ⟨⟨h0, h1, h2, h3, h4, h5⟩, -⟩ := s.accountGroup_mains a orders _ rfl
  exact ⟨Acc.at_stands h (by omega) h0, Acc.at_stands h (by omega) h1, Acc.at_stands h (by omega) h2,
    Acc.at_stands h (by omega) h3, Acc.at_stands h (by omega) h4, Acc.at_stands h (by omega) h5⟩

theorem State.accountGroup_harmonics (h : Stands (s.accountGroup a orders 1) b off) :
    (s.accounts.get a).mains.habs.at b off ∧ (s.accounts.get a).mains.hemi.at b (off + 12) := by
  have hl := (s.accountGroup_lengths a orders).2.1
  obtain ⟨-, h6, h7⟩ := s.accountGroup_mains a orders _ rfl
  exact ⟨Acc.at_stands h (by omega) h6, Acc.at_stands h (by omega) h7⟩

theorem ordersBelow_lt {i : Fin 39} (hi : bitOf orders (i.val + 1) = true) :
    ordersBelow orders i.val < ordersBelow orders 39 := by
  have h := countBits_lt (mask := orders / 2) i.isLt (by rwa [bitOf, Nat.testBit_div_two])
  have hp : bitOf (orders / 2) = fun h => bitOf orders (h + 1) := funext fun h => Nat.testBit_div_two ..
  rwa [countBits_eq, countBits_eq, hp] at h

theorem State.accountGroup_absorbed (h : Stands (s.accountGroup a orders 2) b off) {i : Fin 39}
    (hi : bitOf orders (i.val + 1) = true) :
    ((s.accounts.get a).absorbed.get i).at b (off + 12 * ordersBelow orders i.val) := by
  have hl := (s.accountGroup_lengths a orders).2.2.1
  have hlt := ordersBelow_lt hi
  exact Acc.at_stands h (by omega)
    (Acc.at_filtered (fun i => (s.accounts.get a).absorbed.get i) (fun h => bitOf orders (h + 1)) i hi)

theorem State.accountGroup_emitted (h : Stands (s.accountGroup a orders 3) b off) {i : Fin 39}
    (hi : bitOf orders (i.val + 1) = true) :
    ((s.accounts.get a).emitted.get i).at b (off + 12 * ordersBelow orders i.val) := by
  have hl := (s.accountGroup_lengths a orders).2.2.2.1
  have hlt := ordersBelow_lt hi
  exact Acc.at_stands h (by omega)
    (Acc.at_filtered (fun i => (s.accounts.get a).emitted.get i) (fun h => bitOf orders (h + 1)) i hi)

theorem State.accountGroup_peaks (h : Stands (s.accountGroup a orders 4) b off) {i : Fin 40}
    (hi : bitOf orders i.val = true) :
    field b (off + 4 * countBits i.val orders) 4 = (s.accounts.get a).peaks.get i % 2 ^ 32 := by
  have hl := (s.accountGroup_lengths a orders).2.2.2.2.1
  have hlt := countBits_lt i.isLt hi
  have hf := field_filtered_last (bitOf orders) (fun i => leBytes_length 4 ((s.accounts.get a).peaks.get i)) i hi (j := 0)
    (k := 4) (by decide)
  exact (h.field (by omega)).trans (hf.trans field_last)

theorem State.accountGroup_exceed (h : Stands (s.accountGroup a orders 5) b off) {i : Fin 39}
    (hi : bitOf orders (i.val + 1) = true) :
    field b (off + 2 * ordersBelow orders i.val) 2 = (s.accounts.get a).exceed.get i % 65536 := by
  have hl := (s.accountGroup_lengths a orders).2.2.2.2.2.1
  have hlt := ordersBelow_lt hi
  have hf := field_filtered_last (fun h => bitOf orders (h + 1))
    (fun i => leBytes_length 2 ((s.accounts.get a).exceed.get i)) i hi (j := 0) (k := 2) (by decide)
  exact (h.field (by omega)).trans (hf.trans field_last)

theorem State.accountGroup_stands (h : Stands (s.accountGroup a orders 6) b off) (hn : (s.settings.name.get a).length = 8) :
    field b off 1 = (s.isEnabled a).toNat ∧ slice b (off + 1) 8 = s.settings.name.get a ∧
    field b (off + 9) 4 = (s.accounts.get a).windows % 2 ^ 32 ∧
    field b (off + 13) 4 = (s.accounts.get a).degraded % 2 ^ 32 ∧
    field b (off + 17) 2 = (s.accounts.get a).abandoned % 65536 ∧
    field b (off + 19) 1 = (s.accounts.get a).flags.bits % 256 ∧
    field b (off + 20) 1 = (s.accounts.get a).plansUsed.toNat % 256 ∧
    field b (off + 21) 1 = (s.accounts.get a).span % 256 := by
  have hl := (s.accountGroup_lengths a orders).2.2.2.2.2.2 hn
  obtain ⟨h0, -, h2, h3, h4, h5, h6, h7⟩ := s.accountGroup_account a orders hn
  have hname : Stands (s.settings.name.get a) b (off + 1) :=
    h.trans ((EndsWith.start rfl).next (leBytes_length 1 (s.isEnabled a).toNat)).stands
  exact ⟨(h.field (j := 0) (by omega)).trans h0, hname.slice hn, (h.field (by omega)).trans h2,
    (h.field (by omega)).trans h3, (h.field (by omega)).trans h4, (h.field (by omega)).trans h5,
    (h.field (by omega)).trans h6, (h.field (by omega)).trans h7⟩

end

/-- The interval flags byte (log 55). -/
theorem IntervalFlags.bits_spec (f : IntervalFlags) {x : Byte} (h : x = BitVec.ofNat 8 (f.bits % 256)) :
    x.getLsbD 0 = f.saturated ∧ x.getLsbD 1 = f.clamped ∧ x.getLsbD 2 = f.incomplete ∧ x.getLsbD 3 = f.extended ∧
    x.getLsbD 4 = f.unaligned ∧ x.toNat < 32 := by
  have hlt : f.bits < 32 := bitsOf_lt _
  have hbit : ∀ i, i < 8 → x.getLsbD i = [f.saturated, f.clamped, f.incomplete, f.extended, f.unaligned].getD i false :=
    fun i hi => by rw [h, flagsByte_getLsbD _ _ hi, IntervalFlags.bits, bitsOf_testBit]
  refine ⟨hbit 0 (by decide), hbit 1 (by decide), hbit 2 (by decide), hbit 3 (by decide), hbit 4 (by decide), ?_⟩
  rw [h, BitVec.toNat_ofNat]
  omega

theorem byteAt_of_field {b : List Byte} {i : Nat} {x : Byte} (h : field b i 1 = x.toNat % 256) : byteAt b i = x := by
  rw [byteAt_eq, h, Nat.mod_eq_of_lt x.isLt, BitVec.ofNat_toNat, BitVec.setWidth_eq]

theorem exec_read {s : State} (h : s.ready) {c : Instr} {k : Kind} {tag : Byte} {body : List Byte}
    (hc : exec c s = .next (s.whenAlive fun u => u.request k tag body)) (hk : k ≠ .restart)
    (hl : k.lengthOk body.length = true) (hr : k.reservedOk body = true) {x : Status} {b : List Byte}
    (ho : (s.holding ⟨k.code, tag, body⟩).owner k body = ⟨x, b, s.holding ⟨k.code, tag, body⟩⟩) :
    exec c s = .next (s.replied k.code tag body x b) := by
  rw [hc, State.request_replied h hk hl hr ho]

/-- ACCOUNT_READ (R76 to R78). -/
theorem accountReadAnswers (s : State) (tag : Byte) (h : s.ready) (body : List Byte) (hlen : body.length = 7) :
    let groups := field body 1 1
    let orders := field body 2 5
    let respond (x : Status) (b : List Byte) : Host.Outcome State Fault Refusal := .next (s.replied 0x40 tag body x b)
    (15 < field body 0 1 ∨ groups = 0 → exec (.accountRead tag body) s = respond .range []) ∧
    (field body 0 1 ≤ 15 → 128 ≤ groups → exec (.accountRead tag body) s = respond .field []) ∧
    (field body 0 1 ≤ 15 → 0 < groups → groups < 128 → orders = 0 →
      (groups.testBit 2 || groups.testBit 3 || groups.testBit 4 || groups.testBit 5) = true →
      exec (.accountRead tag body) s = respond .range []) ∧
    ∀ a : Fin 16, field body 0 1 = a.val → 0 < groups → groups < 128 →
      (orders ≠ 0 ∨ (groups.testBit 2 || groups.testBit 3 || groups.testBit 4 || groups.testBit 5) = false) →
      (1024 < accountReadSize groups orders → exec (.accountRead tag body) s = respond .tooLarge []) ∧
      (accountReadSize groups orders ≤ 1024 →
        exec (.accountRead tag body) s = respond .done (s.accountBody a groups orders)) := by
  intro groups orders respond
  have hl : Kind.accountRead.lengthOk body.length = true := by rw [hlen]; rfl
  have hans : ∀ {x b}, (s.holding ⟨Kind.accountRead.code, tag, body⟩).accountRead body =
      ⟨x, b, s.holding ⟨Kind.accountRead.code, tag, body⟩⟩ → exec (.accountRead tag body) s = respond x b :=
    fun ho => exec_read (k := .accountRead) h rfl nofun hl rfl ho
  have hper : ∀ b, (groups.testBit 2 || groups.testBit 3 || groups.testBit 4 || groups.testBit 5) = b →
      perOrder groups = b := fun _ hb => hb
  refine ⟨fun hr => hans (State.accountRead_range hr), fun ha hg => ?_, fun ha h0 hg ho hp => ?_,
    fun a ha h0 hg ho => ?_⟩
  · refine hans ((State.accountRead_of (a := ⟨field body 0 1, by omega⟩) rfl (by omega)).trans ?_)
    exact if_pos hg
  · refine hans ((State.accountRead_of (a := ⟨field body 0 1, by omega⟩) rfl h0).trans ?_)
    rw [if_neg (by omega), if_pos (by rw [hper _ hp, Bool.true_and]; exact beq_iff_eq.2 ho)]
    rfl
  · have hgo : ¬ (perOrder groups && orders == 0) = true := by
      obtain ho | hp := ho
      · rw [beq_false_of_ne ho, Bool.and_false]
        exact Bool.false_ne_true
      · rw [hper _ hp, Bool.false_and]
        exact Bool.false_ne_true
    have hread := State.accountRead_of (s := s.holding ⟨Kind.accountRead.code, tag, body⟩) ha h0
    rw [if_neg (by omega), if_neg hgo] at hread
    exact ⟨fun hbig => hans (hread.trans (if_pos hbig)), fun hfit => hans (hread.trans (if_neg hfit.not_gt))⟩

/-- Settles O26: each request's refusals, and its body item by item. -/
theorem readsAnswer : Obligations.ReadsAnswer := by
  intro s tag h
  refine ⟨⟨s.tieBody, exec_read (k := .tieStatus) h rfl nofun rfl rfl rfl, s.tieBody_items⟩, fun body hlen => ?_,
    fun account => ⟨fun ha => ?_, fun a ha => ?_⟩, fun slot => ⟨fun hs => ?_, fun p hp => ⟨fun hn => ?_, fun sl hsl => ?_⟩⟩,
    fun body hlen => ⟨fun i hi => ?_, fun hno => ?_⟩⟩
  · obtain ⟨hrange, hfield, hempty, hserved⟩ := accountReadAnswers s tag h body hlen
    refine ⟨hrange, hfield, hempty, fun a ha h0 hg ho => ⟨(hserved a ha h0 hg ho).1, fun hfit =>
      ⟨_, (hserved a ha h0 hg ho).2 hfit, s.accountBody_length a _ _, ?_⟩⟩⟩
    have horders : field body 2 5 < 256 ^ 5 := field_lt _ _ _
    generalize field body 2 5 = orders at *
    generalize field body 1 1 = groups at *
    obtain ⟨i0, i1, i2, i3, i4⟩ := s.accountBody_head a groups orders
    obtain ⟨s0, s1, s2, s3, s4, s5, s6⟩ := s.accountBody_stands a groups orders
    generalize s.accountBody a groups orders = b at *
    have hpart : ∀ {i off : Nat}, Stands (s.accountPart a groups orders i) b off → groups.testBit i = true →
        Stands (s.accountGroup a orders i) b off := fun hst hb => by
      rwa [show s.accountPart a groups orders _ = s.accountGroup a orders _ from if_pos hb] at hst
    refine ⟨i0.trans (Nat.mod_eq_of_lt (by omega)), i1.trans (Nat.mod_eq_of_lt (by omega)),
      i2.trans (Nat.mod_eq_of_lt horders), i3, i4, fun hb => State.accountGroup_quadrants (hpart s0 hb),
      fun hb => State.accountGroup_harmonics (hpart s1 hb), fun i hi => ⟨fun hb => State.accountGroup_absorbed (hpart s2 hb) hi,
        fun hb => State.accountGroup_emitted (hpart s3 hb) hi, fun hb => State.accountGroup_exceed (hpart s5 hb) hi⟩,
      fun i hi hb => State.accountGroup_peaks (hpart s4 hb) hi, fun hb hn => ?_⟩
    obtain ⟨j0, j1, j2, j3, j4, j5, j6, j7⟩ := State.accountGroup_stands (hpart s6 hb) hn
    obtain ⟨f0, f1, f2, f3, f4, f5⟩ := IntervalFlags.bits_spec _ ((byteAt_eq _ _).trans (congrArg _ j5))
    exact ⟨j0, j1, j2, j3, j4, f0, f1, f2, f3, f4, f5, byteAt_of_field j6, j7⟩
  · refine exec_read (k := .limitGet) h rfl nofun rfl rfl (dif_neg ?_)
    rw [field_singleton]
    omega
  · refine ⟨_, exec_read (k := .limitGet) h rfl nofun rfl rfl (State.limitGet_of ha), ?_, rfl, fun i => ?_⟩
    · rw [List.length_append]
      exact congrArg (1 + ·) (Account.limitBytes_length _)
    · obtain ⟨h0, h4⟩ := (s.accounts.get a).limitBytes_items i
      have hadd : 5 + 5 * i.val = 1 + (5 * i.val + 4) := by omega
      rw [hadd]
      exact ⟨(field_skip_add [account] _ _ 4).trans h0, (field_skip_add [account] _ _ 1).trans h4⟩
  · refine exec_read (k := .planGet) h rfl nofun rfl rfl (dif_neg ?_)
    rw [field_singleton]
    omega
  · refine exec_read (k := .planGet) h rfl nofun rfl rfl ((State.planGet_of hp).trans ?_)
    have hbody : s.selector.slotBody p = [slot, 0, 0, 0, 0, 0, 0, 0] := by
      rw [Selector.slotBody, hn, ← hp]
      exact congrArg (· ++ [0, 0, 0, 0, 0, 0, 0]) (byteList_eq slot).symm
    exact congrArg (fun b => (⟨.done, b, _⟩ : Answer)) hbody
  · have hflags := bitsOf_lt [sl.stored, decide (s.selector.active = some p), decide (s.selector.pendingPlan = some p),
      decide (s.selector.active = some p) && s.selector.replacement]
    have hbit : ∀ i, i < 8 → (BitVec.ofNat 8 (bitsOf [sl.stored, decide (s.selector.active = some p),
        decide (s.selector.pendingPlan = some p),
        decide (s.selector.active = some p) && s.selector.replacement])).getLsbD i = _ := fun i hi => by
      rw [BitVec.getLsbD_ofNat, decide_eq_true hi, Bool.true_and, bitsOf_testBit]
    have hslot : BitVec.ofNat 8 p.val = slot := by rw [← hp, BitVec.ofNat_toNat, BitVec.setWidth_eq]
    refine ⟨_, exec_read (k := .planGet) h rfl nofun rfl rfl ((State.planGet_of hp).trans ?_), hbit 0 (by decide),
      hbit 1 (by decide), hbit 2 (by decide), hbit 3 (by decide), ?_⟩
    · refine congrArg (fun b => (⟨.done, b, _⟩ : Answer)) ((State.slotBody_valid hsl).trans ?_)
      rw [hslot]
    · rw [BitVec.toNat_ofNat]
      exact Nat.lt_of_le_of_lt (Nat.mod_le _ _) hflags
  · refine exec_read (k := .getSetting) h rfl nofun (by rw [hlen]; rfl) rfl ?_
    have hid : readId (field body 0 2) = some i := by rw [hi, readId_id]
    have hbytes : leBytes 2 (field body 0 2) = body := by
      rw [field, slice_whole hlen]
      conv_rhs => rw [← leBytes_ofLe body, hlen]
    change State.getSetting _ body = _
    simp only [State.getSetting, hid, hbytes]
    rfl
  · refine exec_read (k := .getSetting) h rfl nofun (by rw [hlen]; rfl) rfl ?_
    have hid : readId (field body 0 2) = none :=
      Option.eq_none_iff_forall_ne_some.2 fun i hi => hno i (readId_some hi)
    change State.getSetting _ body = _
    simp only [State.getSetting, hid]
    rfl

end Sys2Proof.Machine
end

section
/-! PROOFS. LIMIT_LOAD and PEAK_SWAP (O29). -/

/- The whole text is compiled as one file: these proofs are elaborated one after another, to stay within its memory. -/
set_option Elab.async false

namespace Sys2Proof.Machine

/-- The eight bytes before the limits of a LIMIT_LOAD. -/
def limitHead (account first count flags : Byte) : List Byte := [account, first, count, flags, 0, 0, 0, 0]

section
variable (account first count flags : Byte) (limits : List Byte)

theorem limitHead_fields : let body := limitHead account first count flags ++ limits
    field body 0 1 = account.toNat ∧ field body 1 1 = first.toNat ∧ field body 2 1 = count.toNat ∧
    byteAt body 3 = flags ∧ field body 4 4 = 0 ∧ body.length = 8 + limits.length ∧
    ∀ i k, field body (8 + i) k = field limits i k := by
  refine ⟨by simp [limitHead, field, slice, ofLe], by simp [limitHead, field, slice, ofLe],
    by simp [limitHead, field, slice, ofLe], rfl, by simp [limitHead, field, slice, ofLe], List.length_append,
    fun i k => field_skip_add (limitHead account first count flags) limits i k⟩

end

section
variable {s : State} {account first count flags : Byte} {limits : List Byte}

theorem State.limitLoad_range (h : 15 < account.toNat ∨ first.toNat < 2 ∨ 40 < first.toNat ∨ count.toNat = 0 ∨
    39 < count.toNat ∨ 40 < first.toNat + count.toNat - 1) :
    s.limitLoad (limitHead account first count flags ++ limits) = s.refuse .range := by
  obtain ⟨h0, h1, h2, -, -, -, -⟩ := limitHead_fields account first count flags limits
  simp only [State.limitLoad, h0, h1, h2, Bool.or_eq_true, decide_eq_true_eq]
  by_cases ha : account.toNat < 16
  · rw [dif_pos ha]
    by_cases hf : first.toNat < 2 ∨ 40 < first.toNat
    · rw [if_pos hf]
    · by_cases hc : count.toNat = 0 ∨ 39 < count.toNat
      · rw [if_neg hf, if_pos hc]
      · rw [if_neg hf, if_neg hc, if_pos (by omega)]
  · rw [dif_neg ha]

/-- The limits loaded into an account, before the store write (R83). -/
def State.limitsLoaded (s : State) (a : Fin 16) (body : List Byte) : State :=
  { s with accounts := s.accounts.put a ((s.accounts.get a).loadLimits body) }

/-- The stored image with the limits of an account. -/
def Image.withLimits (i : Image) (a : Fin 16) (l : Table Nat 39) : Image := { i with limits := i.limits.put a l }

theorem State.limitLoad_of {a : Fin 16} (ha : account.toNat = a.val) (hf : 2 ≤ first.toNat) (hf' : first.toNat ≤ 40)
    (hc : 1 ≤ count.toNat) (hc' : count.toNat ≤ 39) (hs : first.toNat + count.toNat - 1 ≤ 40) :
    s.limitLoad (limitHead account first count flags ++ limits) =
      if limits.length ≠ 4 * count.toNat then s.refuse .length
      else if flags.getLsbD 0 && s.storeBusy then s.refuse .busy
      else (if flags.getLsbD 0 then (s.limitsLoaded a (limitHead account first count flags ++ limits)).writeImage
          (·.withLimits a ((s.accounts.get a).loadLimits (limitHead account first count flags ++ limits)).limits)
        else s.limitsLoaded a (limitHead account first count flags ++ limits)).doneNow := by
  obtain ⟨h0, h1, h2, h3, -, hl, -⟩ := limitHead_fields account first count flags limits
  have hlt : account.toNat < 16 := by omega
  have hfin : (⟨account.toNat, hlt⟩ : Fin 16) = a := Fin.ext ha
  have hlen : (8 + limits.length ≠ 8 + 4 * count.toNat) = (limits.length ≠ 4 * count.toNat) := by
    rw [ne_eq, ne_eq, Nat.add_left_cancel_iff]
  have hf0 : ¬ (decide (first.toNat < 2) || decide (40 < first.toNat)) = true := by
    simp only [Bool.or_eq_true, decide_eq_true_eq]
    omega
  have hc0 : ¬ (decide (count.toNat = 0) || decide (39 < count.toNat)) = true := by
    simp only [Bool.or_eq_true, decide_eq_true_eq]
    omega
  unfold State.limitLoad
  dsimp only
  simp only [h0, h1, h2, h3, hl, hlen]
  rw [dif_pos hlt, hfin, if_neg hf0, if_neg hc0, if_neg (by omega)]
  rfl

end

theorem Account.loadLimits_loaded (acc : Account) {account first count flags : Byte} {limits : List Byte} (i : Fin 39)
    (h1 : first.toNat ≤ i.val + 2) (h2 : i.val + 2 < first.toNat + count.toNat) :
    (acc.loadLimits (limitHead account first count flags ++ limits)).limits.get i =
      field limits (4 * (i.val + 2 - first.toNat)) 4 ∧
    (acc.loadLimits (limitHead account first count flags ++ limits)).consecutive.get i = 0 := by
  obtain ⟨-, hf, hc, -, -, -, hb⟩ := limitHead_fields account first count flags limits
  have hload : loadedLimit (limitHead account first count flags ++ limits) i =
      some (field limits (4 * (i.val + 2 - first.toNat)) 4) := by
    rw [loadedLimit, hf, hc, hb]
    exact if_pos ⟨h1, h2⟩
  simp only [Account.loadLimits, Table.get_each, hload]
  exact ⟨rfl, rfl⟩

theorem Account.loadLimits_kept (acc : Account) {account first count flags : Byte} {limits : List Byte} (i : Fin 39)
    (h : i.val + 2 < first.toNat ∨ first.toNat + count.toNat ≤ i.val + 2) :
    (acc.loadLimits (limitHead account first count flags ++ limits)).limits.get i = acc.limits.get i ∧
    (acc.loadLimits (limitHead account first count flags ++ limits)).consecutive.get i = acc.consecutive.get i := by
  obtain ⟨-, hf, hc, -, -, -, -⟩ := limitHead_fields account first count flags limits
  have hload : loadedLimit (limitHead account first count flags ++ limits) i = none := by
    rw [loadedLimit, hf, hc]
    exact if_neg (by omega)
  simp only [Account.loadLimits, Table.get_each, hload]
  exact ⟨rfl, rfl⟩

/-! ### PEAK_SWAP (R92, R93) -/

/-- The account with its period peaks cleared and a new stamp. -/
def Account.swapPeaks (acc : Account) (now : Stamp) : Account := { acc with periodPeaks := Table.all 0, stamp := now }

theorem peakSwap_of {s : State} {account : Byte} {mask : List Byte} {a : Fin 16} (ha : account.toNat = a.val)
    (hm : mask.length = 5) : s.peakSwap (account :: mask) =
      ⟨.done, [account] ++ mask ++ (s.accounts.get a).stamp.bytes ++ (s.stampNow a).bytes ++
        ((List.finRange 40).filter fun i : Fin 40 => (ofLe mask).testBit i.val).flatMap
          fun i => leBytes 4 ((s.accounts.get a).periodPeaks.get i),
        { s with accounts := s.accounts.put a ((s.accounts.get a).swapPeaks (s.stampNow a)) }⟩ := by
  have h0 : field (account :: mask) 0 1 = account.toNat := field_byte account mask
  have h1 : field (account :: mask) 1 5 = ofLe mask := by
    rw [field]
    exact congrArg ofLe (slice_whole hm)
  have hlt : account.toNat < 16 := by omega
  have hfin : (⟨account.toNat, hlt⟩ : Fin 16) = a := Fin.ext ha
  have hacc : byte account.toNat = [account] := (byteList_eq account).symm
  have hmask : leBytes 5 (ofLe mask) = mask := by rw [← hm, leBytes_ofLe]
  unfold State.peakSwap
  simp only [h0, h1]
  rw [dif_pos hlt, hfin, hacc, hmask]
  rfl

theorem governingWindow_eq (s : State) : s.governingWindow =
    (s.timebases.get (s.selector.content.elim 0 fun c => c.arrangement.governing)).table.elim 0 PhasorTable.number := by
  have hgov : s.arrangement.governing = s.selector.content.elim 0 fun c => c.arrangement.governing := by
    unfold State.arrangement
    cases s.selector.content <;> rfl
  rw [State.governingWindow, hgov]
  cases (s.timebases.get (s.selector.content.elim 0 fun c => c.arrangement.governing)).table <;> rfl

/-- The limits of account `a` in `u` are those of `s` with a LIMIT_LOAD taken (R83). -/
def State.limitsTaken (s u : State) (a : Fin 16) (first count : Byte) (limits : List Byte) : Prop :=
  (∀ i : Fin 39,
    (first.toNat ≤ i.val + 2 → i.val + 2 < first.toNat + count.toNat →
      (u.accounts.get a).limits.get i = field limits (4 * (i.val + 2 - first.toNat)) 4 ∧
      (u.accounts.get a).consecutive.get i = 0) ∧
    (i.val + 2 < first.toNat ∨ first.toNat + count.toNat ≤ i.val + 2 →
      (u.accounts.get a).limits.get i = (s.accounts.get a).limits.get i ∧
      (u.accounts.get a).consecutive.get i = (s.accounts.get a).consecutive.get i)) ∧
  { u.accounts.get a with
    limits := (s.accounts.get a).limits
    consecutive := (s.accounts.get a).consecutive } = s.accounts.get a ∧
  ∀ b, b ≠ a → u.accounts.get b = s.accounts.get b

theorem Account.loadLimits_frame (acc : Account) (body : List Byte) :
    { acc.loadLimits body with limits := acc.limits, consecutive := acc.consecutive } = acc := by
  unfold Account.loadLimits
  rfl

theorem State.limitsTaken_of {s u : State} {a : Fin 16} {account first count flags : Byte} {limits : List Byte}
    (hu : u.accounts = s.accounts.put a ((s.accounts.get a).loadLimits (limitHead account first count flags ++ limits))) :
    s.limitsTaken u a first count limits := by
  rw [State.limitsTaken, hu, Table.get_put_same]
  exact ⟨fun i => ⟨(s.accounts.get a).loadLimits_loaded i, (s.accounts.get a).loadLimits_kept i⟩, Account.loadLimits_frame _ _,
    fun b hb => Table.get_put_other _ _ _ _ (Ne.symm hb)⟩

section
variable {s : State} {tag account first count flags : Byte} {limits body : List Byte} (h : s.ready)
  (hflags : flags = 0 ∨ flags = 1) (hbody : body = limitHead account first count flags ++ limits)
include hflags hbody

theorem limitLoad_accepted : Kind.limitLoad.lengthOk body.length = true ∧ Kind.limitLoad.reservedOk body = true := by
  obtain ⟨-, -, -, h3, h4, hlen, -⟩ := limitHead_fields account first count flags limits
  subst hbody
  refine ⟨decide_eq_true (p := 8 ≤ (limitHead account first count flags ++ limits).length) (by omega), ?_⟩
  change (flagsOk (byteAt (limitHead account first count flags ++ limits) 3) &&
    field (limitHead account first count flags ++ limits) 4 4 == 0) = true
  rw [h3, h4]
  obtain rfl | rfl := hflags <;> decide

include h

theorem limitLoad_refused {x : Status} (hx : ∀ u : State, u.selector = s.selector → u.store = s.store →
    u.limitLoad body = u.refuse x) : exec (.limitLoad tag body) s = .next (s.replied 0x30 tag body x []) := by
  obtain ⟨hl, hr⟩ := limitLoad_accepted hflags hbody
  exact congrArg Host.Outcome.next (State.request_refused (k := .limitLoad) h nofun hl hr (hx _ rfl rfl))

variable {a : Fin 16} (ha : account.toNat = a.val) (hf : 2 ≤ first.toNat) (hf' : first.toNat ≤ 40)
  (hc : 1 ≤ count.toNat) (hc' : count.toNat ≤ 39) (hs : first.toNat + count.toNat - 1 ≤ 40)
include ha hf hf' hc hc' hs

theorem limitLoad_volatile (hn : limits.length = 4 * count.toNat) (hp : flags = 0) :
    exec (.limitLoad tag body) s = .next ((s.limitsLoaded a body).replied 0x30 tag body .done []) := by
  obtain ⟨hl, hr⟩ := limitLoad_accepted hflags hbody
  have hload := State.limitLoad_of (s := s.holding ⟨Kind.limitLoad.code, tag, body⟩) (flags := flags)
    (limits := limits) ha hf hf' hc hc' hs
  rw [if_neg (fun h0 => h0 hn), if_neg (by rw [hp]; exact Bool.false_ne_true), if_neg (by rw [hp]; exact Bool.false_ne_true),
    ← hbody] at hload
  exact congrArg Host.Outcome.next
    (State.request_replied (t := s.limitsLoaded a body) (k := .limitLoad) h nofun hl hr hload)

theorem limitLoad_persist (hn : limits.length = 4 * count.toNat) (hp : flags = 1) (hst : s.store = none) :
    exec (.limitLoad tag body) s = .next (((s.limitsLoaded a body).writeImage
      (·.withLimits a ((s.accounts.get a).loadLimits body).limits)).replied 0x30 tag body .done []) := by
  obtain ⟨hl, hr⟩ := limitLoad_accepted hflags hbody
  have hload := State.limitLoad_of (s := s.holding ⟨Kind.limitLoad.code, tag, body⟩) (flags := flags)
    (limits := limits) ha hf hf' hc hc' hs
  have hfree : ¬ (flags.getLsbD 0 && (s.holding ⟨Kind.limitLoad.code, tag, body⟩).storeBusy) = true := fun h0 =>
    Option.isSome_iff_ne_none.1 (Bool.and_eq_true_iff.1 h0).2 hst
  rw [if_neg (fun h0 => h0 hn), if_neg hfree, if_pos (by rw [hp]; rfl), ← hbody] at hload
  exact congrArg Host.Outcome.next (State.request_replied (t := (s.limitsLoaded a body).writeImage
    (·.withLimits a ((s.accounts.get a).loadLimits body).limits)) (k := .limitLoad) h nofun hl hr hload)

end

/-- Settles O29: the tests and the limits loaded; the stamps and the peaks. -/
theorem limitLoadAndPeakSwapAnswer : Obligations.LimitLoadAndPeakSwapAnswer := by
  refine ⟨fun s tag account first count flags limits h hflags => ?_, fun s tag account mask h hm =>
    ⟨fun ha => ?_, fun a ha => ?_⟩⟩
  · obtain ⟨body, hbody⟩ : ∃ body, body = limitHead account first count flags ++ limits := ⟨_, rfl⟩
    rw [show [account, first, count, flags, 0, 0, 0, 0] ++ limits = body from hbody.symm]
    refine ⟨fun hbad => ?_, fun a ha hf hf' hc hc' hs => ⟨fun hn => ?_, fun hn => ⟨fun hp hb => ?_, fun hp => ?_⟩⟩⟩
    · exact limitLoad_refused h hflags hbody fun u _ _ => by rw [hbody, State.limitLoad_range hbad]
    · exact limitLoad_refused h hflags hbody fun u _ _ => by
        rw [hbody, State.limitLoad_of ha hf hf' hc hc' hs, if_pos hn]
    · refine limitLoad_refused h hflags hbody fun u _ hu => ?_
      have hwait : (flags.getLsbD 0 && u.storeBusy) = true := by
        rw [hp, State.storeBusy, hu]
        exact Option.isSome_iff_ne_none.2 hb
      rw [hbody, State.limitLoad_of ha hf hf' hc hc' hs, if_neg (fun h0 => h0 hn), if_pos hwait]
    · obtain hflag | hflag := hflags
      · obtain ⟨hitems, hrest, hothers⟩ : s.limitsTaken (s.limitsLoaded a body) a first count limits :=
          State.limitsTaken_of (by rw [State.limitsLoaded, hbody])
        exact ⟨_, limitLoad_volatile h (.inl hflag) hbody ha hf hf' hc hc' hs hn hflag, rfl, hitems, hrest, hothers,
          fun _ => rfl, fun h1 => absurd (hflag.symm.trans h1) (by decide), rfl⟩
      · have hst : s.store = none := hp.resolve_left fun h0 => absurd (hflag.symm.trans h0) (by decide)
        obtain ⟨hitems, hrest, hothers⟩ : s.limitsTaken (s.limitsLoaded a body) a first count limits :=
          State.limitsTaken_of (by rw [State.limitsLoaded, hbody])
        refine ⟨_, limitLoad_persist h (.inr hflag) hbody ha hf hf' hc hc' hs hn hflag hst, rfl, hitems, hrest, hothers,
          fun h0 => absurd (hflag.symm.trans h0) (by decide), fun _ => ?_, rfl⟩
        have hlimits : (((s.limitsLoaded a body).writeImage
            (·.withLimits a ((s.accounts.get a).loadLimits body).limits)).accounts.get a).limits =
            ((s.accounts.get a).loadLimits body).limits := congrArg Account.limits (Table.get_put_same _ _ _)
        exact congrArg (fun l => some (StoreJob.image (s.storedImage.withLimits a l))) hlimits.symm
  · refine congrArg Host.Outcome.next (State.request_refused (k := .peakSwap) h nofun
      (decide_eq_true (by rw [List.length_cons, hm])) rfl (dif_neg ?_))
    rw [field_byte]
    omega
  · intro acc governing number now
    have hswap := peakSwap_of (s := s.holding ⟨Kind.peakSwap.code, tag, account :: mask⟩) ha hm
    have hgov : governing = s.selector.content.elim 0 fun c => c.arrangement.governing := by
      change (match s.selector.content with
        | some c => (match c.arrangement with | .common leader => leader | .separate => 0)
        | none => 0) = _
      cases s.selector.content with
      | none => rfl
      | some c =>
        change (match c.arrangement with | .common leader => leader | .separate => 0) = c.arrangement.governing
        cases c.arrangement <;> rfl
    have hnumber : number = s.governingWindow := by
      rw [governingWindow_eq, ← hgov]
      change (match (s.timebases.get governing).table with | some p => p.number | none => 0) = _
      cases (s.timebases.get governing).table <;> rfl
    have hnow : now = s.stampNow a := by rw [State.stampNow, ← hnumber]
    rw [hnow]
    exact congrArg Host.Outcome.next (State.request_replied
      (t := { s with accounts := s.accounts.put a ((s.accounts.get a).swapPeaks (s.stampNow a)) }) (k := .peakSwap) h nofun
      (decide_eq_true (by rw [List.length_cons, hm])) rfl hswap)

end Sys2Proof.Machine
end

section
/-! PROOFS. The closes of the clock, the sync input, CLOSE_NOW and ALIGN (O30 to O32). -/

/- The whole text is compiled as one file: these proofs are elaborated one after another, to stay within its memory. -/
set_option Elab.async false

namespace Sys2Proof.Machine
namespace State

/-! ### Normal closes (R95, R97, R102) -/

theorem closeDue_iff (s : State) : s.closeDue = true ↔
    s.op ≠ .starting ∧ s.clock.closeReady = true ∧ s.clock.samples ≤ s.clock.position ∧ s.tie.state ≠ .pairedSecondary := by
  simp only [closeDue, Bool.and_eq_true, bne_iff_ne, decide_eq_true_eq, and_assoc]

theorem clockMade_due {s : State} (h : s.closeDue = true) :
    s.clockMade = s.normalClose .clockMade s.clock.aligned s.clock.aligned := if_pos h

theorem clockMade_idle {s : State} (h : ¬ s.closeDue = true) : s.clockMade = s := if_neg h

/-- What a sync pulse does where the part is running and the clock its own (R97 to R100). -/
theorem syncPulse_eq {s : State} (ho : s.op ≠ .starting) (ht : s.tie.state ≠ .pairedSecondary) : s.syncPulse =
    if s.clock.aligned = false then s.syncAlign
    else if s.clock.samples ≤ s.clock.position + s.syncSamples then s.normalClose .syncMade true false
    else if s.clock.lateOpen && decide (s.clock.position < s.syncSamples) then
      { s with clock := { s.clock with position := 0, lateOpen := false } }
    else (s.latch .syncFault).countSyncFault := by
  have hgo : ¬ (s.op == .starting || s.tie.state == .pairedSecondary) = true := by simp [ho, ht]
  rw [syncPulse, if_neg hgo]
  cases s.clock.aligned <;> rfl

theorem syncPulse_secondary {s : State} (ht : s.tie.state = .pairedSecondary) : s.syncPulse = s :=
  if_pos (by rw [ht]; exact Bool.or_true _)

theorem closeNow_eq {s : State} (ht : s.tie.state ≠ .pairedSecondary) (f : HostFrame) : (s.holding f).closeNow =
    ⟨.done, leBytes 4 (s.normalClose .closeNow false false).clock.index ++ boolByte s.closeRoom,
      (s.normalClose .closeNow false false).holding f⟩ := by
  have hpaired : ¬ ((s.holding f).tie.state == .pairedSecondary) = true := fun h0 => ht (beq_iff_eq.1 h0)
  rw [closeNow, if_neg hpaired, normalClose_holding]
  rfl

theorem closeRoom_iff (s : State) : s.closeRoom = true ↔
    s.enabledAccounts = [] ∨ s.queue.length + s.enabledAccounts.length ≤ 32 := by
  rw [closeRoom, enabledCount_eq, Bool.or_eq_true, beq_iff_eq, List.length_eq_zero_iff, decide_eq_true_eq]
  rfl

end State

theorem whenAlive_fixed {s : State} {f : State → State} (h : f s = s) : s.whenAlive f = s := by
  rw [State.whenAlive, h, ite_self]

/-- Settles O30: each normal close is the close of `normalClose_taken`. -/
theorem normalClosesAreTaken : Obligations.NormalClosesAreTaken := by
  refine ⟨fun s ha ho ht _ => ⟨fun hp hr => ?_, fun hno => ?_, fun hal hw => ?_⟩, fun s ht => ⟨?_, ?_⟩,
    fun s tag h _ => ⟨fun ht => ?_, fun ht => ?_⟩⟩
  · have hdue : s.closeDue = true := s.closeDue_iff.2 ⟨ho, hr, hp, ht⟩
    exact ⟨_, congrArg Host.Outcome.next ((State.whenAlive_running s _ ha).trans (State.clockMade_due hdue)),
      s.normalClose_taken _ _ _⟩
  · refine congrArg Host.Outcome.next (whenAlive_fixed (State.clockMade_idle fun hdue => ?_))
    obtain ⟨-, hr, hp, -⟩ := s.closeDue_iff.1 hdue
    obtain hno | hno := hno
    · exact Nat.not_le_of_lt hno hp
    · exact Bool.false_ne_true (hno.symm.trans hr)
  · have hpulse : s.syncPulse = s.normalClose .syncMade true false := by
      rw [State.syncPulse_eq ho ht, if_neg (by rw [hal]; nofun)]
      exact if_pos hw
    exact ⟨_, congrArg Host.Outcome.next ((State.whenAlive_running s _ ha).trans hpulse), s.normalClose_taken _ _ _⟩
  · exact congrArg Host.Outcome.next (whenAlive_fixed (State.clockMade_idle fun hdue => (s.closeDue_iff.1 hdue).2.2.2 ht))
  · exact congrArg Host.Outcome.next (whenAlive_fixed (State.syncPulse_secondary ht))
  · refine congrArg Host.Outcome.next (State.request_refused (k := .closeNow) h nofun rfl rfl ?_)
    exact if_pos (beq_iff_eq.2 ht)
  · have hroom : boolByte s.closeRoom =
        [if s.enabledAccounts = [] ∨ s.queue.length + s.enabledAccounts.length ≤ 32 then 1 else 0] := by
      by_cases h0 : s.closeRoom = true
      · rw [if_pos (s.closeRoom_iff.1 h0), h0]
        rfl
      · rw [if_neg (mt s.closeRoom_iff.2 h0), Bool.eq_false_iff.2 h0]
        rfl
    refine ⟨s.normalClose .closeNow false false, ?_, s.normalClose_taken _ _ _⟩
    rw [← hroom]
    exact congrArg Host.Outcome.next (State.request_replied (k := .closeNow) h nofun rfl rfl (State.closeNow_eq ht _))

/-! ### Aligning sync pulses (R98 to R100) -/

namespace State

/-- The interval has content: an enabled account with a window, or one EXTENDED (R100). -/
theorem hasContent_iff (s : State) : s.hasContent = true ↔
    ∃ a, s.isEnabled a = true ∧ (0 < (s.accounts.get a).windows ∨ (s.accounts.get a).flags.extended = true) := by
  simp only [hasContent, List.any_eq_true, mem_enabledAccounts, Bool.or_eq_true, decide_eq_true_eq]

theorem not_extended_of_empty {s : State} (h : s.hasContent = false) {a : Fin 16} (he : s.isEnabled a = true) :
    (s.accounts.get a).flags.extended = false := by
  refine Bool.eq_false_iff.2 fun hx => ?_
  exact Bool.false_ne_true (h.symm.trans (s.hasContent_iff.2 ⟨a, he, .inr hx⟩))

theorem clearUnaligned_get (s : State) (a : Fin 16) : s.clearUnaligned.accounts.get a =
    if s.isEnabled a && !(s.accounts.get a).flags.extended then
      { s.accounts.get a with flags := { (s.accounts.get a).flags with unaligned := false } }
    else s.accounts.get a := Table.get_each _ _ _

theorem clearUnaligned_eq (s : State) : s.clearUnaligned = { s with accounts := s.clearUnaligned.accounts } := rfl

/-- Clearing UNALIGNED leaves an account that is EXTENDED, aligned or disabled. -/
theorem clearUnaligned_kept {s : State} (h : ∀ a, s.isEnabled a = true → (s.accounts.get a).flags.extended = true ∨
    (s.accounts.get a).flags.unaligned = false) : s.clearUnaligned.accounts = s.accounts := by
  refine Table.ext_get fun a => ?_
  rw [clearUnaligned_get]
  split
  next hc =>
    obtain ⟨he, hx⟩ := Bool.and_eq_true_iff.1 hc
    have hu : (s.accounts.get a).flags.unaligned = false := (h a he).resolve_left fun h0 => by
      rw [h0] at hx
      exact nomatch hx
    rw [← hu]
  next => rfl

theorem syncSamples_eq (s : State) : s.syncSamples = s.settings.syncWindow * 32000 := rfl

/-- A sync pulse that aligns an interval without content (R100 (1)). -/
theorem syncAlign_empty {s : State} (h : s.hasContent = false) : s.syncAlign =
    ({ s with clock := s.clock.restart (s.clock.index, s.clock.part) true false }).clearUnaligned := by
  rw [syncAlign, h, if_neg Bool.false_ne_true]

/-- A partial close that leaves the clock at `clock`, aligned: of an aligning pulse and of ALIGN (R100 (2), R101). -/
def realigned (s : State) (reason : CloseReason) (index part : Nat) (advances : Bool) (clock : Clock) : State :=
  { (s.handed (some reason)).settleClose s.enabledAccounts (s.partialFormed s.enabledAccounts) .localPartial (some reason)
      index part true advances with clock := clock }

theorem realigned_closed (s : State) (reason : CloseReason) (index part : Nat) (advances : Bool) (clock : Clock) :
    s.closed (s.realigned reason index part advances clock) (s.enabledAccounts.take s.partialCount) .localPartial
      (some reason) index part true advances :=
  closed_congr ((s.handed_closesAs (some reason)).closed
    (fun a ha => (s.mem_enabledAccounts a).1 (List.mem_of_mem_take ha)) .localPartial (some reason) _ _ true advances)

theorem realigned_same (s : State) (reason : CloseReason) (index part : Nat) (advances : Bool) (clock : Clock) :
    s.sameButClose (s.realigned reason index part advances clock) := by
  have h := s.handed_eq (some reason)
  rw [sameButClose, realigned, settleClose_eq]
  generalize s.handed (some reason) = u at h ⊢
  generalize u.tie = x at h
  subst h
  rfl

theorem realigned_tie (s : State) (reason : CloseReason) (index part : Nat) (advances : Bool) (clock : Clock) :
    (s.realigned reason index part advances clock).tie = (s.handed (some reason)).tie := by
  rw [realigned, settleClose_eq]

/-- The partial close of an aligning pulse to `pair`, before UNALIGNED is cleared (R100 (2)). -/
def syncClosed (s : State) (pair : Nat × Nat) : State :=
  s.realigned .sync pair.1 pair.2 true (s.clock.restart pair true false)

theorem syncAlign_full {s : State} (h : s.hasContent = true) : s.syncAlign =
    (s.syncClosed (s.syncPair (s.partAfter (s.enabledAccounts.take s.partialCount)))).clearUnaligned := by
  rw [syncAlign, if_pos h]
  rfl

/-- After a close no enabled account is left UNALIGNED that is not EXTENDED. -/
theorem closed_unaligned {s t : State} {formed : List (Fin 16)} {cause : CloseCause} {reason : Option CloseReason}
    {index part : Nat} {advances : Bool} (h : s.closed t formed cause reason index part true advances)
    (hen : ∀ a, t.isEnabled a = s.isEnabled a) : ∀ a, t.isEnabled a = true →
      (t.accounts.get a).flags.extended = true ∨ (t.accounts.get a).flags.unaligned = false := by
  obtain ⟨-, hreset, hextend, -⟩ := h
  intro a ha
  rw [hen] at ha
  by_cases hf : a ∈ formed
  · obtain ⟨hu, -⟩ := hreset a hf
    right
    rw [hu]
    rfl
  · left
    rw [hextend a ha hf]

end State

namespace State

/-- The interval restarted without a close (R100 (1)). -/
def restarted (s : State) : State := { s with clock := s.clock.restart (s.clock.index, s.clock.part) true false }

theorem restarted_aligned {s : State} (h : s.hasContent = false) : s.syncAlign = s.restarted.clearUnaligned :=
  syncAlign_empty h

theorem restarted_spec {s : State} (h : s.hasContent = false) :
    s.restarted.clearUnaligned.clock =
      ⟨s.clock.index, s.clock.part, 0, s.clock.pendingLength.getD s.clock.length, none, true, false, false⟩ ∧
    (∀ a, s.isEnabled a = true → s.restarted.clearUnaligned.accounts.get a =
      { s.accounts.get a with flags := { (s.accounts.get a).flags with unaligned := false } }) ∧
    (∀ a, s.isEnabled a = false → s.restarted.clearUnaligned.accounts.get a = s.accounts.get a) ∧
    { s.restarted.clearUnaligned with accounts := s.accounts, clock := s.clock } = s := by
  have hget : ∀ a, s.restarted.clearUnaligned.accounts.get a =
      if s.isEnabled a && !(s.accounts.get a).flags.extended then
        { s.accounts.get a with flags := { (s.accounts.get a).flags with unaligned := false } }
      else s.accounts.get a := clearUnaligned_get s.restarted
  rw [clearUnaligned_eq]
  generalize s.restarted.clearUnaligned.accounts = x at hget ⊢
  refine ⟨rfl, fun a he => (hget a).trans (if_pos ?_), fun a he => (hget a).trans (if_neg ?_), rfl⟩
  · exact Bool.and_eq_true_iff.2 ⟨he, by rw [not_extended_of_empty h he]; rfl⟩
  · exact fun h0 => Bool.false_ne_true (he.symm.trans (Bool.and_eq_true_iff.1 h0).1)

/-- An outside pulse (R99). -/
theorem syncFault_spec (s : State) : let t := (s.latch .syncFault).countSyncFault
    t.notices.latched = s.notices.latched ||| 0x00020#18 ∧
    t.notices.syncFaults = min 65535 (s.notices.syncFaults + 1) ∧
    (t.notices.pulse = true ↔ s.notices.pulse = true ∨ (s.settings.attentionMode = .pulseAny ∧
      s.notices.latched.getLsbD 5 = false ∧ s.settings.noticeMask.getLsbD 5 = false)) ∧
    { t.notices with
        latched := s.notices.latched, syncFaults := s.notices.syncFaults, pulse := s.notices.pulse } = s.notices ∧
    { t with notices := s.notices } = s := by
  refine ⟨rfl, bump_eq _, ?_, rfl, rfl⟩
  have hp : ((s.latch .syncFault).countSyncFault).notices.pulse = (s.notices.pulse || s.callsPulse .syncFault) := rfl
  rw [hp, Bool.or_eq_true]
  refine or_congr_right ?_
  cases hm : s.settings.attentionMode
  · simp [callsPulse_level hm]
  · simp [callsPulse_close hm]
  · exact ⟨fun h => ⟨rfl, (callsPulse_any hm .syncFault).1 h⟩, fun h => (callsPulse_any hm .syncFault).2 h.2⟩

theorem syncPair_eq (s : State) (formed : List (Fin 16)) : s.syncPair (s.partAfter formed) =
    (if s.clock.index < Config.max32 then s.clock.index + 1 else s.clock.index,
      if s.clock.index < Config.max32 then 0 else if formed = [] then s.clock.part else s.clock.part + 1) := by
  rw [syncPair, partAfter_eq]
  split <;> rfl

/-- The close of an aligning pulse (R100 (2)): no account is left UNALIGNED that is not EXTENDED. -/
theorem syncClosed_spec (s : State) (pair : Nat × Nat) :
    (s.syncClosed pair).clearUnaligned.clock =
      ⟨pair.1, pair.2, 0, s.clock.pendingLength.getD s.clock.length, none, true, false, false⟩ ∧
    s.closed (s.syncClosed pair).clearUnaligned (s.enabledAccounts.take s.partialCount) .localPartial (some .sync)
      pair.1 pair.2 true true ∧
    (s.syncClosed pair).clearUnaligned.tie = (s.handed (some .sync)).tie ∧
    s.sameButClose (s.syncClosed pair).clearUnaligned := by
  have hclosed := s.realigned_closed .sync pair.1 pair.2 true (s.clock.restart pair true false)
  have hsame := s.realigned_same .sync pair.1 pair.2 true (s.clock.restart pair true false)
  have htie := s.realigned_tie .sync pair.1 pair.2 true (s.clock.restart pair true false)
  have hclock : (s.realigned .sync pair.1 pair.2 true (s.clock.restart pair true false)).clock = s.clock.restart pair true
    false := rfl
  rw [syncClosed]
  generalize s.realigned .sync pair.1 pair.2 true (s.clock.restart pair true false) = u at *
  have hen : ∀ a, u.isEnabled a = s.isEnabled a := fun a =>
    congrArg (fun x : Settings => x.enabled.get a) (sameButClose_settings hsame).1
  have hacc := clearUnaligned_kept (closed_unaligned hclosed hen)
  rw [clearUnaligned_eq, hacc]
  exact ⟨hclock, hclosed, htie, hsame⟩

end State

/-- Settles O31: the pulse by the alignment, the window and the content. -/
theorem syncPulsesAlign : Obligations.SyncPulsesAlign := by
  intro s ha ho ht w
  have hexec : ∀ {t}, s.syncPulse = t → exec .syncPulse s = .next t := fun h =>
    congrArg Host.Outcome.next ((State.whenAlive_running s _ ha).trans h)
  have hlate : ∀ {t}, s.lateExpire = t → exec .lateAllowanceExpire s = .next t := fun h =>
    congrArg Host.Outcome.next ((State.whenAlive_running s _ ha).trans h)
  have hw' : s.syncSamples = w := rfl
  have hpulse := State.syncPulse_eq ho ht
  rw [hw'] at hpulse
  refine ⟨fun hal hw hl hp => hexec ?_, fun hal hw hl => ⟨_, hexec ?_, s.syncFault_spec⟩,
    fun hal hc => ⟨_, hexec ?_, State.restarted_spec hc⟩,
    fun hal hc => ?_,
    fun hl hp => hlate ?_, fun hno => hlate ?_⟩
  · rw [hpulse, if_neg (by rw [hal]; nofun), if_neg (by omega), if_pos (by rw [hl]; exact decide_eq_true hp)]
  · rw [hpulse, if_neg (by rw [hal]; nofun), if_neg (by omega), if_neg fun h0 => ?_]
    obtain ⟨h1, h2⟩ := Bool.and_eq_true_iff.1 h0
    obtain hl | hl := hl
    · exact Bool.false_ne_true (hl.symm.trans h1)
    · exact Nat.not_le_of_lt (of_decide_eq_true h2) hl
  · rw [hpulse, if_pos hal, State.restarted_aligned hc]
  · obtain ⟨hclock, hclosed, htie, hsame⟩ :=
      s.syncClosed_spec (s.syncPair (s.partAfter (s.enabledAccounts.take s.partialCount)))
    have hpair := s.syncPair_eq (s.enabledAccounts.take s.partialCount)
    have hfull := hexec (hpulse.trans ((if_pos hal).trans (State.syncAlign_full hc)))
    generalize s.syncPair (s.partAfter (s.enabledAccounts.take s.partialCount)) = pair at *
    subst hpair
    exact ⟨_, hfull, ⟨hclock, hclosed⟩, fun hp => htie.trans (State.handed_tie hp _), hsame⟩
  · exact if_pos (by rw [hl]; exact decide_eq_true hp)
  · refine if_neg fun h0 => ?_
    obtain ⟨h1, h2⟩ := Bool.and_eq_true_iff.1 h0
    obtain hl | hl := hno
    · exact Bool.false_ne_true (hl.symm.trans h1)
    · exact Nat.not_le_of_lt hl (of_decide_eq_true h2)

/-! ### ALIGN (R101) -/

namespace State

/-- The part behind an ALIGN to `index`: the partial close raises it only at the same index (R101, R107). -/
def alignPart (s : State) (index : Nat) : Nat :=
  if s.clock.index < index then 0
  else if s.hasContent = true then s.partAfter (s.enabledAccounts.take s.partialCount) else s.clock.part

/-- The clock that an ALIGN to `index` and `seconds` leaves. -/
def alignClock (s : State) (index seconds : Nat) : Clock :=
  ⟨index, s.alignPart index, seconds * 32000, s.clock.pendingLength.getD s.clock.length, none, true, false, false⟩

theorem alignTo_full {s : State} (h : s.hasContent = true) (index seconds : Nat) : s.alignTo index seconds =
    s.realigned .align index (s.alignPart index) (decide (s.clock.index < index)) (s.alignClock index seconds) := by
  have hpart : s.alignPart index =
      if decide (s.clock.index < index) = true then 0 else s.partAfter (s.partialFormed s.enabledAccounts) := by
    rw [alignPart, if_pos h]
    simp only [decide_eq_true_eq]
    rfl
  rw [alignTo, if_pos h, alignClock, hpart]
  rfl

theorem alignTo_empty {s : State} (h : s.hasContent = false) (index seconds : Nat) :
    s.alignTo index seconds = { s with clock := s.alignClock index seconds } := by
  have hno : ¬ s.hasContent = true := by rw [h]; exact Bool.false_ne_true
  have hpart : s.alignPart index = if decide (s.clock.index < index) = true then 0 else s.clock.part := by
    rw [alignPart, if_neg hno]
    simp only [decide_eq_true_eq]
  rw [alignTo, if_neg hno, alignClock, hpart]
  rfl

theorem renumber_eq (t s : State) : t.renumber s = { t with accounts := (t.renumber s).accounts } := rfl

theorem renumber_get (t s : State) (a : Fin 16) : (t.renumber s).accounts.get a =
    if t.isEnabled a && !(t.accounts.get a).flags.extended && (t.accounts.get a).recordIndex == s.clock.index &&
      s.clock.index != t.clock.index then
      { t.accounts.get a with recordIndex := t.clock.index, part := t.clock.part }
    else t.accounts.get a := Table.get_each _ _ _

theorem renumbered_iff {e x : Bool} {i j k : Nat} : (e && !x && i == j && j != k) = true ↔ e = true ∧ x = false ∧ i = j ∧ j ≠ k := by
  simp only [Bool.and_eq_true, Bool.not_eq_true', beq_iff_eq, bne_iff_ne, and_assoc]

/-- After the partial close of an ALIGN no account is numbered anew: one formed stands at the new index already. -/
theorem renumber_closed {s t : State} {formed : List (Fin 16)} {cause : CloseCause} {reason : Option CloseReason}
    {part : Nat} {aligned advances : Bool} (h : s.closed t formed cause reason t.clock.index part aligned advances)
    (hen : ∀ a, t.isEnabled a = s.isEnabled a) : (t.renumber s).accounts = t.accounts := by
  obtain ⟨-, hreset, hextend, -⟩ := h
  refine Table.ext_get fun a => (renumber_get t s a).trans (if_neg fun hc => ?_)
  obtain ⟨he, hx, hi, hne⟩ := renumbered_iff.1 hc
  by_cases hf : a ∈ formed
  · obtain ⟨hu, -⟩ := hreset a hf
    rw [hu] at hi
    exact hne hi.symm
  · rw [hextend a ((hen a).symm.trans he) hf] at hx
    exact nomatch hx

/-- An ALIGN of an interval with content is its partial close. -/
theorem aligned_full {s : State} (h : s.hasContent = true) (index seconds : Nat) :
    (s.alignTo index seconds).renumber s = s.realigned .align index (s.alignPart index) (decide (s.clock.index < index))
      (s.alignClock index seconds) := by
  have hclosed := s.realigned_closed .align index (s.alignPart index) (decide (s.clock.index < index))
    (s.alignClock index seconds)
  have hsame := s.realigned_same .align index (s.alignPart index) (decide (s.clock.index < index)) (s.alignClock index seconds)
  have hclock : (s.realigned .align index (s.alignPart index) (decide (s.clock.index < index))
    (s.alignClock index seconds)).clock.index = index := rfl
  rw [alignTo_full h]
  generalize s.realigned .align index (s.alignPart index) (decide (s.clock.index < index)) (s.alignClock index seconds) = t
    at *
  rw [← hclock] at hclosed
  rw [renumber_eq, renumber_closed hclosed fun a =>
    congrArg (fun x : Settings => x.enabled.get a) (sameButClose_settings hsame).1]

/-- An ALIGN of an interval without content numbers the accounts that stood at the clock's index. -/
theorem aligned_empty {s : State} (h : s.hasContent = false) (index seconds : Nat) :
    (s.alignTo index seconds).renumber s = { s with
      clock := s.alignClock index seconds
      accounts := ((s.alignTo index seconds).renumber s).accounts } := by
  rw [alignTo_empty h]
  rfl

theorem aligned_empty_get {s : State} (h : s.hasContent = false) {index : Nat} (hle : s.clock.index ≤ index)
    (seconds : Nat) (a : Fin 16) : ((s.alignTo index seconds).renumber s).accounts.get a =
      if s.isEnabled a = true ∧ (s.accounts.get a).recordIndex = s.clock.index ∧ s.clock.index < index then
        { s.accounts.get a with recordIndex := index, part := 0 }
      else s.accounts.get a := by
  have hget : (State.renumber { s with clock := s.alignClock index seconds } s).accounts.get a =
      if s.isEnabled a && !(s.accounts.get a).flags.extended && (s.accounts.get a).recordIndex == s.clock.index &&
        s.clock.index != index then { s.accounts.get a with recordIndex := index, part := s.alignPart index }
      else s.accounts.get a := renumber_get _ s a
  rw [alignTo_empty h, hget]
  by_cases hc : s.isEnabled a = true ∧ (s.accounts.get a).recordIndex = s.clock.index ∧ s.clock.index < index
  · obtain ⟨he, hi, hlt⟩ := hc
    have hp : s.alignPart index = 0 := if_pos hlt
    rw [if_pos (c := s.isEnabled a = true ∧ _) ⟨he, hi, hlt⟩, if_pos (renumbered_iff.2 ⟨he, not_extended_of_empty h he, hi, Nat.ne_of_lt hlt⟩)]
    rw [hp]
  · rw [if_neg hc, if_neg]
    exact fun h0 => hc (by
      obtain ⟨he, -, hi, hne⟩ := renumbered_iff.1 h0
      exact ⟨he, hi, Nat.lt_of_le_of_ne hle hne⟩)

/-- The frame of the request plays no part in an ALIGN. -/
theorem aligned_holding (s : State) (f : HostFrame) (index seconds : Nat) :
    ((s.holding f).alignTo index seconds).renumber (s.holding f) = ((s.alignTo index seconds).renumber s).holding f := by
  cases h : s.hasContent
  · rw [alignTo_empty h, alignTo_empty (s := s.holding f) h]
    rfl
  · rw [aligned_full h, aligned_full (s := s.holding f) h, realigned, realigned, handed_holding, settleClose_holding]
    rfl

theorem aligned_clock (s : State) (index seconds : Nat) :
    ((s.alignTo index seconds).renumber s).clock = s.alignClock index seconds := by
  cases h : s.hasContent
  · rw [aligned_empty h]
  · rw [aligned_full h]
    rfl

theorem align_eq {s : State} {body : List Byte} (hi : s.clock.index ≤ field body 0 4)
    (hl : field body 4 4 < s.clock.pendingLength.getD s.clock.length * 60) (ht : s.tie.state ≠ .pairedSecondary)
    (f : HostFrame) : (s.holding f).align body =
      ⟨.done, leBytes 4 (field body 0 4) ++ leBytes 1 (s.alignPart (field body 0 4)) ++ leBytes 4 (field body 4 4 * 32000),
        ((s.alignTo (field body 0 4) (field body 4 4)).renumber s).holding f⟩ := by
  have hpaired : ¬ ((s.holding f).tie.state == .pairedSecondary) = true := fun h0 => ht (beq_iff_eq.1 h0)
  have hclock := s.aligned_clock (field body 0 4) (field body 4 4)
  have hindex : ¬ field body 0 4 < (s.holding f).clock.index := Nat.not_lt_of_le hi
  have hlength : ¬ ((s.holding f).clock.pendingLength.getD (s.holding f).clock.length) * 60 ≤ field body 4 4 :=
    Nat.not_le_of_lt hl
  rw [align, if_neg hindex, if_neg hlength, if_neg hpaired, aligned_holding]
  generalize (s.alignTo (field body 0 4) (field body 4 4)).renumber s = t at *
  show (⟨.done, leBytes 4 t.clock.index ++ byte t.clock.part ++ leBytes 4 t.clock.position, t.holding f⟩ : Answer) = _
  rw [hclock]
  rfl

end State

/-- Settles O32: the part is that of `alignPart`, and the state that of the partial close or of the new numbering. -/
theorem alignAnswers : Obligations.AlignAnswers := by
  intro s tag body hs hlen index seconds length
  have hok : Kind.align.lengthOk body.length = true := by rw [hlen]; rfl
  refine ⟨fun hno => ?_, fun hi hl ht => ?_, fun hi hl ht => ?_⟩
  · refine congrArg Host.Outcome.next (State.request_refused (k := .align) hs nofun hok rfl ?_)
    by_cases hlow : index < s.clock.index
    · exact if_pos hlow
    · exact (if_neg hlow).trans (if_pos (hno.resolve_left hlow))
  · refine congrArg Host.Outcome.next (State.request_refused (k := .align) hs nofun hok rfl ?_)
    exact (if_neg (Nat.not_lt_of_le hi)).trans ((if_neg (Nat.not_le_of_lt hl)).trans (if_pos (beq_iff_eq.2 ht)))
  · have hexec := congrArg (Host.Outcome.next (φ := Fault) (ρ := Refusal))
      (State.request_replied (k := .align) (tag := tag) hs nofun hok rfl (State.align_eq hi hl ht _))
    have hpart : s.alignPart index = if s.clock.index < index then 0
      else if s.hasContent = true then s.partAfter (s.enabledAccounts.take s.partialCount) else s.clock.part := rfl
    have hsame : index = s.clock.index → ¬ s.clock.index < index := fun h => by omega
    refine ⟨(s.alignTo index seconds).renumber s, s.alignPart index, hexec, s.aligned_clock index seconds, fun h => ?_,
      fun h hc => ?_, fun h hc hf => ?_, fun h hc hf => ?_, fun hc => ?_, fun hc => ?_, ?_⟩
    · rw [hpart, if_pos h]
    · rw [hpart, if_neg (hsame h), if_neg (by rw [hc]; exact Bool.false_ne_true)]
    · rw [hpart, if_neg (hsame h), if_pos hc, State.partAfter_eq, if_neg hf]
    · rw [hpart, if_neg (hsame h), if_pos hc, State.partAfter_eq, if_pos hf]
    · rw [State.aligned_full hc]
      exact s.realigned_closed _ _ _ _ _
    · refine ⟨?_, ?_, ?_, State.aligned_empty_get hc hi seconds⟩ <;> rw [State.aligned_empty hc]
    · cases hc : s.hasContent
      · rw [State.aligned_empty hc]
        rfl
      · rw [State.aligned_full hc]
        exact s.realigned_same _ _ _ _ _

end Sys2Proof.Machine
end

section
/-! PROOFS. The settings: their table, and SET (O43, O44). -/

/- The whole text is compiled as one file: these proofs are elaborated one after another, to stay within its memory. -/
set_option Elab.async false

namespace Sys2Proof.Machine

/-! ### Values of settings (11.1) -/

theorem within_isSome (ok : Bool) (x : Settings) : (within ok x).isSome = true ↔ ok = true := by cases ok <;> simp [within]

theorem within_some {ok : Bool} {x y : Settings} (h : within ok x = some y) : ok = true ∧ x = y := by
  cases ok
  · exact nomatch h
  · exact ⟨rfl, Option.some.inj h⟩

theorem readFin_isSome (n x : Nat) : (readFin n x).isSome = true ↔ x < n := by
  unfold readFin
  split <;> simp_all

theorem readFin_some {n x : Nat} {i : Fin n} (h : readFin n x = some i) : i.val = x := by
  unfold readFin at h
  split at h
  · exact Option.some.inj h ▸ rfl
  · exact nomatch h

theorem readPreference_isSome (n : Nat) : (readPreference n).isSome = true ↔ 1 ≤ n ∧ n ≤ 3 := by
  unfold readPreference
  repeat' split
  all_goals simp only [Option.isSome_some, Option.isSome_none, true_iff, Bool.false_eq_true, false_iff]; omega

theorem readPreference_code {n : Nat} {p : Preference} (h : readPreference n = some p) : p.code = n := by
  unfold readPreference at h
  split at h
  · cases h
    exact Eq.symm ‹_›
  · split at h
    · cases h
      exact Eq.symm ‹_›
    · split at h
      · cases h
        exact Eq.symm ‹_›
      · exact nomatch h

theorem readMode_isSome (n : Nat) : (readMode n).isSome = true ↔ n ≤ 2 := by
  unfold readMode
  repeat' split
  all_goals simp only [Option.isSome_some, Option.isSome_none, true_iff, Bool.false_eq_true, false_iff]; omega

theorem readMode_code {n : Nat} {m : AttentionMode} (h : readMode n = some m) : m.code = n := by
  unfold readMode at h
  split at h
  · cases h
    exact Eq.symm ‹_›
  · split at h
    · cases h
      exact Eq.symm ‹_›
    · split at h
      · cases h
        exact Eq.symm ‹_›
      · exact nomatch h

/-- A value of `k` bytes reads back as it was given. -/
theorem leBytes_read {k : Nat} {value : List Byte} (h : value.length = k) : leBytes k (ofLe value) = value := by
  subst h
  exact leBytes_ofLe value

theorem leInt_read {k : Nat} {value : List Byte} (h : value.length = k) : leInt k (ofLeInt value) = value := by
  have hlt := ofLe_lt value
  rw [h] at hlt
  have hmod : (ofLeInt value % ((256 ^ k : Nat) : Int)).toNat = ofLe value := by
    unfold ofLeInt
    rw [h]
    dsimp only
    generalize 256 ^ k = m at *
    split
    · rw [Int.emod_eq_of_lt (by omega) (by omega)]
      rfl
    · rw [Int.sub_emod_right, Int.emod_eq_of_lt (by omega) (by omega)]
      rfl
  rw [leInt, hmod, leBytes_read h]

theorem boolByte_read {value : List Byte} (h : value.length = 1) (hn : ofLe value ≤ 1) :
    boolByte (ofLe value == 1) = value := by
  have hval : (ofLe value == 1).toNat = ofLe value := by
    obtain h0 | h0 := Nat.le_one_iff_eq_zero_or_eq_one.1 hn <;> rw [h0] <;> rfl
  rw [boolByte, byte, hval, leBytes_read h]

/-! ### Export slots (R150) -/

theorem ExportMember.bytes_length (m : ExportMember) : m.bytes.length = 2 := rfl

theorem readExportMember_bytes (m : ExportMember) : readExportMember m.bytes = some m := by
  obtain ⟨tap, plus⟩ := m
  revert tap plus
  decide

theorem readExportMembers_bytes (ms : List ExportMember) :
    readExportMembers ms.length (ms.flatMap ExportMember.bytes) = some ms := by
  induction ms with
  | nil => rfl
  | cons m ms ih =>
    rw [List.flatMap_cons, List.length_cons, readExportMembers, List.take_left' m.bytes_length,
      List.drop_left' m.bytes_length, readExportMember_bytes, ih]

theorem readExportMember_some {a b : Byte} {m : ExportMember} (h : readExportMember [a, b] = some m) : m.bytes = [a, b] := by
  unfold readExportMember at h
  split at h
  next hlt =>
    have htap : byte (field [a, b] 0 1) = [a] := by simp [field_byte, byte, leBytes]
    split at h
    next hb =>
      cases h
      exact congr_arg₂ (· ++ ·) htap (congrArg ([·]) (beq_iff_eq.1 hb).symm)
    next =>
      split at h
      next hb =>
        cases h
        exact congr_arg₂ (· ++ ·) htap (congrArg ([·]) (beq_iff_eq.1 hb).symm)
      next => exact nomatch h
  next => exact nomatch h

/-- Members read are those of the bytes. -/
theorem readExportMembers_some {k : Nat} : ∀ {bs : List Byte} {ms : List ExportMember}, bs.length = 2 * k →
    readExportMembers k bs = some ms → ms.length = k ∧ ms.flatMap ExportMember.bytes = bs := by
  induction k with
  | zero =>
    intro bs ms hl h
    cases h
    exact ⟨rfl, (List.eq_nil_of_length_eq_zero hl).symm⟩
  | succ k ih =>
    intro bs ms hl h
    obtain _ | ⟨a, _ | ⟨b, rest⟩⟩ := bs
    · exact absurd hl (by simp)
    · exact absurd hl (by simp; omega)
    have hrest : rest.length = 2 * k := by
      simp only [List.length_cons] at hl
      omega
    rw [readExportMembers] at h
    cases hm : readExportMember [a, b] with
    | none =>
      rw [show (a :: b :: rest).take 2 = [a, b] from rfl, hm] at h
      exact nomatch h
    | some m =>
      cases hms : readExportMembers k rest with
      | none =>
        rw [show (a :: b :: rest).take 2 = [a, b] from rfl, show (a :: b :: rest).drop 2 = rest from rfl, hm, hms] at h
        exact nomatch h
      | some ms' =>
        rw [show (a :: b :: rest).take 2 = [a, b] from rfl, show (a :: b :: rest).drop 2 = rest from rfl, hm, hms] at h
        cases h
        obtain ⟨hlen, hbytes⟩ := ih hrest hms
        exact ⟨congrArg (· + 1) hlen, by rw [List.flatMap_cons, readExportMember_some hm, hbytes]; rfl⟩

/-- An exported slot read: at most 8 members of distinct taps, with the bytes they were read from. -/
theorem readExportSlot_some {b : Byte} {rest : List Byte} {ms : List ExportMember} (hl : rest.length = 2 * b.toNat)
    (h : readExportSlot (b :: rest) = some ms) :
    ms.length = b.toNat ∧ ms.flatMap ExportMember.bytes = rest ∧ ms.length ≤ 8 ∧ (ms.map (·.tap)).Nodup := by
  unfold readExportSlot at h
  rw [field_byte, List.drop_one, List.tail_cons] at h
  cases hr : readExportMembers b.toNat rest with
  | none =>
    rw [hr] at h
    exact nomatch h
  | some ns =>
    rw [hr] at h
    obtain ⟨hlen, hbytes⟩ := readExportMembers_some hl hr
    dsimp only at h
    split at h
    next hc =>
      cases h
      obtain ⟨h8, hnd⟩ := Bool.and_eq_true_iff.1 hc
      exact ⟨hlen, hbytes, of_decide_eq_true h8, of_decide_eq_true hnd⟩
    next => exact nomatch h

theorem readExportSlot_bytes {ms : List ExportMember} (h8 : ms.length ≤ 8) (hnd : (ms.map (·.tap)).Nodup) :
    readExportSlot (BitVec.ofNat 8 ms.length :: ms.flatMap ExportMember.bytes) = some ms := by
  have hlen : (BitVec.ofNat 8 ms.length).toNat = ms.length := by
    rw [BitVec.toNat_ofNat]
    exact Nat.mod_eq_of_lt (by omega)
  rw [readExportSlot, field_byte, hlen, List.drop_one, List.tail_cons, readExportMembers_bytes]
  exact if_pos (Bool.and_eq_true_iff.2 ⟨decide_eq_true h8, decide_eq_true hnd⟩)

/-- The bytes of the sign of an exported member. -/
def ExportMember.sign (m : ExportMember) : Byte := if m.plus then 0x01 else 0xFF

/-- Members whose bytes are given pairs are those pairs. -/
theorem members_of_pairs : ∀ {ms : List ExportMember} {ps : List (Byte × Byte)},
    ms.flatMap ExportMember.bytes = ps.flatMap (fun p => [p.1, p.2]) →
    ms.map (fun m => (BitVec.ofNat 8 m.tap.val, m.sign)) = ps
  | [], [], _ => rfl
  | [], _ :: _, h => nomatch h
  | _ :: _, [], h => nomatch h
  | m :: ms, p :: ps, h => by
    have hc : BitVec.ofNat 8 m.tap.val :: m.sign :: ms.flatMap ExportMember.bytes =
      p.1 :: p.2 :: ps.flatMap (fun p => [p.1, p.2]) := h
    obtain ⟨h1, hc⟩ := List.cons.inj hc
    obtain ⟨h2, hc⟩ := List.cons.inj hc
    rw [List.map_cons, members_of_pairs hc, h1, h2]

/-- An exported slot of given pairs outside its range is not read (R150). -/
theorem readExportSlot_none {ps : List (Byte × Byte)} (hl : ps.length ≤ 255)
    (h : 8 < ps.length ∨ (∃ p ∈ ps, 7 < p.1.toNat ∨ (p.2 ≠ 0x01 ∧ p.2 ≠ 0xFF)) ∨ ¬ (ps.map (·.1)).Nodup) :
    readExportSlot (BitVec.ofNat 8 ps.length :: ps.flatMap fun p => [p.1, p.2]) = none := by
  have hlen : (BitVec.ofNat 8 ps.length).toNat = ps.length := by
    rw [BitVec.toNat_ofNat]
    exact Nat.mod_eq_of_lt (by omega)
  refine Option.eq_none_iff_forall_ne_some.2 fun ms hms => ?_
  obtain ⟨hcount, hbytes, h8, hnd⟩ := readExportSlot_some (by simp [hlen, Nat.mul_comm]) hms
  have hps := members_of_pairs hbytes
  obtain h | ⟨p, hp, h⟩ | h := h
  · omega
  · rw [← hps] at hp
    obtain ⟨m, -, rfl⟩ := List.mem_map.1 hp
    obtain h | ⟨h1, h2⟩ := h
    · have htap : (BitVec.ofNat 8 m.tap.val).toNat = m.tap.val := by
        rw [BitVec.toNat_ofNat]
        exact Nat.mod_eq_of_lt (by omega)
      dsimp only at h
      omega
    · cases hm : m.plus
      · exact h2 (if_neg (by rw [hm]; exact Bool.false_ne_true))
      · exact h1 (if_pos hm)
  · refine h ?_
    rw [← hps, List.map_map]
    have htaps : ms.map ((fun p : Byte × Byte => p.1) ∘ fun m => (BitVec.ofNat 8 m.tap.val, m.sign)) =
        (ms.map (·.tap)).map fun t => BitVec.ofNat 8 t.val := by
      rw [List.map_map]
      rfl
    rw [htaps]
    refine hnd.map fun t u htu => Fin.ext ?_
    have := congrArg BitVec.toNat htu
    simp only [BitVec.toNat_ofNat] at this
    omega

/-! ### The table of 11.1 -/

/-- A write changes the value of its setting alone. -/
theorem SettingId.write_changesOnly {i : SettingId} {value : List Byte} {x y : Settings} (h : i.write value x = some y) :
    i.changesOnly x y := by
  have hput : ∀ {α : Type} {n : Nat} (t : Table α n) (k : Fin n) (v : α) (j : Fin n), j ≠ k → (t.put k v).get j = t.get j :=
    fun t k v j hj => t.get_put_other k j v hj.symm
  cases i with
  | nominalHz | intervalLength | syncWindow | debounceTime | tieEnable | reclaim =>
    obtain ⟨-, rfl⟩ := within_some h
    exact rfl
  | nominalVoltage | presence | scale | delay | enabled | name =>
    obtain ⟨-, rfl⟩ := within_some h
    exact ⟨rfl, hput _ _ _⟩
  | binding | exportSlot =>
    obtain ⟨v, -, rfl⟩ := Option.map_eq_some_iff.1 h
    exact ⟨rfl, hput _ _ _⟩
  | exportSet | preference | attentionMode =>
    obtain ⟨v, -, rfl⟩ := Option.map_eq_some_iff.1 h
    exact rfl
  | orderMask =>
    cases h
    exact ⟨rfl, hput _ _ _⟩
  | noticeMask =>
    cases h
    exact rfl

theorem byte_read {value : List Byte} (h : value.length = 1) {n : Nat} (hn : n = ofLe value) : byte n = value := by
  rw [hn, byte, leBytes_read h]

theorem exportSlot_read {value : List Byte} {ms : List ExportMember} (hl : value.length = 1 + 2 * field value 0 1)
    (h : readExportSlot value = some ms) : exportSlotBytes ms = value ++ List.replicate (17 - value.length) 0 := by
  obtain _ | ⟨b, rest⟩ := value
  · exact absurd hl (by simp; omega)
  rw [field_byte, List.length_cons] at hl
  obtain ⟨hcount, hbytes, -, -⟩ := readExportSlot_some (by omega) h
  rw [exportSlotBytes, hbytes, hcount, byte, ← byteList_eq]
  rfl

/-- What stands behind a value read back: zeros behind an exported slot (R180). -/
def SettingId.padding (i : SettingId) (value : List Byte) : List Byte :=
  match i with
  | .exportSlot _ => List.replicate (17 - value.length) 0
  | _ => []

/-- A value written reads back as it was given, an exported slot padded to 17 bytes (R180). -/
theorem SettingId.write_bytes {i : SettingId} {value : List Byte} {x y : Settings} (hl : value.length = i.size value)
    (hb : i.badBits value = false) (h : i.write value x = some y) : i.bytes y = value ++ i.padding value := by
  cases i with
  | nominalHz | intervalLength | syncWindow =>
    obtain ⟨-, rfl⟩ := within_some h
    exact (byte_read hl rfl).trans (List.append_nil _).symm
  | debounceTime =>
    obtain ⟨-, rfl⟩ := within_some h
    exact (leBytes_read hl).trans (List.append_nil _).symm
  | presence v =>
    obtain ⟨-, rfl⟩ := within_some h
    exact (byte_read hl (Table.get_put_same _ _ _)).trans (List.append_nil _).symm
  | nominalVoltage v =>
    obtain ⟨-, rfl⟩ := within_some h
    exact (congrArg (leBytes 4) (Table.get_put_same _ _ _)).trans ((leBytes_read hl).trans (List.append_nil _).symm)
  | scale c =>
    obtain ⟨-, rfl⟩ := within_some h
    exact (congrArg (leBytes 4) (Table.get_put_same _ _ _)).trans ((leBytes_read hl).trans (List.append_nil _).symm)
  | delay c =>
    obtain ⟨-, rfl⟩ := within_some h
    exact (congrArg (leInt 2) (Table.get_put_same _ _ _)).trans ((leInt_read hl).trans (List.append_nil _).symm)
  | binding k =>
    obtain ⟨v, hv, rfl⟩ := Option.map_eq_some_iff.1 h
    exact (byte_read hl ((congrArg Fin.val (Table.get_put_same _ _ _)).trans (readFin_some hv))).trans
      (List.append_nil _).symm
  | enabled a =>
    obtain ⟨hok, rfl⟩ := within_some h
    exact (congrArg boolByte (Table.get_put_same _ _ _)).trans
      ((boolByte_read hl (of_decide_eq_true hok)).trans (List.append_nil _).symm)
  | name a =>
    obtain ⟨-, rfl⟩ := within_some h
    exact (Table.get_put_same _ _ _).trans (List.append_nil _).symm
  | orderMask a =>
    cases h
    have hn : (BitVec.ofNat 39 (ofLe value)).toNat = ofLe value := by
      rw [BitVec.toNat_ofNat]
      exact Nat.mod_eq_of_lt (Nat.lt_of_not_le (of_decide_eq_false hb))
    refine Eq.trans ?_ (List.append_nil _).symm
    refine (congrArg (fun m : BitVec 39 => leBytes 5 m.toNat) (Table.get_put_same _ _ _)).trans ?_
    exact (congrArg (leBytes 5) hn).trans (leBytes_read hl)
  | exportSet =>
    obtain ⟨v, hv, rfl⟩ := Option.map_eq_some_iff.1 h
    exact (byte_read hl (readFin_some hv)).trans (List.append_nil _).symm
  | exportSlot j =>
    obtain ⟨ms, hms, rfl⟩ := Option.map_eq_some_iff.1 h
    exact (congrArg exportSlotBytes (Table.get_put_same _ _ _)).trans (exportSlot_read hl hms)
  | tieEnable | reclaim =>
    obtain ⟨hok, rfl⟩ := within_some h
    exact (boolByte_read hl (of_decide_eq_true hok)).trans (List.append_nil _).symm
  | preference =>
    obtain ⟨p, hp, rfl⟩ := Option.map_eq_some_iff.1 h
    exact (byte_read hl (readPreference_code hp)).trans (List.append_nil _).symm
  | attentionMode =>
    obtain ⟨m, hm, rfl⟩ := Option.map_eq_some_iff.1 h
    exact (byte_read hl (readMode_code hm)).trans (List.append_nil _).symm
  | noticeMask =>
    cases h
    have hn : (BitVec.ofNat 18 (ofLe value)).toNat = ofLe value := by
      rw [BitVec.toNat_ofNat]
      exact Nat.mod_eq_of_lt (Nat.lt_of_not_le (of_decide_eq_false hb))
    refine Eq.trans ?_ (List.append_nil _).symm
    exact (congrArg (leBytes 3) hn).trans (leBytes_read hl)

/-- Settles O43: the range of each setting is the test of its write. -/
theorem settingsFollowTable : Obligations.SettingsFollowTable := by
  intro value x n fits
  have hwithin : ∀ {ok : Bool} {y : Settings} {p : Prop}, (ok = true ↔ p) → ((within ok y).isSome = true ↔ p) :=
    fun h => (within_isSome _ _).trans h
  have hfin : ∀ {f : Fin 2 → Settings}, (((readFin 2 n).map f).isSome = true ↔ n ≤ 1) := fun {f} => by
    rw [Option.isSome_map, readFin_isSome, Nat.lt_succ_iff]
  refine ⟨⟨fun _ => rfl, fun _ _ => hwithin ?_⟩, fun v => ⟨fun _ => rfl, fun _ _ => hwithin ?_⟩,
    fun v => ⟨fun _ => rfl, fun _ _ => hwithin ?_⟩, ⟨fun _ => rfl, fun _ _ => hwithin ?_⟩,
    ⟨fun _ => rfl, fun _ _ => hwithin ?_⟩, ⟨fun _ => rfl, fun _ _ => hwithin ?_⟩,
    fun c => ⟨fun _ => rfl, fun _ _ => hwithin decide_eq_true_iff⟩, fun c => ⟨fun _ => rfl, fun _ _ => hwithin ?_⟩,
    fun k => ⟨fun _ => rfl, fun _ _ => hfin⟩, fun a => ⟨fun _ => rfl, fun _ _ => hwithin decide_eq_true_iff⟩,
    fun a => ⟨fun _ => rfl, fun _ _ => hwithin ?_⟩, fun a => ⟨fun _ => rfl, fun _ _ => iff_of_true rfl trivial⟩,
    fun a => decide_eq_true_iff, ⟨fun _ => rfl, fun _ _ => hfin⟩,
    ⟨fun _ => rfl, fun _ _ => hwithin decide_eq_true_iff⟩, ⟨fun _ => rfl, fun _ _ => ?_⟩, ⟨fun _ => rfl, fun _ _ => ?_⟩,
    ⟨fun _ => rfl, fun _ _ => iff_of_true rfl trivial⟩, decide_eq_true_iff,
    ⟨fun _ => rfl, fun _ _ => hwithin decide_eq_true_iff⟩, fun j => ⟨rfl, fun ms h8 hnd => ?_⟩,
    fun j ps hps => ⟨?_, fun h => ?_⟩, fun i y hl hb h => ⟨SettingId.write_changesOnly h, (SettingId.write_bytes hl hb h).trans ?_⟩⟩
  · rw [Bool.or_eq_true, beq_iff_eq, beq_iff_eq]
  · rw [Bool.and_eq_true, decide_eq_true_iff, decide_eq_true_iff]
  · rw [Bool.and_eq_true, decide_eq_true_iff, decide_eq_true_iff]
  · simp only [isLength, Bool.or_eq_true, beq_iff_eq, or_assoc, n]
  · rw [Bool.and_eq_true, decide_eq_true_iff, decide_eq_true_iff]
  · rw [Bool.and_eq_true, decide_eq_true_iff, decide_eq_true_iff]
  · rw [Bool.and_eq_true, decide_eq_true_iff, decide_eq_true_iff]
  · simp only [isName, List.all_eq_true, Bool.and_eq_true, decide_eq_true_iff]
  · exact (congrArg (· = true) Option.isSome_map).to_iff.trans (readPreference_isSome n)
  · exact (congrArg (· = true) Option.isSome_map).to_iff.trans (readMode_isSome n)
  · exact congrArg (Option.map fun ms => { x with exportSlots := x.exportSlots.put j ms }) (readExportSlot_bytes h8 hnd)
  · show _ = 1 + 2 * field (BitVec.ofNat 8 ps.length :: ps.flatMap fun p => [p.1, p.2]) 0 1
    rw [field_byte, BitVec.toNat_ofNat, Nat.mod_eq_of_lt (by omega)]
    simp [Nat.mul_comm, Nat.add_comm]
  · exact congrArg (Option.map fun ms => { x with exportSlots := x.exportSlots.put j ms }) (readExportSlot_none hps h)
  · cases i <;> rfl

end Sys2Proof.Machine
end

section
/-! PROOFS. SET (O44). -/

/- The whole text is compiled as one file: these proofs are elaborated one after another, to stay within its memory. -/
set_option Elab.async false

namespace Sys2Proof.Machine

theorem Table.put_get_self {α : Type} {n : Nat} (t : Table α n) (i : Fin n) : t.put i (t.get i) = t := by
  refine Table.ext_get fun j => ?_
  by_cases h : i = j
  · rw [h, Table.get_put_same]
  · exact Table.get_put_other t i j _ h

theorem SettingId.id_lt (i : SettingId) : i.id < 65536 := by
  cases i <;> simp only [SettingId.id] <;> omega

namespace State

/-! ### What a setting taken over leaves (R179) -/

theorem partialClose_disable (s : State) (a : Fin 16) : s.partialClose [a] .localPartial .disable =
    { (s.notePair.settleClose [a] (s.partialFormed [a]) .localPartial (some .disable) s.clock.index
        (s.partAfter (s.partialFormed [a])) s.clock.aligned false) with
      clock := { s.clock with part := s.partAfter (s.partialFormed [a]) } } := rfl

/-- What a disable changes (R108). -/
theorem disable_eq (s : State) (a : Fin 16) : s.disable a =
    { s with
      settings := { s.settings with enabled := s.settings.enabled.put a false }
      accounts := (s.disable a).accounts, queue := (s.disable a).queue, notices := (s.disable a).notices
      clock := { s.clock with part := s.partAfter (s.partialFormed [a]) }
      tie := { s.tie with lastPair := some (s.clock.index, s.clock.part) } } := by
  rw [disable, partialClose_disable, settleClose_eq]
  rfl

theorem reclaimTestRunning_image (s : State) : s.reclaimTestRunning.nv.image = s.nv.image := by
  unfold reclaimTestRunning
  split
  · unfold reclaimTestHeld
    repeat' split
    · rfl
    · rfl
    · rfl
    · unfold becomeHeld
      cases s.archive.heldInd <;> rfl
  · rw [reclaimTest_eq]

/-- What every setting taken over leaves: the link, the store write and the stored image. -/
structure SetKeeps (s t : State) : Prop where
  msg : t.msg = s.msg
  store : t.store = s.store
  image : t.nv.image = s.nv.image

theorem changeEnabled_kept (s : State) (a : Fin 16) (b : Bool) : s.SetKeeps (s.changeEnabled a b) := by
  unfold changeEnabled
  split
  · rw [disable_eq]
    exact ⟨rfl, rfl, rfl⟩
  · split <;> exact ⟨rfl, rfl, rfl⟩

/-- A change of an enabled mark leaves it in the settings. -/
theorem changeEnabled_settings (s : State) (a : Fin 16) (b : Bool) :
    (s.changeEnabled a b).settings = { s.settings with enabled := s.settings.enabled.put a b } := by
  have hsame : b = s.settings.enabled.get a → s.settings = { s.settings with enabled := s.settings.enabled.put a b } :=
    fun h => by rw [h, Table.put_get_self]
  unfold changeEnabled
  split
  next h =>
    obtain ⟨-, hb⟩ := Bool.and_eq_true_iff.1 h
    rw [disable_eq, (Bool.not_eq_true' b).mp hb]
  next h =>
    split
    next k =>
      obtain ⟨-, rfl⟩ := Bool.and_eq_true_iff.1 k
      rfl
    next k =>
      refine hsame ?_
      unfold isEnabled at h k
      generalize s.settings.enabled.get a = e at h k
      cases e <;> cases b <;> simp_all

theorem changeTieEnable_kept (s : State) (old : Bool) :
    s.SetKeeps (s.changeTieEnable old) ∧ (s.changeTieEnable old).settings = s.settings := by
  unfold changeTieEnable
  split
  · exact ⟨⟨by simp, by simp, by simp⟩, by simp⟩
  · split
    · exact ⟨⟨by simp, by simp, by simp⟩, by simp⟩
    · exact ⟨⟨rfl, rfl, rfl⟩, rfl⟩

theorem changePreference_kept (s : State) (old : Preference) :
    s.SetKeeps (s.changePreference old) ∧ (s.changePreference old).settings = s.settings := by
  unfold changePreference beginResolving
  split
  · exact ⟨⟨rfl, rfl, rfl⟩, rfl⟩
  · split
    · exact ⟨⟨by simp, by simp, by simp⟩, by simp⟩
    · exact ⟨⟨by simp, by simp, by simp⟩, by simp⟩
    · exact ⟨⟨by simp, by simp, by simp⟩, by simp⟩
    · exact ⟨⟨rfl, rfl, rfl⟩, rfl⟩

/-- The settings take the value, whatever its owner does. -/
theorem applySetting_kept {s : State} {i : SettingId} {value : List Byte} {x : Settings}
    (h : i.write value s.settings = some x) : s.SetKeeps (s.applySetting i x) ∧ (s.applySetting i x).settings = x := by
  cases i with
  | enabled a =>
    obtain ⟨-, rfl⟩ := within_some h
    have hs := s.changeEnabled_settings a (ofLe value == 1)
    rw [applySetting]
    dsimp only
    rw [Table.get_put_same]
    exact ⟨s.changeEnabled_kept a _, hs⟩
  | tieEnable =>
    have hk := changeTieEnable_kept { s with settings := x } s.settings.tieEnable
    exact ⟨⟨hk.1.msg, hk.1.store, hk.1.image⟩, hk.2⟩
  | preference =>
    have hk := changePreference_kept { s with settings := x } s.settings.preference
    exact ⟨⟨hk.1.msg, hk.1.store, hk.1.image⟩, hk.2⟩
  | reclaim =>
    simp only [applySetting]
    split
    · exact ⟨⟨rfl, rfl, rfl⟩, rfl⟩
    · exact ⟨⟨by simp, by simp, reclaimTestRunning_image _⟩, by simp⟩
  | nominalHz | nominalVoltage | presence | syncWindow | debounceTime | delay | binding | name | orderMask | exportSet
  | exportSlot | noticeMask | intervalLength | scale | attentionMode => exact ⟨⟨rfl, rfl, rfl⟩, rfl⟩

/-! ### The tests and the effect of SET (R179) -/

/-- The state behind a SET that passes its tests. -/
def setDone (s : State) (i : SettingId) (value : List Byte) (x : Settings) (persist : Bool) : State :=
  if persist then (s.applySetting i x).persistSetting i value else s.applySetting i x

theorem setSetting_unknown {s : State} {n : Nat} (hn : n < 65536) (h : ∀ i : SettingId, i.id ≠ n) (rest : List Byte) :
    s.setSetting (leBytes 2 n ++ rest) = s.refuse .range := by
  have hid : readId (field (leBytes 2 n ++ rest) 0 2) = none := by
    rw [field_head, Nat.mod_eq_of_lt (by simpa using hn)]
    exact Option.eq_none_iff_forall_ne_some.2 fun i hi => h i (readId_some hi).symm
  rw [setSetting, hid]

theorem setSetting_eq (s : State) (i : SettingId) (flags : Byte) (value : List Byte) :
    s.setSetting (leBytes 2 i.id ++ [flags, 0] ++ value) =
      if value.length ≠ i.size value then s.refuse .length
      else if i.badBits value then s.refuse .field
      else (i.write value s.settings).elim (s.refuse .range) fun x =>
        if flags.getLsbD 0 && s.storeBusy then s.refuse .busy
        else if s.disableRefused i x then s.refuse .busy
        else (s.setDone i value x (flags.getLsbD 0)).doneNow := by
  have hid : readId (field (leBytes 2 i.id ++ [flags, 0] ++ value) 0 2) = some i := by
    rw [List.append_assoc, field_head, Nat.mod_eq_of_lt (by simpa using i.id_lt), readId_id]
  have hflags : byteAt (leBytes 2 i.id ++ [flags, 0] ++ value) 2 = flags := rfl
  have hvalue : (leBytes 2 i.id ++ [flags, 0] ++ value).drop 4 = value := rfl
  rw [setSetting, hid, hflags, hvalue]
  dsimp only
  cases i.write value s.settings <;> rfl

/-- The value written beside the stored ones (R181). -/
theorem setDone_store {s : State} {i : SettingId} {value : List Byte} {x : Settings} {persist : Bool}
    (h : i.write value s.settings = some x) :
    (persist = false → (s.setDone i value x persist).store = s.store) ∧
    (persist = true → (s.setDone i value x persist).store = some (.image { s.storedImage with
      settings := (i.write value s.storedImage.settings).getD s.storedImage.settings })) := by
  obtain ⟨⟨-, hstore, himage⟩, -⟩ := applySetting_kept h
  have him : (s.applySetting i x).storedImage = s.storedImage := by rw [storedImage, himage, storedImage]
  refine ⟨fun hp => ?_, fun hp => ?_⟩
  · rw [setDone, hp, if_neg Bool.false_ne_true, hstore]
  · rw [setDone, if_pos hp, persistSetting, writeImage, him]

/-- A SET that persists changes the store write besides, and nothing else. -/
theorem setDone_eq (s : State) (i : SettingId) (value : List Byte) (x : Settings) (persist : Bool) :
    s.setDone i value x persist = { s.applySetting i x with store := (s.setDone i value x persist).store } := by
  unfold setDone persistSetting writeImage
  cases persist <;> rfl

end State

/-- The range of a value is that of the table, whatever the other settings are. -/
theorem SettingId.write_isSome (i : SettingId) (value : List Byte) (x y : Settings) :
    (i.write value x).isSome = (i.write value y).isSome := by
  cases i <;> simp only [SettingId.write, Option.isSome_map, Option.isSome_some, within] <;> split <;> rfl

theorem setSetting_lengthOk (i : List Byte) (flags : Byte) (value : List Byte) (hi : i.length = 2) :
    Kind.setSetting.lengthOk (i ++ [flags, 0] ++ value).length = true := by
  simp [Kind.lengthOk, hi]
  omega

theorem setSetting_reservedOk {n : Nat} {flags : Byte} (h : flags = 0 ∨ flags = 1) (value : List Byte) :
    Kind.setSetting.reservedOk (leBytes 2 n ++ [flags, 0] ++ value) = true := by
  show (flagsOk flags && (0 : Byte) == 0) = true
  obtain rfl | rfl := h <;> decide

/-- A SET whose tests pass: the reply is DONE, and the state that of `setDone`. -/
theorem exec_set {s : State} {tag flags : Byte} {value : List Byte} {i : SettingId} {x : Settings} (h : s.ready)
    (hf : flags = 0 ∨ flags = 1) (hl : value.length = i.size value) (hb : i.badBits value = false)
    (hw : i.write value s.settings = some x) (hbusy : flags = 0 ∨ s.store = none)
    (hd : s.disableRefused i x = false) {body : List Byte} (hbody : leBytes 2 i.id ++ [flags, 0] ++ value = body) :
    exec (.setSetting tag body) s = .next (((s.holding ⟨0x10, tag, body⟩).setDone i value x (flags.getLsbD 0)).setReply
      (some ⟨0x90, tag, .done, [], false⟩)) := by
  have hstore : ¬ (flags.getLsbD 0 && (s.holding ⟨0x10, tag, body⟩).storeBusy) = true := by
    obtain rfl | hnone := hbusy
    · exact Bool.false_ne_true
    · have hidle : (s.holding ⟨0x10, tag, body⟩).storeBusy = false := congrArg Option.isSome hnone
      rw [hidle, Bool.and_false]
      exact Bool.false_ne_true
  have hanswer := (s.holding ⟨0x10, tag, body⟩).setSetting_eq i flags value
  rw [hbody] at hanswer
  rw [if_neg (not_not.2 hl), if_neg (by rw [hb]; exact Bool.false_ne_true)] at hanswer
  rw [show i.write value (s.holding ⟨0x10, tag, body⟩).settings = some x from hw, Option.elim_some, if_neg hstore,
    if_neg (by rw [show (s.holding ⟨0x10, tag, body⟩).disableRefused i x = false from hd]; exact Bool.false_ne_true)]
    at hanswer
  have hlength := setSetting_lengthOk (leBytes 2 i.id) flags value (leBytes_length _ _)
  have hreserved := setSetting_reservedOk (n := i.id) hf value
  rw [hbody] at hlength hreserved
  refine congrArg Host.Outcome.next ?_
  refine (State.request_ready h .setSetting tag body).trans ?_
  have howner : (s.holding ⟨0x10, tag, body⟩).answerKind .setSetting body =
      ((s.holding ⟨0x10, tag, body⟩).setDone i value x (flags.getLsbD 0)).doneNow :=
    (State.answerKind_served (s.holding _) .setSetting body h.2 hlength hreserved).trans
      hanswer
  rw [show (⟨Kind.setSetting.code, tag, body⟩ : HostFrame) = ⟨0x10, tag, body⟩ from rfl, howner]
  rfl

/-- A SET that a test refuses changes nothing. -/
theorem exec_set_refused {s : State} {tag flags : Byte} {value : List Byte} {n : Nat} {x : Status} (h : s.ready)
    (hf : flags = 0 ∨ flags = 1) (ho : ∀ f, (s.holding f).setSetting (leBytes 2 n ++ [flags, 0] ++ value) =
      (s.holding f).refuse x) : exec (.setSetting tag (leBytes 2 n ++ [flags, 0] ++ value)) s =
      .next (s.replied 0x10 tag (leBytes 2 n ++ [flags, 0] ++ value) x []) :=
  congrArg Host.Outcome.next (State.request_refused (k := .setSetting) h nofun
    (setSetting_lengthOk _ _ _ (leBytes_length _ _)) (setSetting_reservedOk hf _) (ho _))

theorem State.disableRefused_iff (s : State) (i : SettingId) (x : Settings) : s.disableRefused i x = true ↔
    ∃ a, i = .enabled a ∧ s.isEnabled a = true ∧ x.enabled.get a = false ∧ (48 ≤ s.queue.length ∨ s.clock.part = 255) := by
  cases i with
  | enabled a =>
    simp only [State.disableRefused, State.disableBlocked, Bool.and_eq_true, Bool.not_eq_true', Bool.or_eq_true,
      decide_eq_true_iff, beq_iff_eq, SettingId.enabled.injEq, exists_eq_left', and_assoc]
    rfl
  | _ => simp [State.disableRefused]

/-- A quiet setting is written, and nothing else. -/
theorem State.applySetting_quiet {s : State} {i : SettingId} {x : Settings} (h : i.quiet) :
    s.applySetting i x = { s with settings := x } := by
  cases i <;> simp only [SettingId.quiet] at h <;> rfl

/-- The reply of a link set. -/
def MessageLink.setReply (m : MessageLink) (r : Option Reply) : MessageLink := { m with reply := r }

/-- Settles O44: the tests in their order, and the state of `setDone`. -/
theorem setAnswers : Obligations.SetAnswers := by
  intro s tag flags value h hf
  refine ⟨fun n hn hi => exec_set_refused h hf fun f => ?_, fun i => ?_⟩
  · rw [List.append_assoc]
    exact State.setSetting_unknown hn hi _
  intro body refuse
  have hanswer := fun f => (s.holding f).setSetting_eq i flags value
  refine ⟨fun hl => exec_set_refused h hf fun f => ?_, fun hl hb => exec_set_refused h hf fun f => ?_, fun hl hb =>
    ⟨fun hw => exec_set_refused h hf fun f => ?_, fun x hw => ⟨fun h1 hs => exec_set_refused h hf fun f => ?_, fun hfree =>
      ⟨fun a hi he hx hq => exec_set_refused h hf fun f => ?_, fun hroom => ?_⟩⟩⟩⟩
  · rw [hanswer, if_pos hl]
  · rw [hanswer, if_neg (not_not.2 hl), if_pos hb]
  · rw [hanswer, if_neg (not_not.2 hl), if_neg (by rw [hb]; exact Bool.false_ne_true)]
    rw [show i.write value (s.holding f).settings = none from hw]
    rfl
  · rw [hanswer, if_neg (not_not.2 hl), if_neg (by rw [hb]; exact Bool.false_ne_true)]
    rw [show i.write value (s.holding f).settings = some x from hw, Option.elim_some, if_pos]
    rw [h1]
    exact Option.isSome_iff_ne_none.2 hs
  · rw [hanswer, if_neg (not_not.2 hl), if_neg (by rw [hb]; exact Bool.false_ne_true)]
    rw [show i.write value (s.holding f).settings = some x from hw, Option.elim_some]
    split
    · rfl
    · exact if_pos (((s.holding f).disableRefused_iff i x).2 ⟨a, hi, he, hx, hq⟩)
  · have hd : s.disableRefused i x = false := by
      refine Bool.eq_false_iff.2 fun hd => ?_
      obtain ⟨a, hi, he, hx, hq⟩ := (s.disableRefused_iff i x).1 hd
      obtain ⟨h1, h2⟩ := hroom a hi he hx
      omega
    have hexec := exec_set (tag := tag) h hf hl hb hw hfree hd (body := body) rfl
    obtain ⟨⟨hmsg, hstore, himage⟩, hsettings⟩ := State.applySetting_kept (s := s.holding ⟨0x10, tag, body⟩) hw
    have hwrite := State.setDone_store (s := s.holding ⟨0x10, tag, body⟩) (persist := flags.getLsbD 0) hw
    have hdone := (s.holding ⟨0x10, tag, body⟩).setDone_eq i value x (flags.getLsbD 0)
    obtain ⟨y, hy⟩ := Option.isSome_iff_exists.1
      ((i.write_isSome value s.storedImage.settings s.settings).trans (by rw [hw]; rfl))
    rw [hdone] at hexec
    generalize ((s.holding ⟨0x10, tag, body⟩).setDone i value x (flags.getLsbD 0)).store = job at hexec hwrite
    refine ⟨_, hexec, congrArg (MessageLink.setReply · (some ⟨0x90, tag, .done, [], false⟩)) hmsg, hsettings, fun h0 => ?_,
      fun h1 => ⟨_, hwrite.2 (by rw [h1]; rfl), rfl, rfl, rfl, ?_⟩, ?_, fun hq => ?_, fun c hc => ?_⟩
    · exact hwrite.1 (by rw [h0]; rfl)
    · exact hy.trans (congrArg some (congrArg (Option.getD · s.storedImage.settings) hy).symm)
    · exact Eq.mpr (congrArg (i.changesOnly s.settings) hsettings) (SettingId.write_changesOnly hw)
    · rw [State.applySetting_quiet hq]
      rfl
    · subst hc
      exact ⟨rfl, rfl⟩

end Sys2Proof.Machine
end

section
/-! PROOFS. The closes handed to the link, and the settings that act at the SET (O33, O45). -/

/- The whole text is compiled as one file: these proofs are elaborated one after another, to stay within its memory. -/
set_option Elab.async false

namespace Sys2Proof.Machine

/-! ### CLOSE pages made (R153, R155) -/

/-- The link took the CLOSE page of a close: in flight at once, or behind the others, the newest of four replaced. -/
def Tie.takesClose (x y : Tie) (page : CloseBody) : Prop :=
  (x.inFlight = none → x.closeList = [] → y.inFlight = some (.close page) ∧ y.sendCount = 1 ∧ y.closeList = [] ∧
    y.lastSent = some (Page.bytes ⟨.close page, x.sendToggle, x.partnerToggle⟩)) ∧
  (x.inFlight ≠ none → x.closeList.length < 4 → y.inFlight = x.inFlight ∧ y.closeList = x.closeList ++ [page] ∧
    y.merged = x.merged) ∧
  (x.inFlight ≠ none → x.closeList.length = 4 → y.inFlight = x.inFlight ∧ y.closeList = x.closeList.take 3 ++ [page] ∧
    y.merged = min 65535 (x.merged + 1)) ∧
  y.lastPair = some (page.index, page.part) ∧ y.holding = x.holding

/-- Sending the page in flight leaves what is in flight, listed and held. -/
theorem Tie.transmit_kept (x : Tie) : x.transmit.inFlight = x.inFlight ∧ x.transmit.closeList = x.closeList ∧
    x.transmit.merged = x.merged ∧ x.transmit.holding = x.holding := by
  obtain h | ⟨b, -, -, h⟩ := x.transmit_cases <;> rw [h] <;> exact ⟨rfl, rfl, rfl, rfl⟩

theorem Tie.closeDue_flying {x : Tie} (h : x.inFlight ≠ none) (b : CloseBody) : x.closeDue b =
    if x.closeList.length < 4 then { x with closeList := x.closeList ++ [b] }
    else { x with closeList := x.closeList.take 3 ++ [b], merged := bump x.merged } := by
  have hno : ¬ (x.inFlight.isNone && x.closeList.isEmpty) = true := by simp [h]
  rw [closeDue, if_neg hno]

theorem Tie.closeDue_idle {x : Tie} (h : x.inFlight = none) (hl : x.closeList = []) (b : CloseBody) :
    x.closeDue b = { x with inFlight := some (.close b), sendCount := 0 } := if_pos (by simp [h, hl])

theorem Tie.closeDue_holding (x : Tie) (b : CloseBody) : (x.closeDue b).holding = x.holding := by
  unfold closeDue
  repeat' split
  all_goals rfl

theorem Tie.takesClose_of {x y : Tie} {page : CloseBody}
    (h : y = { (x.closeDue page).transmit with lastPair := some (page.index, page.part) }) : x.takesClose y page := by
  subst h
  obtain ⟨hflight, hlist, hmerged, hholding⟩ := (x.closeDue page).transmit_kept
  refine ⟨fun hf hl => ?_, fun hf hl => ?_, fun hf hl => ?_, rfl, hholding.trans (x.closeDue_holding page)⟩
  · rw [x.closeDue_idle hf hl]
    exact ⟨rfl, rfl, hl, rfl⟩
  · rw [x.closeDue_flying hf, if_pos hl] at hflight hlist hmerged ⊢
    exact ⟨hflight, hlist, hmerged⟩
  · rw [x.closeDue_flying hf, if_neg (by omega)] at hflight hlist hmerged ⊢
    exact ⟨hflight, hlist, hmerged.trans (bump_eq _)⟩

namespace State

/-- A primary unit hands each close of its clock to the link (R155). -/
theorem handed_takes {s : State} (h : s.tie.state = .pairedPrimary) (reason : Option CloseReason) :
    s.tie.takesClose (s.handed reason).tie ⟨s.clock.index, s.clock.part, reason⟩ := by
  rw [handed_primary h]
  exact Tie.takesClose_of rfl

/-- The path's partial close is handed with its reason. -/
theorem enterClosing_takes {s : State} (h : s.tie.state = .pairedPrimary) (p : Path) :
    s.tie.takesClose (s.enterClosing p).tie ⟨s.clock.index, s.clock.part, some p.reason⟩ := by
  have htie : (s.enterClosing p).tie = ((s.closingOn p).handed (some p.reason)).tie := by
    have hc := (s.closingOn p).partialClose_eq (s.closingOn p).enabledAccounts .localPartial p.reason (Path.reason_ne_disable p)
    have hd : s.closedOn p = (s.closingOn p).partialClose (s.closingOn p).enabledAccounts .localPartial p.reason := rfl
    rw [enterClosing_eq, hd, hc]
  rw [htie]
  exact handed_takes (s := s.closingOn p) h (some p.reason)

/-! ### An account disabled (R108) -/

theorem partialFormed_one {s : State} (hq : s.queue.length < 48) (hp : s.clock.part < 255) (a : Fin 16) :
    s.partialFormed [a] = [a] := by
  have hplaces : 1 ≤ s.partialPlaces := by
    unfold partialPlaces
    simp only [Config.queuePlaces]
    split <;> omega
  exact List.take_of_length_le hplaces

/-- An enabled account is closed as PARTIAL with reason disable. -/
theorem disable_spec {s : State} {a : Fin 16} (he : s.isEnabled a = true) (hq : s.queue.length < 48) (hp : s.clock.part < 255) :
    (s.disable a).queue = s.queue ++ [.interval (s.formRecord a .localPartial (some .disable))] ∧
    (s.accounts.get a).resetTo ((s.disable a).accounts.get a) s.clock.index (s.clock.part + 1)
      (s.startFlags a s.clock.aligned) (s.settings.orderMask.get a) ∧
    (∀ b, b ≠ a → (s.disable a).accounts.get b = s.accounts.get b) ∧
    (s.disable a).clock = { s.clock with part := s.clock.part + 1 } ∧
    (s.disable a).notices.latched.getLsbD 16 = true := by
  have hform := partialFormed_one hq hp a
  have hpart : s.partAfter [a] = s.clock.part + 1 := rfl
  rw [disable, partialClose_disable, hform, hpart]
  refine ⟨?_, ?_, fun b hb => ?_, rfl, ?_⟩
  · exact (settleClose_queue ..).trans rfl
  · show (s.accounts.get a).resetTo ((s.notePair.settleClose [a] [a] .localPartial (some .disable) s.clock.index
      (s.clock.part + 1) s.clock.aligned false).accounts.get a) _ _ _ _
    rw [settleClose_get, if_pos (by simp)]
    have hflags : IntervalFlags.atStart (!s.clock.aligned) (s.notePair.isEnabled a && s.notePair.peerMissing a) =
        s.startFlags a s.clock.aligned := by
      rw [show s.notePair.isEnabled a = true from he]
      rfl
    rw [hflags]
    exact Account.afterClose_resetTo ..
  · show (s.notePair.settleClose [a] [a] .localPartial (some .disable) s.clock.index
      (s.clock.part + 1) s.clock.aligned false).accounts.get b = _
    rw [settleClose_get, if_neg (by simpa using hb), if_neg (by simpa using hb)]
    rfl
  · show (s.notePair.settleClose [a] [a] .localPartial (some .disable) s.clock.index
      (s.clock.part + 1) s.clock.aligned false).notices.latched.getLsbD 16 = true
    rw [settleClose_latched]
    simp

end State

theorem disable_write (a : Fin 16) (x : Settings) : (SettingId.enabled a).write [0] x =
    some { x with enabled := x.enabled.put a false } := rfl

/-- A SET that disables an enabled account, with a place for its record. -/
theorem exec_disable {s : State} {tag flags : Byte} {a : Fin 16} (h : s.ready) (hf : flags = 0 ∨ flags = 1)
    (hbusy : flags = 0 ∨ s.store = none) (he : s.isEnabled a = true) (hq : s.queue.length < 48)
    (hp : s.clock.part < 255) {body : List Byte} (hbody : leBytes 2 (SettingId.enabled a).id ++ [flags, 0] ++ [0] = body) :
    exec (.setSetting tag body) s = .next (({ (s.holding ⟨0x10, tag, body⟩).disable a with
      store := ((s.holding ⟨0x10, tag, body⟩).setDone (.enabled a) [0]
        { s.settings with enabled := s.settings.enabled.put a false } (flags.getLsbD 0)).store }).setReply
        (some ⟨0x90, tag, .done, [], false⟩)) := by
  have hd : s.disableRefused (.enabled a) { s.settings with enabled := s.settings.enabled.put a false } = false := by
    refine Bool.eq_false_iff.2 fun hd => ?_
    obtain ⟨b, hi, -, -, hno⟩ := (s.disableRefused_iff _ _).1 hd
    omega
  have hset := exec_set (tag := tag) h hf rfl rfl (disable_write a s.settings) hbusy hd hbody
  have happly : (s.holding ⟨0x10, tag, body⟩).applySetting (.enabled a)
      { s.settings with enabled := s.settings.enabled.put a false } = (s.holding ⟨0x10, tag, body⟩).disable a := by
    have hen : (s.holding ⟨0x10, tag, body⟩).isEnabled a = true := he
    rw [State.applySetting]
    dsimp only
    rw [Table.get_put_same, State.changeEnabled, hen]
    rfl
  rw [State.setDone_eq, happly] at hset
  exact hset

/-- Settles O33: each close is handed to the link with the clock's pair. -/
theorem closesAreHanded : Obligations.ClosesAreHanded := by
  intro s t c reason ha hp hc hexec page
  have hns : s.tie.state ≠ .pairedSecondary := by rw [hp]; nofun
  have hnext : ∀ {u : State}, exec c s = .next u → u = t := fun hu => Host.Outcome.next.inj (hu.symm.trans hexec)
  have hrun : ∀ (f : State → State), s.whenAlive f = f s := fun f => State.whenAlive_running s f ha
  have htakes : s.tie.takesClose t.tie page := by
    obtain ⟨rfl, rfl, ho, hr, hpos⟩ | ⟨rfl, rfl, ho, hal, hw⟩ | ⟨rfl, rfl, ho, hal, hcontent⟩ |
      ⟨tag, body, rfl, rfl, hready, hlen, hi, hl, hcontent⟩ | ⟨tag, rfl, rfl, hready⟩ | ⟨rfl, rfl, ho⟩ |
      ⟨f, r, rfl, rfl, ho, hm, hr⟩ := hc
    · have hdue : s.closeDue = true := s.closeDue_iff.2 ⟨ho, hr, hpos, hns⟩
      rw [← hnext (congrArg Host.Outcome.next ((hrun _).trans (State.clockMade_due hdue))), State.normalClose_tie]
      exact State.handed_takes hp none
    · have hpulse : s.syncPulse = s.normalClose .syncMade true false := by
        rw [State.syncPulse_eq ho hns, if_neg (by rw [hal]; nofun)]
        exact if_pos hw
      rw [← hnext (congrArg Host.Outcome.next ((hrun _).trans hpulse)), State.normalClose_tie]
      exact State.handed_takes hp none
    · have hpulse := (State.syncPulse_eq ho hns).trans ((if_pos hal).trans (State.syncAlign_full hcontent))
      obtain ⟨-, -, htie, -⟩ := s.syncClosed_spec (s.syncPair (s.partAfter (s.enabledAccounts.take s.partialCount)))
      rw [← hnext (congrArg Host.Outcome.next ((hrun _).trans hpulse)), htie]
      exact State.handed_takes hp (some .sync)
    · have hok : Kind.align.lengthOk body.length = true := by rw [hlen]; rfl
      have hanswer := State.request_replied (k := .align) (tag := tag) hready nofun hok rfl (State.align_eq hi hl hns _)
      rw [← hnext (congrArg Host.Outcome.next hanswer)]
      show s.tie.takesClose ((s.alignTo (field body 0 4) (field body 4 4)).renumber s).tie page
      rw [State.aligned_full hcontent, State.realigned_tie]
      exact State.handed_takes hp (some .align)
    · have hanswer := State.request_replied (k := .closeNow) (tag := tag) (body := []) hready nofun rfl rfl (State.closeNow_eq hns _)
      rw [← hnext (congrArg Host.Outcome.next hanswer)]
      show s.tie.takesClose (s.normalClose .closeNow false false).tie page
      rw [State.normalClose_tie]
      exact State.handed_takes hp none
    · have hfail : exec .powerFailAssert s = .next ((s.setWarning true).enterClosing .powerFail) := by
        have hx : exec .powerFailAssert s = .next ((s.setWarning true).whenAlive State.powerFail) := rfl
        rw [hx, State.whenAlive_running (s.setWarning true) _ ha, State.powerFail, show (s.setWarning true).op = .running from ho]
        rfl
      rw [← hnext hfail]
      exact State.enterClosing_takes (s := s.setWarning true) hp .powerFail
    · rw [← hnext (State.exec_replySent_restart ha hm hr)]
      exact State.enterClosing_takes hp .restart
  obtain ⟨hidle, hbehind, hfull, hpair, hholding⟩ := htakes
  refine ⟨hidle, hbehind, hfull, hpair, hholding, fun tag a u hready he hq hpart hset => ?_⟩
  rw [← Host.Outcome.next.inj ((exec_disable (flags := 0) hready (.inl rfl) (.inl rfl) he hq hpart rfl).symm.trans hset)]
  generalize State.store _ = job
  rw [State.disable_eq]
  exact ⟨Table.get_put_same _ _ _, rfl⟩

end Sys2Proof.Machine
end

section
/-! PROOFS. The tie link's states, attempts and timers (O52). -/

/- The whole text is compiled as one file: these proofs are elaborated one after another, to stay within its memory. -/
set_option Elab.async false

namespace Sys2Proof.Machine

/-! ### The link entering DOWN or OFF (R143, R145) -/

theorem Tie.windowsHeld_eq (x : Tie) : x.windowsHeld = flightWindows x.inFlight + holdingWindows x.holding := by
  unfold windowsHeld
  rcases x.inFlight with _ | b
  · rcases x.holding with _ | y <;> rfl
  · cases b <;> rcases x.holding with _ | y <;> rfl

theorem Tie.abandon_dropped (x : Tie) (state : TieState) : x.dropped (x.abandon state) state := by
  refine ⟨rfl, rfl, rfl, rfl, rfl, rfl, rfl, rfl, rfl, rfl, rfl, fun h => ?_, rfl, rfl, rfl, rfl, rfl, rfl⟩
  rw [x.windowsHeld_eq]
  simp only [Tie.abandon, satAdd, Config.max16]
  omega

namespace State

/-- The conditions of trackers and lanes do not look at the link. -/
theorem presentBad_low {s t : State} (htr : t.trackers = s.trackers := by rfl) (hl : t.lanes = s.lanes := by rfl)
    (hs : t.settings.scale = s.settings.scale := by rfl) {i : Nat} (hi : i < 3) :
    t.presentBad.getLsbD i = s.presentBad.getLsbD i := by
  obtain ⟨h0, h1, h2, -⟩ := s.presentBad_getLsbD
  obtain ⟨k0, k1, k2, -⟩ := t.presentBad_getLsbD
  have htrack : ∀ v, t.trackBad v = s.trackBad v := fun v => by unfold trackBad; rw [htr]
  have hlanes : t.lanesBad = s.lanesBad := by unfold lanesBad laneUsed; rw [hl, hs]
  interval_cases i
  · rw [k0, h0, htrack]
  · rw [k1, h1, htrack]
  · rw [k2, h2, hlanes]

theorem presentBad_link (s : State) : s.presentBad.getLsbD 3 = s.linkBad := s.presentBad_getLsbD.2.2.2

theorem linkBad_iff (s : State) : s.linkBad = true ↔
    s.tie.state = .down ∨ s.tie.state = .solo ∨ s.tie.state = .roleFault := by
  unfold linkBad
  cases s.tie.state <;> simp

theorem tieChanged_eq (s : State) : s.tieChanged = { s with
    accounts := s.testPeers.accounts, notices := { s.notices with lows := s.notices.lows ||| s.testPeers.presentBad } } := rfl

/-- What the tests at a change of the link state make of accounts and notices (R54, R174). -/
theorem tieChanged_follows (s : State) (x : Tie) : s.tieFollows ({ s with tie := x } : State).tieChanged := by
  have hget : ∀ a, ({ s with tie := x } : State).testPeers.accounts.get a =
      if s.isEnabled a = true ∧ ({ s with tie := x } : State).peerMissing a = true then
        { s.accounts.get a with flags := { (s.accounts.get a).flags with incomplete := true } }
      else s.accounts.get a := fun a =>
    (({ s with tie := x } : State).testPeers_get a).trans (if_congr Bool.and_eq_true_iff rfl rfl)
  have hlow : ∀ i, i < 3 → ({ s with tie := x } : State).testPeers.presentBad.getLsbD i = s.presentBad.getLsbD i :=
    fun i hi => presentBad_low (hi := hi)
  have hlink : x.state = .down ∨ x.state = .solo ∨ x.state = .roleFault →
      ({ s with tie := x } : State).testPeers.presentBad.getLsbD 3 = true := fun h => by
    rw [presentBad_link]
    exact (linkBad_iff _).2 h
  rw [tieChanged_eq]
  generalize ({ s with tie := x } : State).testPeers.accounts = y at hget ⊢
  generalize ({ s with tie := x } : State).testPeers.presentBad = z at hlow hlink ⊢
  refine ⟨hget, fun h => ?_, fun i _ h => ?_, fun i hi h => ?_, rfl, rfl⟩
  · rw [BitVec.getLsbD_or, hlink h, Bool.or_true]
  · rw [BitVec.getLsbD_or, h, Bool.true_or]
  · rw [BitVec.getLsbD_or, Bool.or_eq_true, hlow i hi] at h
    exact h

/-- Later changes of the link and the draws keep what the change of its state made. -/
theorem tieFollows_congr {s t : State} (h : s.tieFollows t) (x : Tie) (n : Nat) (hx : x.state = t.tie.state) :
    s.tieFollows { t with tie := x, draws := n } := by
  obtain ⟨hacc, hlink, hkept, hbad, hnotices, hrest⟩ := h
  refine ⟨fun a => ?_, fun hs => hlink ?_, hkept, hbad, hnotices, hrest⟩
  · have hpeer : ({ t with tie := x, draws := n } : State).peerMissing a = t.peerMissing a := by
      unfold peerMissing
      rw [← hx]
    rw [hpeer]
    exact hacc a
  · rw [← hx]
    exact hs

theorem enterDown_follows (s : State) : s.tieFollows s.enterDown := s.tieChanged_follows _

theorem enterTie_follows (s : State) (x : TieState) : s.tieFollows (s.enterTie x) := s.tieChanged_follows _

/-! ### Attempts (R146) -/

theorem nextSeed_range (s : State) : 1 ≤ s.nextSeed ∧ s.nextSeed ≤ 65535 :=
  ⟨Nat.le_add_left 1 _, (Config.seedDraw s.draws).isLt⟩

end State

/-- An attempt begun on link `x`, with the partner's pages as given: the unit's ROLE of it is due (R146). -/
def Tie.attemptOn (x : Tie) (n seed : Nat) (p : Preference) (partner : Option RoleBody) (confirm : Option ConfirmBody) :
    Tie :=
  { x.beginAttempt n seed p with
    partnerRole := partner, partnerSeed := partner.elim 0 RoleBody.seed, partnerConfirm := confirm }

theorem Tie.attemptOn_plain (x : Tie) (n seed : Nat) (p : Preference) :
    x.attemptOn n seed p none none = x.beginAttempt n seed p := by
  unfold attemptOn beginAttempt Tie.roleDue
  cases x.inFlight <;> rfl

theorem Tie.attemptOn_idle {x : Tie} (h : x.inFlight = none) (n seed : Nat) (p : Preference) (partner : Option RoleBody)
    (confirm : Option ConfirmBody) : (x.attemptOn n seed p partner confirm).transmit =
      { x with
        attempt := n, ownSeed := seed, partnerSeed := partner.elim 0 RoleBody.seed, ownRole := some ⟨p, seed, n⟩
        ownRoleAcked := false, partnerRole := partner, resolved := none, confirmAcked := false, partnerConfirm := confirm
        inFlight := some (.role ⟨p, seed, n⟩), sendCount := 1
        lastSent := (x.attemptOn n seed p partner confirm).transmit.lastSent } := by
  unfold attemptOn beginAttempt Tie.roleDue
  dsimp only
  rw [h]
  rfl

theorem Tie.attemptOn_flying {x : Tie} {b : PageBody} (h : x.inFlight = some b) (n seed : Nat) (p : Preference)
    (partner : Option RoleBody) (confirm : Option ConfirmBody) : (x.attemptOn n seed p partner confirm).transmit =
      { x with
        attempt := n, ownSeed := seed, partnerSeed := partner.elim 0 RoleBody.seed, ownRole := some ⟨p, seed, n⟩
        ownRoleAcked := false, partnerRole := partner, resolved := none, confirmAcked := false, partnerConfirm := confirm
        roleList := x.roleList ++ [.role ⟨p, seed, n⟩], sendCount := if x.sendCount = 0 then 1 else x.sendCount
        lastSent := (x.attemptOn n seed p partner confirm).transmit.lastSent } := by
  have hb : x.attemptOn n seed p partner confirm = { x with
      attempt := n, ownSeed := seed, partnerSeed := partner.elim 0 RoleBody.seed, ownRole := some ⟨p, seed, n⟩
      ownRoleAcked := false, partnerRole := partner, resolved := none, confirmAcked := false, partnerConfirm := confirm
      roleList := x.roleList ++ [.role ⟨p, seed, n⟩] } := by
    unfold attemptOn beginAttempt Tie.roleDue
    dsimp only
    rw [h]
  rw [hb, Tie.transmit]
  dsimp only
  rw [h]
  dsimp only
  split
  · rfl
  · rfl

namespace State

/-- An attempt begun is that of `attemptBegan`, and the rest of the link is kept. -/
theorem attemptBegan_of {s t : State} {x : Tie} {n seed : Nat} {partner : Option RoleBody} {confirm : Option ConfirmBody}
    (ht : t.tie = (x.attemptOn n seed s.settings.preference partner confirm).transmit) (hx : x.state = .resolving)
    (hseed : 1 ≤ seed ∧ seed ≤ 65535) :
    s.attemptBegan t n partner confirm x.inFlight x.roleList ∧ x.keepsRest t.tie ∧ t.tie.state = .resolving ∧
      t.tie.partnerToggle = x.partnerToggle ∧
      ∀ b, x.inFlight = some b → 0 < x.sendCount → t.tie.sendCount = x.sendCount := by
  obtain ⟨h1, h2⟩ := hseed
  unfold attemptBegan
  rw [ht]
  cases h : x.inFlight with
  | none =>
    rw [Tie.attemptOn_idle h]
    exact ⟨⟨hx, rfl, h1, h2, rfl, rfl, rfl, rfl, rfl, by cases partner <;> rfl, rfl, fun _ => ⟨rfl, rfl, rfl⟩, nofun⟩,
      ⟨rfl, rfl, rfl, rfl, rfl, rfl, rfl, rfl, rfl⟩, hx, rfl, nofun⟩
  | some b =>
    rw [Tie.attemptOn_flying h]
    refine ⟨⟨hx, rfl, h1, h2, rfl, rfl, rfl, rfl, rfl, by cases partner <;> rfl, rfl, nofun, fun c hc => ⟨h.trans hc, rfl⟩⟩,
      ⟨rfl, rfl, rfl, rfl, rfl, rfl, rfl, rfl, rfl⟩, hx, rfl, fun c hc hs => if_neg (by omega)⟩

/-- An attempt that begins, its page sent. -/
theorem beginAttempt_sent (s : State) (n : Nat) : (s.beginAttempt n).transmit =
    { s with tie := (s.tie.attemptOn n s.nextSeed s.settings.preference none none).transmit, draws := s.draws + 1 } := by
  rw [Tie.attemptOn_plain]
  rfl

theorem enterSolo_sent {s : State} : s.enterSolo.tie.transmit.inFlight = s.tie.inFlight ∧
    s.enterSolo.tie.transmit.state = .solo := by
  have htie : s.enterSolo.tie = { s.tie with roleList := [], state := .solo } := by
    rw [enterSolo, enterTie_tie]
    rfl
  obtain ⟨hflight, -⟩ := s.enterSolo.tie.transmit_kept
  rw [hflight, Tie.transmit_state, htie]
  exact ⟨rfl, rfl⟩

theorem enterSolo_follows (s : State) : s.tieFollows s.enterSolo := s.tieChanged_follows _

theorem transmit_follows {s t : State} (h : s.tieFollows t) : s.tieFollows t.transmit :=
  tieFollows_congr h t.tie.transmit t.draws t.tie.transmit_state

theorem tieSends_iff (s : State) : s.tieSends = true ↔ s.tie.state ≠ .off ∧ s.op ≠ .starting := by
  simp [tieSends]

end State

/-- Settles O52: each timer by its condition. -/
theorem tieTimersAct : Obligations.TieTimersAct := by
  intro s ha
  have hrun : ∀ f : State → State, s.whenAlive f = f s := fun f => State.whenAlive_running s f ha
  have hresend : ∀ {t}, s.resendTimer = t → exec .tieResendTimer s = .next t := fun h =>
    congrArg Host.Outcome.next ((hrun _).trans h)
  have hidle : ∀ {t}, s.idlePage = t → exec .idlePageSend s = .next t := fun h => congrArg Host.Outcome.next ((hrun _).trans h)
  have hsilence : ∀ {t}, s.silence = t → exec .silenceTimeout s = .next t := fun h =>
    congrArg Host.Outcome.next ((hrun _).trans h)
  have hattempt : ∀ {t}, s.attemptTimeout = t → exec .roleAttemptTimeout s = .next t := fun h =>
    congrArg Host.Outcome.next ((hrun _).trans h)
  have hdown : s.tie.dropped s.enterDown.tie .down := by
    rw [State.enterDown_tie]
    exact s.tie.abandon_dropped .down
  refine ⟨fun b hb h1 h4 => hresend ?_, fun b hb h5 => ⟨_, hresend ?_, hdown, s.enterDown_follows⟩, fun hno => hresend ?_,
    fun hoff ho => hidle ?_, fun hno => hidle ?_, fun hoff hd ho => ⟨_, hsilence ?_, hdown, s.enterDown_follows⟩,
    fun hno => hsilence ?_, fun hr hlt => ?_, fun hr h3 => ⟨s.enterSolo.transmit, hattempt ?_, ?_⟩, fun hno => hattempt ?_⟩
  · have hdue : s.tie.resendDue = true := by simp [Tie.resendDue, hb]; omega
    have hsend : s.tie.resend = { s.tie with
        sendCount := s.tie.sendCount + 1, lastSent := some (s.tie.render b s.tie.sendToggle) } := by
      simp only [Tie.resend, hb]
    rw [State.resendTimer, hdue, if_neg (by simp), if_pos (by omega), State.onTie, hsend, State.countResent, bump_eq]
    rfl
  · have hdue : s.tie.resendDue = true := by simp [Tie.resendDue, hb]; omega
    rw [State.resendTimer, hdue, if_neg (by simp), if_neg (by omega)]
  · have hdue : s.tie.resendDue = false := by simp [Tie.resendDue, hno]
    rw [State.resendTimer, hdue]
    rfl
  · exact if_pos (s.tieSends_iff.2 ⟨hoff, ho⟩)
  · exact if_neg fun h => hno.elim (s.tieSends_iff.1 h).1 (s.tieSends_iff.1 h).2
  · exact if_pos (Bool.and_eq_true_iff.2 ⟨s.tieSends_iff.2 ⟨hoff, ho⟩, bne_iff_ne.2 hd⟩)
  · refine if_neg fun h => ?_
    obtain ⟨h1, h2⟩ := Bool.and_eq_true_iff.1 h
    exact hno.elim (s.tieSends_iff.1 h1).1 (bne_iff_ne.1 h2)
  · have hfail : s.attemptTimeout = (s.beginAttempt (s.tie.attempt + 1)).transmit := by
      rw [State.attemptTimeout, if_pos (beq_iff_eq.2 hr), State.failAttempt, if_pos hlt]
    rw [State.beginAttempt_sent] at hfail
    obtain ⟨hbegan, hrest, -, -, hcount⟩ := State.attemptBegan_of (s := s) (x := s.tie)
      (t := { s with tie := (s.tie.attemptOn (s.tie.attempt + 1) s.nextSeed s.settings.preference none none).transmit
                     draws := s.draws + 1 }) rfl hr s.nextSeed_range
    exact ⟨_, hattempt hfail, hbegan, rfl, hcount, hrest, rfl⟩
  · rw [State.attemptTimeout, if_pos (beq_iff_eq.2 hr), State.failAttempt, if_neg (by omega)]
  · obtain ⟨hflight, hsolo⟩ := State.enterSolo_sent (s := s)
    exact ⟨hsolo, hflight, State.transmit_follows s.enterSolo_follows⟩
  · exact if_neg fun h => hno (beq_iff_eq.1 h)

end Sys2Proof.Machine
end

section
/-! PROOFS. The settings that act at the SET (O45). -/

/- The whole text is compiled as one file: these proofs are elaborated one after another, to stay within its memory. -/
set_option Elab.async false

namespace Sys2Proof.Machine
namespace State

theorem applySetting_enabled (s : State) (a : Fin 16) (b : Bool) :
    s.applySetting (.enabled a) { s.settings with enabled := s.settings.enabled.put a b } = s.changeEnabled a b := by
  rw [applySetting]
  dsimp only
  rw [Table.get_put_same]

/-- What the reclaim test in any operating state can change (R121, R138). -/
theorem reclaimTestRunning_eq (s : State) : s.reclaimTestRunning =
    { s with
      archive := s.reclaimTestRunning.archive, notices := s.reclaimTestRunning.notices
      nv := s.reclaimTestRunning.nv } := by
  unfold reclaimTestRunning
  cases s.closing
  · have h := s.reclaimTest_eq
    generalize s.reclaimTest = t at h
    generalize t.nv.segments = x at h
    rw [if_neg Bool.false_ne_true, h]
  · rw [if_pos rfl]
    unfold reclaimTestHeld
    split
    · rfl
    · split
      · rfl
      · split
        · rfl
        · unfold becomeHeld
          cases s.archive.heldInd <;> rfl

/-- A reclaim test reads the archive, its segments, the policy and the operating state. -/
theorem reclaimTested_after {s t u : State} (h : s.reclaimTested t) (ha : u.archive = t.archive := by rfl)
    (hn : u.nv = t.nv := by rfl) (hx : u.notices = t.notices := by rfl) : s.reclaimTested u := by
  unfold reclaimTested becameHeld at *
  rw [ha, hn, hx]
  exact h

end State

/-- A SET of a one-byte value was taken and answered, with the store write of it where it persists (R179, R181). -/
def State.settingTaken (s t : State) (tag flags v : Byte) (i : SettingId) : Prop :=
  exec (.setSetting tag (leBytes 2 i.id ++ [flags, 0] ++ [v])) s = .next t ∧
  ((flags = 0 → t.store = s.store) ∧
    (flags = 1 → ∃ im, t.store = some (.image im) ∧ i.write [v] s.storedImage.settings = some im.settings ∧
      { im with settings := s.storedImage.settings } = s.storedImage)) ∧
  t.msg = (s.replied 0x10 tag (leBytes 2 i.id ++ [flags, 0] ++ [v]) .done []).msg ∧
  i.write [v] s.settings = some t.settings

/-- A SET of a one-byte value leaves the state of its owner's rule. -/
theorem set_taken {s : State} {tag flags v : Byte} {i : SettingId} {x : Settings} (h : s.ready)
    (hf : flags = 0 ∨ (flags = 1 ∧ s.store = none)) (hl : i.size [v] = 1) (hb : i.badBits [v] = false)
    (hw : i.write [v] s.settings = some x) (hd : s.disableRefused i x = false) :
    ∃ (f : HostFrame) (job : Option StoreJob) (m : MessageLink),
      s.settingTaken { (s.holding f).applySetting i x with store := job, msg := m } tag flags v i := by
  obtain ⟨body, hbody⟩ : ∃ body, leBytes 2 i.id ++ [flags, 0] ++ [v] = body := ⟨_, rfl⟩
  have hflags : flags = 0 ∨ flags = 1 := hf.imp_right And.left
  have hexec := exec_set (tag := tag) (value := [v]) h hflags hl.symm hb hw (hf.imp_right And.right) hd hbody
  obtain ⟨⟨hmsg, hstore, himage⟩, hsettings⟩ := State.applySetting_kept (s := s.holding ⟨0x10, tag, body⟩) hw
  have hwrite := State.setDone_store (s := s.holding ⟨0x10, tag, body⟩) (persist := flags.getLsbD 0) hw
  have hdone := (s.holding ⟨0x10, tag, body⟩).setDone_eq i [v] x (flags.getLsbD 0)
  obtain ⟨y, hy⟩ := Option.isSome_iff_exists.1
    ((i.write_isSome [v] s.storedImage.settings s.settings).trans (by rw [hw]; rfl))
  rw [hdone] at hexec
  generalize ((s.holding ⟨0x10, tag, body⟩).setDone i [v] x (flags.getLsbD 0)).store = job at hexec hwrite
  unfold State.settingTaken
  rw [hbody]
  refine ⟨⟨0x10, tag, body⟩, job, _, hexec, ⟨fun h0 => hwrite.1 (by rw [h0]; rfl), fun h1 =>
    ⟨_, hwrite.2 (by rw [h1]; rfl), ?_, rfl⟩⟩, ?_, ?_⟩
  · exact hy.trans (congrArg some (congrArg (Option.getD · s.storedImage.settings) hy).symm)
  · exact congrArg (MessageLink.setReply · (some ⟨0x90, tag, .done, [], false⟩)) hmsg
  · rw [hsettings]
    exact hw

namespace State

/-! ### What the owner of each setting does -/

theorem changeEnabled_disable {s : State} {a : Fin 16} (h : s.isEnabled a = true) : s.changeEnabled a false = s.disable a :=
  if_pos (by rw [h]; rfl)

theorem changeEnabled_enable {s : State} {a : Fin 16} (h : s.isEnabled a = false) : s.changeEnabled a true = s.enable a :=
  (if_neg (by rw [h]; exact Bool.false_ne_true)).trans (if_pos (by rw [h]; rfl))

/-- Settings that leave the enabled marks and the scales do not matter to what a link change makes. -/
theorem tieFollows_settings {s t : State} {f : HostFrame} {x : Settings} (he : x.enabled = s.settings.enabled)
    (hs : x.scale = s.settings.scale) (h : ({ s.holding f with settings := x } : State).tieFollows t) :
    s.tieFollows { t with settings := s.settings, store := s.store, msg := s.msg } := by
  obtain ⟨hacc, hlink, hkept, hbad, hnotices, hrest⟩ := h
  refine ⟨fun a => ?_, hlink, hkept, fun i hi hl => ?_, hnotices, ?_⟩
  · refine (hacc a).trans (if_congr ?_ rfl rfl)
    exact and_congr_left' (iff_of_eq (congrArg (fun e : Table Bool 16 => e.get a = true) he))
  · refine (hbad i hi hl).imp_right fun hb => ?_
    rwa [presentBad_low (s := s) (t := ({ s.holding f with settings := x } : State)) rfl rfl hs hi] at hb
  · exact congrArg (fun y : State => ({ y with settings := s.settings, store := s.store, msg := s.msg } : State)) hrest

theorem enterOff_lows (s : State) : s.enterOff.notices.lows.getLsbD 3 = s.notices.lows.getLsbD 3 := by
  have hgood : (s.onTie (·.abandon .off)).testPeers.presentBad.getLsbD 3 = false := presentBad_link _
  rw [enterOff, tieChanged_eq]
  show (s.notices.lows ||| (s.onTie (·.abandon .off)).testPeers.presentBad).getLsbD 3 = _
  rw [BitVec.getLsbD_or, hgood, Bool.or_false]

theorem enterDown_lows (s : State) : s.enterDown.notices.lows.getLsbD 3 = true := by
  obtain ⟨-, hlink, -⟩ := s.enterDown_follows
  exact hlink (.inl (by rw [enterDown_tie]; rfl))

end State

theorem Tie.attemptOn_sent (x : Tie) (n seed : Nat) (p : Preference) (partner : Option RoleBody)
    (confirm : Option ConfirmBody) :
    (x.attemptOn n seed p partner confirm).transmit.state = x.state ∧
    (x.attemptOn n seed p partner confirm).transmit.attempt = n ∧
    (x.attemptOn n seed p partner confirm).transmit.ownSeed = seed ∧
    (x.attemptOn n seed p partner confirm).transmit.ownRole = some ⟨p, seed, n⟩ ∧
    (x.attemptOn n seed p partner confirm).transmit.partnerRole = partner := by
  cases h : x.inFlight with
  | none =>
    rw [Tie.attemptOn_idle h]
    exact ⟨rfl, rfl, rfl, rfl, rfl⟩
  | some b =>
    rw [Tie.attemptOn_flying h]
    exact ⟨rfl, rfl, rfl, rfl, rfl⟩

namespace State

/-- RESOLVING entered: attempt 1 begins, its page sent (R144, R149). -/
theorem beginResolving_sent (s : State) : s.beginResolving.transmit =
    { s.enterTie .resolving with
      tie := (({ s.tie with state := .resolving } : Tie).attemptOn 1 s.nextSeed s.settings.preference none none).transmit
      draws := s.draws + 1 } := by
  have hseed : (s.enterTie .resolving).nextSeed = s.nextSeed := by rw [nextSeed, enterTie_draws, nextSeed]
  have hsettings := s.enterTie_settings .resolving
  have htie := s.enterTie_tie .resolving
  have hdraws := s.enterTie_draws .resolving
  rw [beginResolving, beginAttempt_sent, hseed]
  generalize s.enterTie .resolving = u at *
  rw [htie, hdraws, ← hsettings]

theorem enterTie_rest (s : State) (x : TieState) : s.enterTie x =
    { s with
      accounts := (s.enterTie x).accounts, notices := (s.enterTie x).notices, tie := { s.tie with state := x } } := by
  have h := (s.onTie fun t => { t with state := x }).tieChanged_eq
  have hd : s.enterTie x = (s.onTie fun t => { t with state := x }).tieChanged := rfl
  rw [← hd] at h
  generalize s.enterTie x = t at h
  rw [h]
  rfl

theorem changePreference_resolves {s : State} {old : Preference} (hp : s.settings.preference ≠ old)
    (h : s.tie.state = .resolving ∨ s.tie.state = .solo ∨ s.tie.state = .roleFault) :
    s.changePreference old = s.beginResolving.transmit := by
  have hne : ¬ (s.settings.preference == old) = true := fun h0 => hp (beq_iff_eq.1 h0)
  rw [changePreference, if_neg hne]
  obtain h | h | h := h <;> rw [h]

theorem attentionLine_level_iff {s : State} (ha : s.stopped = false) (h : s.settings.attentionMode = .level) :
    s.attentionLine = true ↔ s.notices.latched &&& ~~~s.settings.noticeMask ≠ 0 := by
  unfold attentionLine
  rw [ha, h]
  simp

end State

namespace State

variable {s : State} {tag flags v : Byte}

theorem setLength_taken (h : s.ready) (hf : flags = 0 ∨ (flags = 1 ∧ s.store = none))
    (hv : v = 5 ∨ v = 10 ∨ v = 15 ∨ v = 30 ∨ v = 60) : ∃ t : State, s.settingTaken t tag flags v .intervalLength ∧
      t.clock = { s.clock with pendingLength := if v.toNat = s.clock.length then none else some v.toNat } ∧
      { t with settings := s.settings, clock := s.clock, store := s.store, msg := s.msg } = s := by
  have hlen : isLength (ofLe [v]) = true := by obtain rfl | rfl | rfl | rfl | rfl := hv <;> rfl
  obtain ⟨f, job, m, hset⟩ := set_taken (i := .intervalLength) (tag := tag) h hf rfl rfl (if_pos hlen) rfl
  exact ⟨_, hset, rfl, rfl⟩

theorem disable_taken (h : s.ready) (hf : flags = 0 ∨ (flags = 1 ∧ s.store = none)) (a : Fin 16) (hv : v = 0)
    (he : s.isEnabled a = true) (hq : s.queue.length < 48) (hp : s.clock.part < 255) :
    ∃ t : State, s.settingTaken t tag flags v (.enabled a) ∧ t.isEnabled a = false ∧
      t.queue = s.queue ++ [.interval (s.formRecord a .localPartial (some .disable))] ∧
      (s.accounts.get a).resetTo (t.accounts.get a) s.clock.index (s.clock.part + 1)
        (s.startFlags a s.clock.aligned) (s.settings.orderMask.get a) ∧
      (∀ b, b ≠ a → t.accounts.get b = s.accounts.get b) ∧ t.clock = { s.clock with part := s.clock.part + 1 } ∧
      t.notices.latched.getLsbD 16 = true ∧
      t.tie = { s.tie with lastPair := some (s.clock.index, s.clock.part) } ∧
      { t with
          settings := s.settings, accounts := s.accounts, queue := s.queue, clock := s.clock, notices := s.notices,
          tie := s.tie, store := s.store, msg := s.msg } = s := by
  subst hv
  have hd : s.disableRefused (.enabled a) { s.settings with enabled := s.settings.enabled.put a false } = false := by
    refine Bool.eq_false_iff.2 fun hd => ?_
    obtain ⟨b, hi, -, -, hno⟩ := (s.disableRefused_iff _ _).1 hd
    omega
  obtain ⟨f, job, m, hset⟩ := set_taken (tag := tag) h hf rfl rfl (disable_write a s.settings) hd
  have happly := ((s.holding f).applySetting_enabled a false).trans (changeEnabled_disable (s := s.holding f) he)
  rw [show (s.holding f).settings = s.settings from rfl] at happly
  rw [happly] at hset
  obtain ⟨hqueue, hreset, hother, hclock, hlatched⟩ := disable_spec (s := s.holding f) (a := a) he hq hp
  have heq := (s.holding f).disable_eq a
  generalize (s.holding f).disable a = t at *
  refine ⟨_, hset, ?_, hqueue, hreset, hother, hclock, hlatched, ?_, ?_⟩
  · rw [heq]
    exact Table.get_put_same _ _ _
  · rw [heq]
    rfl
  · generalize t.accounts = x at heq
    generalize t.queue = y at heq
    generalize t.notices = z at heq
    subst heq
    rfl

theorem enable_taken (h : s.ready) (hf : flags = 0 ∨ (flags = 1 ∧ s.store = none)) (a : Fin 16) (hv : v = 1)
    (he : s.isEnabled a = false) : ∃ t : State, s.settingTaken t tag flags v (.enabled a) ∧ t.isEnabled a = true ∧
      t.accounts = s.accounts.put a { s.accounts.get a with
        recordIndex := s.clock.index, part := s.clock.part, span := 1, flags := s.startFlags a s.clock.aligned } ∧
      { t with settings := s.settings, accounts := s.accounts, store := s.store, msg := s.msg } = s := by
  subst hv
  have hd : s.disableRefused (.enabled a) { s.settings with enabled := s.settings.enabled.put a true } = false := by
    refine Bool.eq_false_iff.2 fun hd => ?_
    obtain ⟨b, -, hb, hno, -⟩ := (s.disableRefused_iff _ _).1 hd
    obtain rfl | hne := eq_or_ne b a
    · rw [he] at hb
      exact nomatch hb
    · rw [Table.get_put_other _ _ _ _ hne.symm] at hno
      exact Bool.false_ne_true (hno.symm.trans hb)
  obtain ⟨f, job, m, hset⟩ := set_taken (i := .enabled a) (v := 1) (tag := tag)
    (x := { s.settings with enabled := s.settings.enabled.put a true }) h hf rfl rfl rfl hd
  have happly := ((s.holding f).applySetting_enabled a true).trans (changeEnabled_enable (s := s.holding f) he)
  rw [show (s.holding f).settings = s.settings from rfl] at happly
  rw [happly] at hset
  exact ⟨_, hset, Table.get_put_same _ _ _, rfl, rfl⟩

theorem tieOff_taken (h : s.ready) (hf : flags = 0 ∨ (flags = 1 ∧ s.store = none)) (hv : v = 0)
    (hold : s.settings.tieEnable = true) : ∃ t u : State, s.settingTaken t tag flags v .tieEnable ∧
      s.tie.dropped t.tie .off ∧ t.settings = { s.settings with tieEnable := false } ∧
      t.notices.lows.getLsbD 3 = s.notices.lows.getLsbD 3 ∧
      u = { t with settings := s.settings, store := s.store, msg := s.msg } ∧ s.tieFollows u := by
  subst hv
  obtain ⟨f, job, m, hset⟩ := set_taken (i := .tieEnable) (v := 0) (tag := tag)
    (x := { s.settings with tieEnable := false }) h hf rfl rfl rfl rfl
  obtain ⟨w, hw⟩ : ∃ w : State, w = { s.holding f with settings := { s.settings with tieEnable := false } } := ⟨_, rfl⟩
  have happly : (s.holding f).applySetting .tieEnable { s.settings with tieEnable := false } = w.enterOff := by
    have hold' : (s.holding f).settings.tieEnable = true := hold
    rw [applySetting, hold', hw]
    rfl
  have hfollows : w.tieFollows w.enterOff := w.tieChanged_follows _
  have htie : w.enterOff.tie = s.tie.abandon .off := by rw [enterOff_tie, hw]; rfl
  have hsettings : w.enterOff.settings = { s.settings with tieEnable := false } := by rw [enterOff_settings, hw]
  have hlows : w.enterOff.notices.lows.getLsbD 3 = s.notices.lows.getLsbD 3 := by rw [enterOff_lows, hw]; rfl
  rw [happly] at hset
  generalize w.enterOff = t at *
  subst hw
  refine ⟨_, _, hset, ?_, hsettings, hlows, rfl, tieFollows_settings (t := t) (f := f) (x := { s.settings with tieEnable := false }) rfl rfl hfollows⟩
  rw [htie]
  exact s.tie.abandon_dropped .off

theorem tieOn_taken (h : s.ready) (hf : flags = 0 ∨ (flags = 1 ∧ s.store = none)) (hv : v = 1)
    (hold : s.settings.tieEnable = false) : ∃ t u : State, s.settingTaken t tag flags v .tieEnable ∧
      s.tie.dropped t.tie .down ∧ t.settings = { s.settings with tieEnable := true } ∧
      t.notices.lows.getLsbD 3 = true ∧
      u = { t with settings := s.settings, store := s.store, msg := s.msg } ∧ s.tieFollows u := by
  subst hv
  obtain ⟨f, job, m, hset⟩ := set_taken (i := .tieEnable) (v := 1) (tag := tag)
    (x := { s.settings with tieEnable := true }) h hf rfl rfl rfl rfl
  obtain ⟨w, hw⟩ : ∃ w : State, w = { s.holding f with settings := { s.settings with tieEnable := true } } := ⟨_, rfl⟩
  have happly : (s.holding f).applySetting .tieEnable { s.settings with tieEnable := true } = w.enterDown := by
    have hold' : (s.holding f).settings.tieEnable = false := hold
    rw [applySetting, hold', hw]
    rfl
  have hfollows : w.tieFollows w.enterDown := w.tieChanged_follows _
  have htie : w.enterDown.tie = s.tie.abandon .down := by rw [enterDown_tie, hw]; rfl
  have hsettings : w.enterDown.settings = { s.settings with tieEnable := true } := by rw [enterDown_settings, hw]
  have hlows := w.enterDown_lows
  rw [happly] at hset
  generalize w.enterDown = t at *
  subst hw
  refine ⟨_, _, hset, ?_, hsettings, hlows, rfl, tieFollows_settings (t := t) (f := f) (x := { s.settings with tieEnable := true }) rfl rfl hfollows⟩
  rw [htie]
  exact s.tie.abandon_dropped .down

theorem preference_taken (h : s.ready) (hf : flags = 0 ∨ (flags = 1 ∧ s.store = none)) (p : Preference)
    (hv : v.toNat = p.code) (hold : s.settings.preference ≠ p)
    (hstate : s.tie.state = .resolving ∨ s.tie.state = .solo ∨ s.tie.state = .roleFault) : ∃ t : State,
      s.settingTaken t tag flags v .preference ∧ t.tie.state = .resolving ∧ t.tie.attempt = 1 ∧
      t.draws = s.draws + 1 ∧ t.tie.ownSeed = (Config.seedDraw s.draws).val + 1 ∧
      t.tie.ownRole = some ⟨p, (Config.seedDraw s.draws).val + 1, 1⟩ ∧ t.tie.partnerRole = none ∧
      (s.tie.inFlight = none → t.tie.inFlight = some (.role ⟨p, (Config.seedDraw s.draws).val + 1, 1⟩) ∧
        t.tie.sendCount = 1) ∧
      { t with
          settings := s.settings, tie := s.tie, accounts := s.accounts, notices := s.notices, draws := s.draws,
          store := s.store, msg := s.msg } = s := by
  have hread : readPreference (ofLe [v]) = some p := by
    rw [show ofLe [v] = v.toNat from rfl, hv]
    cases p <;> rfl
  obtain ⟨f, job, m, hset⟩ := set_taken (i := .preference) (v := v) (tag := tag)
    (x := { s.settings with preference := p }) h hf rfl rfl (by rw [SettingId.write, hread]; rfl) rfl
  obtain ⟨w, hw⟩ : ∃ w : State, w = { s.holding f with settings := { s.settings with preference := p } } := ⟨_, rfl⟩
  have happly : (s.holding f).applySetting .preference { s.settings with preference := p } = w.beginResolving.transmit := by
    refine Eq.trans ?_ (changePreference_resolves (s := w) (old := s.settings.preference) ?_ ?_)
    · rw [hw]
      rfl
    · rw [hw]
      exact hold.symm
    · rw [hw]
      exact hstate
  have hrest := w.enterTie_rest .resolving
  rw [happly, beginResolving_sent] at hset
  generalize w.enterTie .resolving = t at *
  generalize t.accounts = y at hrest
  generalize t.notices = z at hrest
  subst hw hrest
  obtain ⟨hst, hattempt, hseed, hown, hpartner⟩ := Tie.attemptOn_sent ({ s.tie with state := .resolving } : Tie) 1
    s.nextSeed p none none
  refine ⟨_, hset, hst, hattempt, rfl, hseed, hown, hpartner, fun hidle => ?_, rfl⟩
  have hsent := Tie.attemptOn_idle (x := ({ s.tie with state := .resolving } : Tie)) hidle 1 s.nextSeed p none none
  exact ⟨congrArg Tie.inFlight hsent, congrArg Tie.sendCount hsent⟩

theorem mode_taken (h : s.ready) (hf : flags = 0 ∨ (flags = 1 ∧ s.store = none)) (hv : v.toNat ≤ 2) : ∃ t : State,
      s.settingTaken t tag flags v .attentionMode ∧
      (v = 0 → t.notices.pulse = false ∧
        (t.attentionLine = true ↔ s.notices.latched &&& ~~~s.settings.noticeMask ≠ 0)) ∧
      (v ≠ 0 → s.settings.attentionMode = .level → t.notices.pulse = false ∧ t.attentionLine = false) ∧
      (v ≠ 0 → s.settings.attentionMode ≠ .level →
        t.notices.pulse = s.notices.pulse ∧ t.attentionLine = s.notices.pulse) ∧
      { t.notices with pulse := s.notices.pulse } = s.notices ∧
      { t with settings := s.settings, notices := s.notices, store := s.store, msg := s.msg } = s := by
  obtain ⟨mode, hread⟩ : ∃ mode, readMode (ofLe [v]) = some mode :=
    Option.isSome_iff_exists.1 ((readMode_isSome _).2 hv)
  have hcode : mode.code = v.toNat := readMode_code hread
  obtain ⟨f, job, m, hset⟩ := set_taken (i := .attentionMode) (v := v) (tag := tag)
    (x := { s.settings with attentionMode := mode }) h hf rfl rfl (by rw [SettingId.write, hread]; rfl) rfl
  have hlevel : v = 0 → mode = .level := fun h0 => by
    rw [h0] at hcode
    cases mode
    · rfl
    · exact nomatch hcode
    · exact nomatch hcode
  have hmode : v ≠ 0 → mode ≠ .level := fun h0 h1 => h0 (BitVec.eq_of_toNat_eq (by rw [← hcode, h1]; rfl))
  have hline : ∀ t : State, t.stopped = false → t.settings.attentionMode = mode → v ≠ 0 → t.attentionLine = t.notices.pulse :=
    fun t ht hm h0 => attentionLine_pulse ht (by rw [hm]; exact hmode h0)
  obtain ⟨⟨ha, -⟩, -⟩ := h
  obtain ⟨pulse, hpulse⟩ : ∃ b, (mode != .level && s.settings.attentionMode != .level && s.notices.pulse) = b := ⟨_, rfl⟩
  have happly : (s.holding f).applySetting .attentionMode { s.settings with attentionMode := mode } =
      { s.holding f with
        settings := { s.settings with attentionMode := mode }, notices := { s.notices with pulse := pulse } } := by
    rw [← hpulse]
    rfl
  rw [happly] at hset
  refine ⟨_, hset, fun h0 => ⟨?_, attentionLine_level_iff ha (hlevel h0)⟩, fun h0 hold => ?_, fun h0 hold => ?_, rfl, rfl⟩
  · rw [hlevel h0] at hpulse
    exact hpulse.symm
  · have hoff : pulse = false := by rw [← hpulse, hold]; simp
    exact ⟨hoff, Eq.trans (hline _ (by exact ha) (by rfl) h0) hoff⟩
  · have hon : pulse = s.notices.pulse := by
      rw [← hpulse, bne_iff_ne.2 (hmode h0), bne_iff_ne.2 hold]
      rfl
    exact ⟨hon, Eq.trans (hline _ (by exact ha) (by rfl) h0) hon⟩

theorem reclaim_taken (h : s.ready) (hf : flags = 0 ∨ (flags = 1 ∧ s.store = none)) (hv : v.toNat ≤ 1) : ∃ t : State,
      s.settingTaken t tag flags v .reclaim ∧
      (s.settings.overwrite = decide (v = 1) →
        { t with settings := s.settings, store := s.store, msg := s.msg } = s) ∧
      (s.settings.overwrite ≠ decide (v = 1) → ({ s with settings := t.settings }).reclaimTested t ∧
        { t with
            settings := s.settings, nv := s.nv, archive := s.archive, notices := s.notices, store := s.store,
            msg := s.msg } = s) := by
  obtain ⟨f, job, m, hset⟩ := set_taken (i := .reclaim) (tag := tag) h hf rfl rfl (if_pos (decide_eq_true hv)) rfl
  have hbit : (ofLe [v] == 1) = decide (v = 1) := by
    rw [Bool.eq_iff_iff, beq_iff_eq, decide_eq_true_iff, BitVec.toNat_eq]
    rfl
  rw [hbit] at hset
  obtain ⟨w, hw⟩ : ∃ w : State, w = { s.holding f with settings := { s.settings with overwrite := decide (v = 1) } } :=
    ⟨_, rfl⟩
  have happly : (s.holding f).applySetting .reclaim { s.settings with overwrite := decide (v = 1) } =
      if decide (v = 1) == s.settings.overwrite then w else w.reclaimTestRunning := by rw [hw]; rfl
  rw [happly] at hset
  by_cases heq : s.settings.overwrite = decide (v = 1)
  · rw [if_pos (beq_iff_eq.2 heq.symm)] at hset
    subst hw
    exact ⟨_, hset, fun _ => rfl, fun hne => absurd heq hne⟩
  · rw [if_neg fun h0 => heq (beq_iff_eq.1 h0).symm] at hset
    have htested := w.reclaimTestRunning_tested
    have hrest := w.reclaimTestRunning_eq
    generalize w.reclaimTestRunning = t at *
    refine ⟨_, hset, fun h0 => absurd h0 heq, fun _ => ⟨?_, ?_⟩⟩
    · have hsettings : t.settings = w.settings := by rw [hrest]
      refine reclaimTested_after (reclaimTested_congr htested ?_ ?_ hsettings ?_ ?_) <;> rw [hw] <;> rfl
    · generalize t.archive = x at hrest
      generalize t.notices = y at hrest
      generalize t.nv = z at hrest
      subst hw hrest
      rfl

end State

/-- Settles O45: each value is taken by `set_taken`, and acts by its owner's rule. -/
theorem settingsActAtOnce : Obligations.SettingsActAtOnce := fun _ _ _ _ h hf =>
  ⟨State.setLength_taken h hf, State.disable_taken h hf, State.enable_taken h hf, State.tieOff_taken h hf,
    State.tieOn_taken h hf, State.preference_taken h hf, State.mode_taken h hf, State.reclaim_taken h hf⟩

end Sys2Proof.Machine
end

section
/-! PROOFS. Pages and frames read from their bytes (O49, O51). -/

/- The whole text is compiled as one file: these proofs are elaborated one after another, to stay within its memory. -/
set_option Elab.async false

namespace Sys2Proof.Machine

/-! ### Parts of a body -/

/-- The item of a selected index in a list of equal items. -/
theorem stands_filtered {n : Nat} {g : Fin n → List Byte} {w : Nat} (p : Nat → Bool) (hw : ∀ i, (g i).length = w)
    (i : Fin n) (hp : p i.val = true) :
    Stands (g i) (((List.finRange n).filter fun i => p i.val).flatMap g) (w * ((List.range i.val).filter p).length) := by
  obtain ⟨l, r, hsplit, hval⟩ := finRange_split i
  refine ⟨(l.filter fun i => p i.val).flatMap g, (r.filter fun i => p i.val).flatMap g, ?_, ?_⟩
  · rw [hsplit, List.filter_append, List.filter_cons_of_pos (by exact hp), List.flatMap_append, List.flatMap_cons]
  · rw [flatMap_length _ hw, filter_val_length, hval]

theorem stands_table {n : Nat} {g : Fin n → List Byte} {w : Nat} (hw : ∀ i, (g i).length = w) (i : Fin n) :
    Stands (g i) ((List.finRange n).flatMap g) (w * i.val) := by
  have h := stands_filtered (fun _ => true) hw i rfl
  rwa [List.filter_true, List.filter_true, List.length_range] at h

theorem Stands.read {k n off : Nat} {b : List Byte} (h : Stands (leBytes k n) b off) (hn : n < 256 ^ k) :
    Sys2Proof.Machine.field b off k = n := by
  have hf := h.field (j := 0) (k := k) (by simp)
  rw [Nat.add_zero] at hf
  rw [hf, field_last, Nat.mod_eq_of_lt hn]

theorem Stands.readInt {k off : Nat} {z : Int} {b : List Byte} (h : Stands (leInt k z) b off) (hk : 0 < k)
    (hz : fitsSigned k z) : ofLeInt (Sys2Proof.Machine.slice b off k) = z := by
  obtain ⟨h1, h2⟩ := hz
  rw [h.slice (leInt_length k z), ofLeInt_leInt k z hk h1 h2]

/-! ### Slots and summaries (8.1) -/

theorem bitOf_bitsOf (l : List Bool) (i : Nat) : bitOf (bitsOf l) i = l.getD i false := bitsOf_testBit l i

theorem SlotSummary.bytes_eq (x : SlotSummary) : x.bytes =
    leBytes 1 (bitsOf [x.absent, x.saturated]) ++ (leInt 8 x.p1n ++ (leInt 8 x.q1n ++
      ((List.finRange 39).flatMap (fun i => leInt 8 (x.phn.get i)) ++
        (List.finRange 40).flatMap (fun i => leBytes 4 (x.currents.get i))))) := by
  simp only [SlotSummary.bytes, List.append_assoc]
  rfl

theorem SlotSummary.bytes_length (x : SlotSummary) : x.bytes.length = 489 := by
  rw [SlotSummary.bytes_eq]
  simp only [List.length_append, leBytes_length, leInt_length, flatMap_length _ fun i => leInt_length 8 (x.phn.get i),
    flatMap_length _ fun i => leBytes_length 4 (x.currents.get i), List.length_finRange]

/-- A slot reads back as it was written. -/
theorem readSlot_bytes {x : SlotSummary} (h : x.ranged) : readSlot x.bytes = some x := by
  obtain ⟨hp, hq, hph, hcur⟩ := h
  have hflags : bitsOf [x.absent, x.saturated] < 4 := bitsOf_lt _
  have h0 := EndsWith.start x.bytes_eq
  have h1 := h0.next (leBytes_length 1 _)
  have h9 := h1.next (leInt_length 8 _)
  have h17 := h9.next (leInt_length 8 _)
  have h329 := h17.next (flatMap_length _ fun i => leInt_length 8 (x.phn.get i))
  have hread : field x.bytes 0 1 = bitsOf [x.absent, x.saturated] := h0.stands.read (by omega)
  have hp1 : ofLeInt (slice x.bytes 1 8) = x.p1n := h1.stands.readInt (by decide) hp
  have hq1 : ofLeInt (slice x.bytes 9 8) = x.q1n := h9.stands.readInt (by decide) hq
  have hphn : ∀ i : Fin 39, ofLeInt (slice x.bytes (17 + 8 * i.val) 8) = x.phn.get i := fun i =>
    (h17.stands.trans (stands_table (fun i => leInt_length 8 (x.phn.get i)) i)).readInt (by decide) (hph i)
  have hcurrent : ∀ i : Fin 40, field x.bytes (329 + 4 * i.val) 4 = x.currents.get i := fun i =>
    (h329.last.trans (stands_table (fun i => leBytes_length 4 (x.currents.get i)) i)).read (hcur i)
  rw [readSlot, hread]
  rw [if_neg (by omega), bitOf_bitsOf, bitOf_bitsOf, hp1, hq1]
  refine congrArg some ?_
  have ht1 : Table.make (fun i : Fin 39 => ofLeInt (slice x.bytes (17 + 8 * i.val) 8)) = x.phn :=
    Table.ext_get fun i => (Table.get_make _ i).trans (hphn i)
  have ht2 : Table.make (fun i : Fin 40 => field x.bytes (329 + 4 * i.val) 4) = x.currents :=
    Table.ext_get fun i => (Table.get_make _ i).trans (hcurrent i)
  rw [ht1, ht2]
  rfl

/-- The bytes of a slot, of a fixed length where the slot is not present. -/
def slotBytes (o : Option SlotSummary) : List Byte := o.elim (List.replicate 489 0) SlotSummary.bytes

theorem slotBytes_length (o : Option SlotSummary) : (slotBytes o).length = 489 := by
  cases o with
  | none => exact List.length_replicate
  | some x => exact x.bytes_length

theorem Summary.mask_bit (x : Summary) (j : Fin 4) : bitOf x.mask j.val = (x.slots.get j).isSome := by
  rw [Summary.mask, bitOf_bitsOf, getD_map_finRange]

theorem Summary.mask_lt (x : Summary) : x.mask < 16 := bitsOf_lt _

/-- The slots of a summary, one behind the other. -/
def Summary.tail (x : Summary) : List Byte :=
  ((List.finRange 4).filter fun j => bitOf x.mask j.val).flatMap fun j => slotBytes (x.slots.get j)

theorem Summary.bytes_eq (x : Summary) : (PageBody.summary x).bytes =
    leBytes 4 x.first ++ (leBytes 4 x.count ++ (leBytes 4 x.n ++
      (leBytes 1 (bitsOf [x.track, x.held, x.clip, x.coalesced, x.countSaturated]) ++ (leBytes 1 x.mask ++ x.tail)))) := by
  have htail : ∀ g : Fin 4 → List Byte, (∀ j, g j = (x.slots.get j).elim [] SlotSummary.bytes) →
      (List.finRange 4).flatMap g = x.tail := fun g hg => by
    rw [Summary.tail, ← flatMap_if]
    refine congrArg (fun g => (List.finRange 4).flatMap g) (funext fun j => ?_)
    rw [hg, x.mask_bit]
    cases x.slots.get j <;> rfl
  simp only [PageBody.bytes, List.append_assoc]
  rw [htail]
  · rfl
  · intro j
    cases x.slots.get j <;> rfl

theorem Summary.tail_length (x : Summary) : x.tail.length = 489 * slotCount x.mask :=
  filtered_length (bitOf x.mask) fun j => slotBytes_length (x.slots.get j)

theorem slotCount_le (mask : Nat) : slotCount mask ≤ 4 :=
  (List.length_filter_le _ _).trans (by simp)

theorem Summary.bytes_length (x : Summary) : (PageBody.summary x).bytes.length = 14 + 489 * slotCount x.mask := by
  rw [x.bytes_eq]
  simp only [List.length_append, leBytes_length, x.tail_length]
  omega

/-- A summary reads back as it was written. -/
theorem readSummary_bytes {x : Summary} (h : (PageBody.summary x).ranged) :
    readSummary (PageBody.summary x).bytes = some (.summary x) := by
  obtain ⟨hfirst, hcount, hn, hslots⟩ := h
  have hflags : bitsOf [x.track, x.held, x.clip, x.coalesced, x.countSaturated] < 32 := bitsOf_lt _
  have hmask := x.mask_lt
  have h0 := EndsWith.start x.bytes_eq
  have h4 := h0.next (leBytes_length 4 _)
  have h8 := h4.next (leBytes_length 4 _)
  have h12 := h8.next (leBytes_length 4 _)
  have h13 := h12.next (leBytes_length 1 _)
  have h14 := h13.next (leBytes_length 1 _)
  have hlen := x.bytes_length
  have hslot : ∀ (j : Fin 4) (sl : SlotSummary), x.slots.get j = some sl →
      slice (PageBody.summary x).bytes (14 + 489 * slotPlace x.mask j.val) 489 = sl.bytes := fun j sl hj => by
    have hst := h14.last.trans (stands_filtered (bitOf x.mask) (fun j => slotBytes_length (x.slots.get j)) j
      (by rw [x.mask_bit, hj]; rfl))
    rw [hj] at hst
    exact hst.slice sl.bytes_length
  generalize (PageBody.summary x).bytes = b at *
  have hread12 : field b 12 1 = bitsOf [x.track, x.held, x.clip, x.coalesced, x.countSaturated] := h12.stands.read (by omega)
  have hread13 : field b 13 1 = x.mask := h13.stands.read (by omega)
  have hread0 : field b 0 4 = x.first := h0.stands.read hfirst
  have hread4 : field b 4 4 = x.count := h4.stands.read hcount
  have hread8 : field b 8 4 = x.n := h8.stands.read hn
  have hreadSlot : ∀ j : Fin 4, (if bitOf x.mask j.val then readSlot (slice b (14 + 489 * slotPlace x.mask j.val) 489)
      else none) = x.slots.get j := fun j => by
    rw [x.mask_bit]
    cases hj : x.slots.get j with
    | none => rfl
    | some sl =>
      rw [hslot j sl hj, readSlot_bytes (hslots j sl hj)]
      rfl
  have hnone : ((List.finRange 4).any fun j =>
      bitOf x.mask j.val && (readSlot (slice b (14 + 489 * slotPlace x.mask j.val) 489)).isNone) = false := by
    refine List.any_eq_false.2 fun j _ hj => ?_
    obtain ⟨hbit, hno⟩ := Bool.and_eq_true_iff.1 hj
    have hs := hreadSlot j
    rw [if_pos hbit, Option.isNone_iff_eq_none.1 hno] at hs
    rw [x.mask_bit, ← hs] at hbit
    exact nomatch hbit
  have htable : Table.make (fun j : Fin 4 => if bitOf x.mask j.val then
      readSlot (slice b (14 + 489 * slotPlace x.mask j.val) 489) else none) = x.slots :=
    Table.ext_get fun j => (Table.get_make _ j).trans (hreadSlot j)
  have hgo : (decide (32 ≤ bitsOf [x.track, x.held, x.clip, x.coalesced, x.countSaturated]) || decide (16 ≤ x.mask) ||
      b.length != 14 + 489 * slotCount x.mask) = false := by
    rw [decide_eq_false (by omega), decide_eq_false (by omega), hlen, bne_self_eq_false]
    rfl
  rw [readSummary, hread12, hread13, hread0, hread4, hread8]
  dsimp only
  rw [hgo, if_neg Bool.false_ne_true, hnone, if_neg Bool.false_ne_true, htable]
  simp only [bitOf_bitsOf]
  rfl

/-! ### Pages (8.1) -/

theorem readPreference_of (p : Preference) : readPreference p.code = some p := by cases p <;> rfl

theorem readRole_of (r : Role) : readRole r.code = some r := by cases r <;> rfl

theorem Role.code_lt (r : Role) : r.code < 256 := by cases r <;> decide

theorem readRolePage_bytes {b : RoleBody} (h : (PageBody.role b).ranged) :
    readRolePage (PageBody.role b).bytes = some (.role b) := by
  obtain ⟨hs1, hs2, ha1, ha2⟩ := h
  have hbytes : (PageBody.role b).bytes =
      leBytes 1 b.preference.code ++ (leBytes 2 b.seed ++ leBytes 1 b.attempt) := List.append_assoc ..
  have h0 := EndsWith.start hbytes
  have h1 := h0.next (leBytes_length 1 _)
  have h3 := h1.next (leBytes_length 2 _)
  have hlen : (PageBody.role b).bytes.length = 4 := by rw [hbytes]; simp
  generalize (PageBody.role b).bytes = bs at *
  rw [readRolePage, h0.stands.read b.preference.code_lt, h1.stands.read (by omega), h3.last.read (by omega),
    readPreference_of, hlen]
  dsimp only
  rw [if_neg (by simp; omega)]

theorem readConfirmPage_bytes {b : ConfirmBody} (h : (PageBody.confirm b).ranged) :
    readConfirmPage (PageBody.confirm b).bytes = some (.confirm b) := by
  obtain ⟨ha1, ha2, hs1, hs2⟩ := h
  have hbytes : (PageBody.confirm b).bytes =
      leBytes 1 b.attempt ++ (leBytes 1 b.role.code ++ (leBytes 2 b.ownSeed ++ leBytes 2 b.partnerSeed)) := by
    simp only [PageBody.bytes, List.append_assoc]
    rfl
  have h0 := EndsWith.start hbytes
  have h1 := h0.next (leBytes_length 1 _)
  have h2 := h1.next (leBytes_length 1 _)
  have h4 := h2.next (leBytes_length 2 _)
  have hlen : (PageBody.confirm b).bytes.length = 6 := by rw [hbytes]; simp
  generalize (PageBody.confirm b).bytes = bs at *
  rw [readConfirmPage, h0.stands.read (by omega), h1.stands.read b.role.code_lt, h2.stands.read (by omega),
    h4.last.read (by omega), readRole_of, hlen]
  dsimp only
  rw [if_neg (by simp; omega)]

theorem reasonCode_lt (r : Option CloseReason) : reasonCode r < 256 := by
  cases r with
  | none => decide
  | some r =>
    cases r with
    | other x => exact x.isLt
    | _ => decide

theorem readReason_of {r : CloseReason} (h : ∀ x, r = .other x → x = 0 ∨ 5 < x.toNat) :
    readReason (reasonCode (some r)) = r := by
  cases r with
  | other x =>
    have hx : x.toNat ≠ 1 ∧ x.toNat ≠ 2 ∧ x.toNat ≠ 3 ∧ x.toNat ≠ 4 ∧ x.toNat ≠ 5 := by
      obtain rfl | hx := h x rfl
      · decide
      · omega
    show readReason x.toNat = _
    unfold readReason
    split
    · omega
    · omega
    · omega
    · omega
    · omega
    · exact congrArg CloseReason.other (BitVec.ofNat_toNat _ _)
  | _ => rfl

theorem readClosePage_bytes {b : CloseBody} (h : (PageBody.close b).ranged) :
    readClosePage (PageBody.close b).bytes = some (.close b) := by
  obtain ⟨hi, hp, hr⟩ := h
  have hbytes : (PageBody.close b).bytes = leBytes 4 b.index ++ (leBytes 1 b.part ++
      (leBytes 1 (if b.reason.isSome then 2 else 1) ++ leBytes 1 (reasonCode b.reason))) := by
    simp only [PageBody.bytes, List.append_assoc]
    rfl
  have h0 := EndsWith.start hbytes
  have h4 := h0.next (leBytes_length 4 _)
  have h5 := h4.next (leBytes_length 1 _)
  have h6 := h5.next (leBytes_length 1 _)
  have hlen : (PageBody.close b).bytes.length = 7 := by rw [hbytes]; simp
  have hkind : readCloseKind (if b.reason.isSome then 2 else 1) (reasonCode b.reason) = some b.reason := by
    cases hb : b.reason with
    | none => rfl
    | some r => exact congrArg (fun r => some (some r)) (readReason_of fun x hx => hr x (by rw [hb, hx]))
  generalize (PageBody.close b).bytes = bs at *
  rw [readClosePage, hlen, h0.stands.read hi, h4.stands.read (by omega), h5.stands.read (by split <;> decide),
    h6.last.read (reasonCode_lt _), hkind]
  rfl

theorem readPageBody_bytes {b : PageBody} (h : b.ranged) : readPageBody b.code b.bytes = some b := by
  cases b with
  | idle => rfl
  | role b => exact readRolePage_bytes h
  | confirm b => exact readConfirmPage_bytes h
  | summary x => exact readSummary_bytes h
  | close b => exact readClosePage_bytes h
  | closeOther => exact h.elim

theorem PageBody.bytes_length_le (b : PageBody) : b.bytes.length ≤ 1970 := by
  cases b with
  | idle => exact Nat.zero_le _
  | role b => simp [PageBody.bytes]
  | confirm b => simp [PageBody.bytes]
  | summary x =>
    have h := slotCount_le x.mask
    rw [x.bytes_length]
    omega
  | close b => simp [PageBody.bytes]
  | closeOther => simp [PageBody.bytes]

/-- A page put together from its parts (8.1). -/
def linePage (code seq : Nat) (body : List Byte) : List Byte :=
  withCrc (byte 0x96 ++ byte code ++ byte seq ++ leBytes 2 body.length ++ body)

/-- The parts of a page: start byte, type, sequence byte, length, body, check. -/
theorem linePage_eq (code seq : Nat) (body : List Byte) : ∃ crc, linePage code seq body =
    leBytes 1 0x96 ++ (leBytes 1 code ++ (leBytes 1 seq ++ (leBytes 2 body.length ++ (body ++ leBytes 2 crc)))) := by
  refine ⟨(crc16 (byte 0x96 ++ byte code ++ byte seq ++ leBytes 2 body.length ++ body)).toNat, ?_⟩
  simp only [linePage, withCrc, List.append_assoc]
  rfl

theorem linePage_length (code seq : Nat) (body : List Byte) : (linePage code seq body).length = 7 + body.length := by
  obtain ⟨crc, h⟩ := linePage_eq code seq body
  rw [h]
  simp only [List.length_append, leBytes_length]
  omega

/-- A page is read by its parts: the type and the body give the page body, the sequence byte toggle and ack field. -/
theorem readPage_line {code seq : Nat} {body : List Byte} (hcode : code < 256) (hseq : seq < 8) (hbody : body.length ≤ 1970) :
    readPage (linePage code seq body) =
      (readPageBody code body).map fun b => ⟨b, bitOf seq 0, if bitOf seq 2 then some (bitOf seq 1) else none⟩ := by
  obtain ⟨crc, hbytes⟩ := linePage_eq code seq body
  have hlen := linePage_length code seq body
  have hcrc : crcOk (linePage code seq body) = true := crcOk_withCrc _
  have h0 := EndsWith.start hbytes
  have h1 := h0.next (leBytes_length 1 _)
  have h2 := h1.next (leBytes_length 1 _)
  have h3 := h2.next (leBytes_length 1 _)
  have h5 := h3.next (leBytes_length 2 _)
  generalize linePage code seq body = bs at *
  have hfirst : byteAt bs 0 = 0x96 := by
    rw [byteAt_eq, h0.stands.read (by decide)]
    rfl
  have hgo : (byteAt bs 0 != 0x96 || decide (8 ≤ seq) || bs.length != 7 + body.length || !crcOk bs) = false := by
    rw [hfirst, decide_eq_false (by omega), hlen, hcrc]
    simp
  rw [readPage, h2.stands.read (by omega), h3.stands.read (by omega), h1.stands.read (by omega), h5.stands.slice rfl]
  rw [hgo, if_neg Bool.false_ne_true]
  cases readPageBody code body <;> rfl

theorem Page.bytes_length (p : Page) : p.bytes.length = 7 + p.body.bytes.length := linePage_length ..

/-- A page reads back as it was written. -/
theorem readPage_bytes {p : Page} (h : p.body.ranged) : readPage p.bytes = some p := by
  have hseq : bitsOf [p.toggle, p.ack.getD false, p.ack.isSome] < 8 := bitsOf_lt _
  have hcode : p.body.code < 256 := p.body.code_lt.trans (by decide)
  refine (readPage_line hcode hseq p.body.bytes_length_le).trans ?_
  rw [readPageBody_bytes h, Option.map_some]
  simp only [bitOf_bitsOf]
  obtain ⟨body, toggle, ack⟩ := p
  cases ack <;> rfl

/-- Settles O51: each part of a page is read at its offset. -/
theorem pageCarriesBody : Obligations.PageCarriesBody := fun p h => by
  have hlen := p.bytes_length
  have hbody := p.body.bytes_length_le
  exact ⟨readPage_bytes h, by omega⟩

end Sys2Proof.Machine
end

section
/-! PROOFS. Broken frames and pages (O49). -/

/- The whole text is compiled as one file: these proofs are elaborated one after another, to stay within its memory. -/
set_option Elab.async false

namespace Sys2Proof.Machine

/-! ### Bodies that are not read (R139) -/

theorem readPreference_none (n : Nat) : readPreference n = none ↔ n = 0 ∨ 3 < n := by
  rw [← Option.isNone_iff_eq_none, Option.isNone_iff_eq_none, ← Option.not_isSome_iff_eq_none, readPreference_isSome]
  omega

theorem readRole_none (n : Nat) : readRole n = none ↔ n = 0 ∨ 2 < n := by
  unfold readRole
  repeat' split
  all_goals simp only [reduceCtorEq, true_iff, false_iff]; omega

theorem readRolePage_none (bs : List Byte) : readRolePage bs = none ↔ bs.length ≠ 4 ∨ field bs 0 1 = 0 ∨
    3 < field bs 0 1 ∨ field bs 1 2 = 0 ∨ field bs 3 1 = 0 ∨ 3 < field bs 3 1 := by
  have hno := readPreference_none (field bs 0 1)
  unfold readRolePage
  cases hp : readPreference (field bs 0 1) with
  | none =>
    obtain h | h := hno.1 hp
    · exact iff_of_true rfl (.inr (.inl h))
    · exact iff_of_true rfl (.inr (.inr (.inl h)))
  | some p =>
    rw [hp] at hno
    have hrange : ¬ (field bs 0 1 = 0 ∨ 3 < field bs 0 1) := fun h => nomatch hno.2 h
    simp only [ite_eq_left_iff, reduceCtorEq, imp_false, not_not, Bool.or_eq_true, bne_iff_ne, beq_iff_eq,
      decide_eq_true_eq]
    omega

theorem readConfirmPage_none (bs : List Byte) : readConfirmPage bs = none ↔ bs.length ≠ 6 ∨ field bs 0 1 = 0 ∨
    3 < field bs 0 1 ∨ field bs 1 1 = 0 ∨ 2 < field bs 1 1 := by
  have hno := readRole_none (field bs 1 1)
  unfold readConfirmPage
  cases hp : readRole (field bs 1 1) with
  | none =>
    obtain h | h := hno.1 hp
    · exact iff_of_true rfl (.inr (.inr (.inr (.inl h))))
    · exact iff_of_true rfl (.inr (.inr (.inr (.inr h))))
  | some r =>
    rw [hp] at hno
    have hrange : ¬ (field bs 1 1 = 0 ∨ 2 < field bs 1 1) := fun h => nomatch hno.2 h
    simp only [ite_eq_left_iff, reduceCtorEq, imp_false, not_not, Bool.or_eq_true, bne_iff_ne, beq_iff_eq,
      decide_eq_true_eq]
    omega

theorem readSlot_isNone (bs : List Byte) : (readSlot bs).isNone = true ↔ 4 ≤ field bs 0 1 := by
  unfold readSlot
  dsimp only
  split
  · exact iff_of_true rfl ‹_›
  · exact iff_of_false Bool.false_ne_true ‹_›

/-- The places of the slots of a mask are those below their number. -/
theorem slotPlace_surjective : ∀ mask, mask < 16 → ∀ i, i < slotCount mask → ∃ j, j < 4 ∧ bitOf mask j = true ∧
    slotPlace mask j = i := by
  have h : ∀ mask : Fin 16, ∀ i : Fin 4, i.val < slotCount mask.val → ∃ j : Fin 4, bitOf mask.val j.val = true ∧
    slotPlace mask.val j.val = i.val := by decide
  intro mask hm i hi
  have hi4 : i < 4 := Nat.lt_of_lt_of_le hi (slotCount_le mask)
  obtain ⟨j, hj, hp⟩ := h ⟨mask, hm⟩ ⟨i, hi4⟩ hi
  exact ⟨j.val, j.isLt, hj, hp⟩

theorem slotPlace_lt {mask : Nat} (hm : mask < 16) {j : Nat} (hj : j < 4) (hb : bitOf mask j = true) :
    slotPlace mask j < slotCount mask := by
  have h : ∀ mask : Fin 16, ∀ j : Fin 4, bitOf mask.val j.val = true → slotPlace mask.val j.val < slotCount mask.val := by
    decide
  exact h ⟨mask, hm⟩ ⟨j, hj⟩ hb

theorem slot_of_place {mask : Nat} (hm : mask < 16) (p : Nat → Prop) :
    (∃ i, i < slotCount mask ∧ p i) ↔ ∃ j : Fin 4, bitOf mask j.val = true ∧ p (slotPlace mask j.val) := by
  refine ⟨fun ⟨i, hi, hp⟩ => ?_, fun ⟨j, hb, hp⟩ => ⟨_, slotPlace_lt hm j.isLt hb, hp⟩⟩
  obtain ⟨j, hj, hb, rfl⟩ := slotPlace_surjective mask hm i hi
  exact ⟨⟨j, hj⟩, hb, hp⟩

theorem readSummary_none (bs : List Byte) : readSummary bs = none ↔
    bs.length ≠ 14 + 489 * slotCount (field bs 13 1) ∨ 32 ≤ field bs 12 1 ∨ 16 ≤ field bs 13 1 ∨
    ∃ i, i < slotCount (field bs 13 1) ∧ 4 ≤ field (slice bs (14 + 489 * i) 489) 0 1 := by
  unfold readSummary
  dsimp only
  split
  next h =>
    simp only [Bool.or_eq_true, decide_eq_true_eq, bne_iff_ne] at h
    exact iff_of_true rfl (by tauto)
  next h =>
    simp only [Bool.or_eq_true, decide_eq_true_eq, bne_iff_ne, not_or, not_not, not_le] at h
    obtain ⟨⟨hflags, hmask⟩, hlen⟩ := h
    have hslots : ((List.finRange 4).any fun j => bitOf (field bs 13 1) j.val &&
        (readSlot (slice bs (14 + 489 * slotPlace (field bs 13 1) j.val) 489)).isNone) = true ↔
        ∃ i, i < slotCount (field bs 13 1) ∧ 4 ≤ field (slice bs (14 + 489 * i) 489) 0 1 := by
      rw [slot_of_place hmask fun i => 4 ≤ field (slice bs (14 + 489 * i) 489) 0 1]
      simp only [List.any_eq_true, List.mem_finRange, true_and, Bool.and_eq_true, readSlot_isNone]
    split
    next hs => exact iff_of_true rfl (.inr (.inr (.inr (hslots.1 hs))))
    next hs =>
      refine iff_of_false nofun fun h => ?_
      obtain h | h | h | h := h
      · exact h hlen
      · omega
      · omega
      · exact hs (hslots.2 h)

theorem readClosePage_none (bs : List Byte) : readClosePage bs = none ↔ bs.length ≠ 7 := by
  unfold readClosePage
  split
  next h => exact iff_of_true rfl (bne_iff_ne.1 h)
  next h =>
    refine iff_of_false ?_ fun h0 => h (bne_iff_ne.2 h0)
    split <;> nofun

/-! ### Pages that are not read, by their bytes -/

section
variable {p : List Byte} {n : Nat}

theorem stands_body (hl : p.length = 7 + n) : Stands (slice p 5 n) p 5 := by
  refine ⟨p.take 5, p.drop (5 + n), ?_, ?_⟩
  · rw [slice, ← List.drop_drop, List.take_append_drop, List.take_append_drop]
  · rw [List.length_take]
    omega

theorem body_length (hl : p.length = 7 + n) : (slice p 5 n).length = n := by
  rw [slice, List.length_take, List.length_drop]
  omega

theorem body_field (hl : p.length = 7 + n) {j k : Nat} (h : j + k ≤ n) : field (slice p 5 n) j k = field p (5 + j) k :=
  ((stands_body hl).field (by rw [body_length hl]; exact h)).symm

theorem slice_slice (bs : List Byte) {i w k : Nat} (h : k ≤ w) : field (slice bs i w) 0 k = field bs i k := by
  rw [field, field, slice, slice, slice, List.drop_zero, List.take_take, Nat.min_eq_left h]

theorem rolePage_invalid (hl : p.length = 7 + n) : readRolePage (slice p 5 n) = none ↔
    (n ≠ 4 ∨ field p 5 1 = 0 ∨ 3 < field p 5 1 ∨ field p 6 2 = 0 ∨ field p 8 1 = 0 ∨ 3 < field p 8 1) := by
  rw [readRolePage_none, body_length hl]
  by_cases h : n = 4
  · rw [body_field hl (j := 0) (by omega), body_field hl (j := 1) (by omega), body_field hl (j := 3) (by omega)]
  · exact iff_of_true (.inl h) (.inl h)

theorem confirmPage_invalid (hl : p.length = 7 + n) : readConfirmPage (slice p 5 n) = none ↔
    (n ≠ 6 ∨ field p 5 1 = 0 ∨ 3 < field p 5 1 ∨ field p 6 1 = 0 ∨ 2 < field p 6 1) := by
  rw [readConfirmPage_none, body_length hl]
  by_cases h : n = 6
  · rw [body_field hl (j := 0) (by omega), body_field hl (j := 1) (by omega)]
  · exact iff_of_true (.inl h) (.inl h)

theorem pageSlots_eq (p : List Byte) : pageSlots p = slotCount (field p 18 1) := rfl

theorem summaryPage_invalid (hl : p.length = 7 + n) : readSummary (slice p 5 n) = none ↔
    (n ≠ 14 + 489 * pageSlots p ∨ 32 ≤ field p 17 1 ∨ 16 ≤ field p 18 1 ∨
      ∃ i, i < pageSlots p ∧ 4 ≤ field p (19 + 489 * i) 1) := by
  rw [readSummary_none, body_length hl, pageSlots_eq]
  by_cases h : 14 ≤ n
  · rw [body_field hl (j := 12) (by omega), body_field hl (j := 13) (by omega), show 5 + 12 = 17 from rfl,
      show 5 + 13 = 18 from rfl]
    by_cases hn : n = 14 + 489 * slotCount (field p 18 1)
    · refine or_congr_right (or_congr_right (or_congr_right ?_))
      refine exists_congr fun i => and_congr_right fun hi => ?_
      have hle : 489 * i + 489 ≤ 489 * slotCount (field p 18 1) := by omega
      rw [slice_slice _ (by omega), body_field hl (by omega), ← Nat.add_assoc]
    · exact iff_of_true (.inl hn) (.inl hn)
  · exact iff_of_true (.inl (by omega)) (.inl (by omega))

theorem pageBody_invalid (hl : p.length = 7 + n) : readPageBody (field p 1 1) (slice p 5 n) = none ↔
    (field p 1 1 ≠ 0x00 ∧ field p 1 1 ≠ 0x01 ∧ field p 1 1 ≠ 0x02 ∧ field p 1 1 ≠ 0x10 ∧ field p 1 1 ≠ 0x20) ∨
    (field p 1 1 = 0x00 ∧ n ≠ 0) ∨
    (field p 1 1 = 0x01 ∧ (n ≠ 4 ∨ field p 5 1 = 0 ∨ 3 < field p 5 1 ∨ field p 6 2 = 0 ∨ field p 8 1 = 0 ∨
      3 < field p 8 1)) ∨
    (field p 1 1 = 0x02 ∧ (n ≠ 6 ∨ field p 5 1 = 0 ∨ 3 < field p 5 1 ∨ field p 6 1 = 0 ∨ 2 < field p 6 1)) ∨
    (field p 1 1 = 0x10 ∧ (n ≠ 14 + 489 * pageSlots p ∨ 32 ≤ field p 17 1 ∨ 16 ≤ field p 18 1 ∨
      ∃ i, i < pageSlots p ∧ 4 ≤ field p (19 + 489 * i) 1)) ∨
    (field p 1 1 = 0x20 ∧ n ≠ 7) := by
  have hidle : (if (slice p 5 n).isEmpty then some PageBody.idle else none) = none ↔ n ≠ 0 := by
    have hlen := body_length hl
    cases hb : slice p 5 n with
    | nil =>
      rw [hb] at hlen
      simp [← hlen]
    | cons b bs =>
      rw [hb] at hlen
      simp [← hlen]
  have hclose := readClosePage_none (slice p 5 n)
  rw [body_length hl] at hclose
  rw [← rolePage_invalid hl, ← confirmPage_invalid hl, ← summaryPage_invalid hl, ← hidle, ← hclose, readPageBody]
  split
  next h => simp [h]
  split
  next h => simp [h]
  split
  next h => simp [h]
  split
  next h => simp [h]
  split
  next h => simp [h]
  next h0 h1 h2 h3 h4 => simp [h0, h1, h2, h3, h4]

/-- A whole page is not read exactly where it fails a condition of R139. -/
theorem readPage_none (hfirst : p.take 1 = [0x96]) (hl : p.length = 7 + field p 3 2) :
    readPage p = none ↔ pageInvalid p := by
  have hbyte : byteAt p 0 = 0x96 := by
    cases p with
    | nil => exact nomatch hfirst
    | cons b bs => exact (List.cons.inj hfirst).1
  have hread : readPage p = none ↔
      crcOk p = false ∨ 8 ≤ field p 2 1 ∨ readPageBody (field p 1 1) (slice p 5 (field p 3 2)) = none := by
    unfold readPage
    rw [hbyte, ← hl]
    dsimp only
    cases hc : crcOk p
    · simp
    · cases hb : readPageBody (field p 1 1) (slice p 5 (field p 3 2)) <;> simp
  rw [hread, pageBody_invalid hl]
  rfl

end

/-! ### Broken frames and pages counted (R159, R160) -/

theorem huntPage_afterNoise {noise p line : List Byte} (h : afterNoise 0x96 noise p line) (hp : p.take 1 = [0x96]) :
    huntPage line = p := by
  obtain ⟨hnoise, rfl⟩ := h
  obtain _ | ⟨b, bs⟩ := p
  · exact nomatch hp
  obtain rfl : b = 0x96 := (List.cons.inj hp).1
  rw [huntPage, List.dropWhile_append_of_pos fun x hx => bne_iff_ne.2 (hnoise x hx)]
  rfl

theorem huntFrame_none {noise : List Byte} (h : ∀ x ∈ noise, x ≠ (0xA5 : Byte)) : huntFrame (noise ++ [0xA5]) = [] := by
  induction noise with
  | nil => rfl
  | cons b bs ih =>
    have hb : (b == 0xA5) = false := beq_false_of_ne (h b List.mem_cons_self)
    rw [List.cons_append, huntFrame, hb, Bool.false_and, if_neg Bool.false_ne_true]
    exact ih fun x hx => h x (List.mem_cons_of_mem b hx)

/-- Settles O49: the frame or page found behind the noise is broken by its length or its bytes. -/
theorem brokenInputIsCounted : Obligations.BrokenInputIsCounted := by
  refine ⟨fun s noise f line ha hstart hline => ?_, fun s noise hnoise => ?_, fun s noise p line ha hstart hline => ?_⟩
  · intro counted
    have hf : f = [0xA5, 0x5A] ++ f.drop 2 := by rw [← hstart, List.take_append_drop]
    have hlen : 2 ≤ f.length := by
      rw [hf]
      simp
    have hhunt : huntFrame line = f := by
      rw [hf] at hline
      exact (huntFrame_afterNoise hline).trans hf.symm
    have hcounted : .next s.countDiscarded = counted := by
      rw [State.countDiscarded, bump_eq]
    have hrun : ∀ {g : State → State}, g s = s.countDiscarded → .next (s.whenAlive g) = counted := fun h =>
      (congrArg Host.Outcome.next ((State.whenAlive_running s _ ha).trans h)).trans hcounted
    refine ⟨fun hl hn hc => hrun ?_, fun hl hn => hrun ?_, fun h => hrun ?_⟩
    · have hwhole : frameWhole f = true := by
        simp only [frameWhole, Bool.and_eq_true, decide_eq_true_eq, beq_iff_eq]
        omega
      rw [State.frameComplete, hhunt]
      rw [hwhole, hc]
      rfl
    · have hover : frameOver f = true := by
        simp only [frameOver, Bool.and_eq_true, decide_eq_true_eq, beq_iff_eq]
        omega
      rw [State.frameOverlength, hhunt, if_pos hover]
    · have hpart : framePart f = true := by
        simp only [framePart, Bool.and_eq_true, Bool.or_eq_true, decide_eq_true_eq]
        omega
      rw [State.frameGap, hhunt, if_pos hpart]
  · refine congrArg Host.Outcome.next (whenAlive_fixed ?_)
    rw [State.frameGap, huntFrame_none hnoise]
    rfl
  · intro counted
    have hhunt := huntPage_afterNoise hline hstart
    have hpos : 0 < p.length := by
      cases p with
      | nil => exact nomatch hstart
      | cons b bs => exact Nat.succ_pos _
    have hcounted : .next s.countBadPage = counted := by
      rw [State.countBadPage, bump_eq]
    have hrun : ∀ {g : State → State}, g s = s.countBadPage → .next (s.whenAlive g) = counted := fun h =>
      (congrArg Host.Outcome.next ((State.whenAlive_running s _ ha).trans h)).trans hcounted
    refine ⟨fun hoff ho => ?_, fun hno => ?_⟩
    · have hsends : s.tieSends = true := s.tieSends_iff.2 ⟨hoff, ho⟩
      refine ⟨fun hl hn => ⟨readPage_none hstart hl, fun hbad => hrun ?_⟩, fun hl hn => hrun ?_, fun h => hrun ?_⟩
      · have hwhole : pageWhole p = true := by
          simp only [pageWhole, Bool.and_eq_true, decide_eq_true_eq, beq_iff_eq]
          omega
        rw [State.pageArrive, hhunt]
        rw [hsends, hwhole, (readPage_none hstart hl).2 hbad]
        rfl
      · have hover : pageOver p = true := by
          simp only [pageOver, Bool.and_eq_true, decide_eq_true_eq, beq_iff_eq]
          omega
        rw [State.pageOverlength, hhunt, hsends, hover]
        rfl
      · have hpart : pagePart p = true := by
          simp only [pagePart, Bool.and_eq_true, Bool.or_eq_true, decide_eq_true_eq]
          omega
        rw [State.pageGap, hhunt, hsends, hpart]
        rfl
    · have hsends : s.tieSends = false := by
        refine Bool.eq_false_iff.2 fun h => ?_
        obtain ⟨h1, h2⟩ := s.tieSends_iff.1 h
        exact hno.elim h1 h2
      have hfix : ∀ {g : State → State}, g s = s →
          (Host.Outcome.next (s.whenAlive g) : Host.Outcome State Fault Refusal) = .next s := fun h =>
        congrArg Host.Outcome.next (whenAlive_fixed h)
      refine ⟨hfix ?_, hfix ?_, hfix ?_⟩
      · rw [State.pageArrive, hsends]
        rfl
      · rw [State.pageOverlength, hsends]
        rfl
      · rw [State.pageGap, hsends]
        rfl

end Sys2Proof.Machine
end

section
/-! PROOFS. The layout of records (O34). -/

/- The whole text is compiled as one file: these proofs are elaborated one after another, to stay within its memory. -/
set_option Elab.async false

namespace Sys2Proof.Machine

/-- The item of a place in a list of equal items. -/
theorem stands_list {α : Type} {g : α → List Byte} {w : Nat} (hw : ∀ x, (g x).length = w) {l : List α} {j : Nat} {x : α}
    (h : l[j]? = some x) : Stands (g x) (l.flatMap g) (w * j) := by
  obtain ⟨hj, hx⟩ := List.getElem?_eq_some_iff.1 h
  refine ⟨(l.take j).flatMap g, (l.drop (j + 1)).flatMap g, ?_, ?_⟩
  · conv_lhs => rw [← List.take_append_drop j l, List.drop_eq_getElem_cons hj, hx]
    rw [List.flatMap_append, List.flatMap_cons]
  · rw [flatMap_length _ hw, List.length_take, Nat.min_eq_left hj.le]

theorem Stands.reads {k n off : Nat} {b : List Byte} (h : Stands (leBytes k n) b off) :
    Sys2Proof.Machine.field b off k = n % 256 ^ k := by
  have hf := h.field (j := 0) (k := k) (by simp)
  rw [Nat.add_zero] at hf
  rw [hf, field_last]

theorem Stands.readsByte {n off : Nat} {b : List Byte} (h : Stands (leBytes 1 n) b off) :
    byteAt b off = BitVec.ofNat 8 (n % 256) := by
  rw [byteAt_eq, h.reads, Nat.pow_one]

/-! ### What an interval record is made of -/

/-- The eight of a group as a list. -/
def Mains.list {α : Type} (m : Mains α) : List α := [m.imp, m.exp, m.q1, m.q2, m.q3, m.q4, m.habs, m.hemi]

theorem Mains.fields_eq {α : Type} (m : Mains α) (f : α → List Byte) : m.fields f = m.list.flatMap f := by
  simp only [Mains.fields, Mains.list, List.flatMap_cons, List.flatMap_nil, List.append_nil, List.append_assoc]

theorem Mains.list_map (m : Mains Acc) (f : Acc → Nat) (k : Fin 8) :
    (m.map f).list[k.val]? = some (f (m.list.getD k.val ⟨0, 0⟩)) := by
  fin_cases k <;> rfl

theorem OrderEntry.bytes_eq (e : OrderEntry) :
    e.bytes = leBytes 4 e.absorbed ++ (leBytes 4 e.emitted ++ (leBytes 4 e.peak ++ leBytes 2 e.exceed)) := by
  simp only [OrderEntry.bytes, List.append_assoc]

theorem OrderEntry.bytes_length (e : OrderEntry) : e.bytes.length = 14 := by
  rw [OrderEntry.bytes_eq]
  simp only [List.length_append, leBytes_length]

/-- The code byte of an interval record: INTERVAL without a reason, PARTIAL with one. -/
def kindCode (reason : Option CloseReason) : Nat := if reason.isSome then 0x12 else 0x11

/-- An interval record as its items one behind the other, the check last. -/
theorem intervalRecord_eq (r : IntervalRecord) : (Record.interval r).bytes =
    leBytes 2 0xA53C ++ (leBytes 2 (intervalLength r.orders.length) ++ (leBytes 1 (kindCode r.reason) ++
    (leBytes 1 (reasonCode r.reason) ++ (leBytes 1 r.cause.code ++ (leBytes 1 r.account.val ++ (leBytes 4 r.index ++
    (leBytes 1 r.part ++ (leBytes 1 r.span ++ (leBytes 1 r.flags.bits ++ (leBytes 1 r.length ++ (r.name ++
    (leBytes 4 r.windows ++ (leBytes 4 r.degraded ++ (leBytes 2 r.abandoned ++ (leBytes 1 r.plansUsed.toNat ++
    (leBytes 1 (r.planAtClose.elim 255 Fin.val) ++ (leBytes 4 r.peak1 ++ (r.wholes.list.flatMap (leBytes 4) ++
    (r.carries.list.flatMap (leBytes 6) ++ (leBytes 5 r.mask.toNat ++ (leBytes 1 r.orders.length ++
    (r.orders.flatMap OrderEntry.bytes ++ leBytes 2 (crc16 r.head).toNat)))))))))))))))))))))) := by
  have hkind : [if r.reason.isSome then (0x12 : Byte) else 0x11] = leBytes 1 (kindCode r.reason) := by
    cases r.reason <;> rfl
  show r.head ++ leBytes 2 (crc16 r.head).toNat = _
  generalize (crc16 r.head).toNat = crc
  unfold IntervalRecord.head
  rw [hkind, byteList_eq r.plansUsed, planByte_eq, Mains.fields_eq, Mains.fields_eq]
  simp only [List.append_assoc]
  rfl

theorem intervalRecord_head_length {r : IntervalRecord} (hn : r.name.length = 8) :
    r.head.length = 126 + 14 * r.orders.length := by
  have h := congrArg List.length (intervalRecord_eq r)
  have hb : (Record.interval r).bytes.length = r.head.length + 2 := withCrc_length r.head
  have hw : ∀ (m : Mains Nat) (k : Nat), (m.list.flatMap (leBytes k)).length = k * 8 := fun m k =>
    flatMap_length _ fun x => leBytes_length k x
  rw [hb] at h
  simp only [List.length_append, leBytes_length, hw, flatMap_length _ OrderEntry.bytes_length, hn] at h
  omega

theorem reasonCode_eq (reason : Option CloseReason) : reasonCode reason % 256 = reasonCode reason :=
  Nat.mod_eq_of_lt (reasonCode_lt reason)

theorem CloseCause.code_lt (c : CloseCause) : c.code < 256 := by cases c <;> decide

/-- The check at the end of a record. -/
theorem check_at_end {head : List Byte} {n : Nat} (h : head.length = n) :
    field (withCrc head) n 2 = (crc16 ((withCrc head).take n)).toNat := by
  have hst : Stands (leBytes 2 (crc16 head).toNat) (withCrc head) n := ⟨head, [], by rw [List.append_nil]; rfl, h⟩
  rw [withCrc, ← h, List.take_left]
  rw [withCrc] at hst
  rw [h]
  exact hst.read (crc16 head).isLt

/-- The items of an interval record at their offsets (R115). -/
theorem intervalRecord_items (s : State) (a : Fin 16) (cause : CloseCause) (reason : Option CloseReason)
    (hn : (s.settings.name.get a).length = 8) :
    let b := (Record.interval (s.formRecord a cause reason)).bytes
    let acc := s.accounts.get a
    let ks := maskOrders acc.maskInForce
    b.length = 128 + 14 * ks.length ∧ Stands (leBytes 2 0xA53C) b 0 ∧ field b 2 2 = 128 + 14 * ks.length ∧
    byteAt b 4 = BitVec.ofNat 8 (kindCode reason % 256) ∧ field b 5 1 = reasonCode reason ∧ field b 6 1 = cause.code ∧
    field b 7 1 = a.val ∧ field b 8 4 = acc.recordIndex % 2 ^ 32 ∧ field b 12 1 = acc.part % 256 ∧
    field b 13 1 = acc.span % 256 ∧ byteAt b 14 = BitVec.ofNat 8 (acc.flags.bits % 256) ∧
    field b 15 1 = s.clock.length % 256 ∧ slice b 16 8 = s.settings.name.get a ∧
    field b 24 4 = acc.windows % 2 ^ 32 ∧ field b 28 4 = acc.degraded % 2 ^ 32 ∧
    field b 32 2 = acc.abandoned % 65536 ∧ byteAt b 34 = acc.plansUsed ∧
    field b 35 1 = s.selector.active.elim 255 Fin.val ∧ field b 36 4 = acc.peaks.get 0 % 2 ^ 32 ∧
    (∀ k : Fin 8, field b (40 + 4 * k.val) 4 = (acc.mains.list.getD k.val ⟨0, 0⟩).whole % 2 ^ 32 ∧
      field b (72 + 6 * k.val) 6 = (acc.mains.list.getD k.val ⟨0, 0⟩).residue % 2 ^ 48) ∧
    field b 120 5 = acc.maskInForce.toNat ∧ field b 125 1 = ks.length ∧
    ∀ (j : Nat) (i : Fin 39), ks[j]? = some i → Stands (acc.orderEntry i).bytes b (126 + 14 * j) := by
  intro b acc ks
  have hb := intervalRecord_eq (s.formRecord a cause reason)
  have hlen := intervalRecord_head_length (r := s.formRecord a cause reason) hn
  have hlength : b.length = (s.formRecord a cause reason).head.length + 2 := withCrc_length _
  have horders : (s.formRecord a cause reason).orders = ks.map acc.orderEntry := rfl
  rw [horders, List.length_map] at hlen
  have hks : ks.length ≤ 39 := (List.length_filter_le _ _).trans (by simp)
  have hw : ∀ (f : Acc → Nat) (k : Nat), ((acc.mains.map f).list.flatMap (leBytes k)).length = k * 8 := fun f k =>
    flatMap_length _ fun x => leBytes_length k x
  have h0 := EndsWith.start hb
  have h2 := h0.next (leBytes_length 2 _)
  have h4 := h2.next (leBytes_length 2 _)
  have h5 := h4.next (leBytes_length 1 _)
  have h6 := h5.next (leBytes_length 1 _)
  have h7 := h6.next (leBytes_length 1 _)
  have h8 := h7.next (leBytes_length 1 _)
  have h12 := h8.next (leBytes_length 4 _)
  have h13 := h12.next (leBytes_length 1 _)
  have h14 := h13.next (leBytes_length 1 _)
  have h15 := h14.next (leBytes_length 1 _)
  have h16 := h15.next (leBytes_length 1 _)
  have h24 := h16.next (by exact hn)
  have h28 := h24.next (leBytes_length 4 _)
  have h32 := h28.next (leBytes_length 4 _)
  have h34 := h32.next (leBytes_length 2 _)
  have h35 := h34.next (leBytes_length 1 _)
  have h36 := h35.next (leBytes_length 1 _)
  have h40 := h36.next (leBytes_length 4 _)
  have h72 := h40.next (hw _ 4)
  have h120 := h72.next (hw _ 6)
  have h125 := h120.next (leBytes_length 5 _)
  have h126 := h125.next (leBytes_length 1 _)
  have hcount : (s.formRecord a cause reason).orders.length = ks.length := by rw [horders, List.length_map]
  refine ⟨by omega, h0.stands, ?_, h4.stands.readsByte, ?_, ?_, ?_, h8.stands.reads, h12.stands.reads, h13.stands.reads,
    h14.stands.readsByte, h15.stands.reads, h16.stands.slice hn, h24.stands.reads, h28.stands.reads, h32.stands.reads,
    byteAt_of_field h34.stands.reads, ?_, h36.stands.reads, fun k => ⟨?_, ?_⟩, ?_, ?_, fun j i hj => ?_⟩
  · refine (h2.stands.read ?_).trans ?_
    · rw [intervalLength, hcount]
      omega
    · rw [intervalLength, hcount]
  · exact h5.stands.read (reasonCode_lt reason)
  · exact h6.stands.read cause.code_lt
  · exact h7.stands.read (lt_of_lt_of_le a.isLt (by decide))
  · exact h35.stands.read (elim_val_lt _ (by decide) (by decide))
  · exact (h40.stands.trans (stands_list (fun x => leBytes_length 4 x) (acc.mains.list_map (·.whole) k))).reads
  · exact (h72.stands.trans (stands_list (fun x => leBytes_length 6 x) (acc.mains.list_map (·.residue) k))).reads
  · exact h120.stands.read (lt_of_lt_of_le acc.maskInForce.isLt (by decide))
  · refine (h125.stands.read ?_).trans hcount
    rw [hcount]
    omega
  · refine h126.stands.trans (stands_list OrderEntry.bytes_length ?_)
    rw [horders, List.getElem?_map, hj]
    rfl

/-- The items of an order list entry at their offsets. -/
theorem OrderEntry.items {e : OrderEntry} {b : List Byte} {off : Nat} (h : Stands e.bytes b off) :
    field b off 4 = e.absorbed % 2 ^ 32 ∧ field b (off + 4) 4 = e.emitted % 2 ^ 32 ∧
    field b (off + 8) 4 = e.peak % 2 ^ 32 ∧ field b (off + 12) 2 = e.exceed % 65536 := by
  have h0 := EndsWith.start e.bytes_eq
  have h4 := h0.next (leBytes_length 4 _)
  have h8 := h4.next (leBytes_length 4 _)
  have h12 := h8.next (leBytes_length 4 _)
  exact ⟨(h.trans h0.stands).reads, (h.trans h4.stands).reads, (h.trans h8.stands).reads, (h.trans h12.last).reads⟩

/-- A topology record as its items one behind the other, the check last. -/
theorem topologyRecord_eq (r : TopologyRecord) : (Record.topology r).bytes =
    leBytes 2 0xA53C ++ (leBytes 2 20 ++ (leBytes 1 0x21 ++ (leBytes 1 (r.oldPlan.elim 255 Fin.val) ++
    (leBytes 1 r.newPlan.val ++ (leBytes 1 r.word.toNat ++ (leBytes 4 r.index ++ (leBytes 1 r.part ++
    (leBytes 4 r.window ++ (leBytes 1 r.abandoned.toNat ++ leBytes 2 (crc16 r.head).toNat))))))))) := by
  show r.head ++ leBytes 2 (crc16 r.head).toNat = _
  generalize (crc16 r.head).toNat = crc
  unfold TopologyRecord.head
  rw [byteList_eq r.word, planByte_eq]
  simp only [List.append_assoc]
  rfl

theorem topologyRecord_items (r : TopologyRecord) : let b := (Record.topology r).bytes
    b.length = 20 ∧ slice b 0 2 = [0x3C, 0xA5] ∧ field b 2 2 = 20 ∧ byteAt b 4 = 0x21 ∧
    field b 5 1 = r.oldPlan.elim 255 Fin.val ∧ field b 6 1 = r.newPlan.val ∧
    byteAt b 7 = r.word ∧ field b 8 4 = r.index % 2 ^ 32 ∧ field b 12 1 = r.part % 256 ∧
    field b 13 4 = r.window % 2 ^ 32 ∧ field b 17 1 = r.abandoned.toNat := by
  intro b
  have hb := topologyRecord_eq r
  have hlen : b.length = 20 := by
    rw [show b = (Record.topology r).bytes from rfl, hb]
    simp only [List.length_append, leBytes_length]
  have h0 := EndsWith.start hb
  have h2 := h0.next (leBytes_length 2 _)
  have h4 := h2.next (leBytes_length 2 _)
  have h5 := h4.next (leBytes_length 1 _)
  have h6 := h5.next (leBytes_length 1 _)
  have h7 := h6.next (leBytes_length 1 _)
  have h8 := h7.next (leBytes_length 1 _)
  have h12 := h8.next (leBytes_length 4 _)
  have h13 := h12.next (leBytes_length 1 _)
  have h17 := h13.next (leBytes_length 4 _)
  exact ⟨hlen, h0.stands.slice rfl, h2.stands.read (by decide), h4.stands.readsByte,
    h5.stands.read (elim_val_lt _ (by decide) (by decide)), h6.stands.read (r.newPlan.isLt.trans (by decide)),
    byteAt_of_field h7.stands.reads, h8.stands.reads, h12.stands.reads, h13.stands.reads,
    h17.stands.read (lt_of_le_of_lt (Bool.toNat_le _) (by decide))⟩

/-- Settles O34: the items at their offsets, and the check behind them. -/
theorem recordsAreFormed : Obligations.RecordsAreFormed := by
  refine ⟨fun s a cause reason hn => ?_, fun r => ?_⟩
  · obtain ⟨hlen, h0, h2, h4, h5, h6, h7, h8, h12, h13, h14, h15, h16, h24, h28, h32, h34, h35, h36, hgroups, h120, h125,
      hentries⟩ := intervalRecord_items s a cause reason hn
    obtain ⟨f0, f1, f2, f3, f4, f5⟩ := IntervalFlags.bits_spec _ h14
    have hhead := intervalRecord_head_length (r := s.formRecord a cause reason) hn
    rw [show (s.formRecord a cause reason).orders.length = (maskOrders (s.accounts.get a).maskInForce).length from
      List.length_map _] at hhead
    refine ⟨hlen, h0.slice rfl, h2, ?_, ?_, ?_, h7, h8, h12, h13, f0, f1, f2, f3, f4, f5, h15, h16, h24, h28, h32, h34, ?_,
      h36, hgroups, h120, h125, fun j i hj => ?_, check_at_end hhead, crcOk_withCrc _⟩
    · rw [h4]
      cases reason <;> rfl
    · rw [h5]
      cases reason with
      | none => rfl
      | some r => cases r <;> rfl
    · rw [h6]
      cases cause <;> rfl
    · rw [h35]
      cases s.selector.active <;> rfl
    · obtain ⟨e0, e4, e8, e12⟩ := OrderEntry.items (hentries j i hj)
      have hoff : ∀ n, 126 + n + 14 * j = 126 + 14 * j + n := fun n => by omega
      refine ⟨e0, ?_, ?_, ?_⟩
      · rw [show 130 + 14 * j = _ from hoff 4]
        exact e4
      · rw [show 134 + 14 * j = _ from hoff 8]
        exact e8
      · rw [show 138 + 14 * j = _ from hoff 12]
        exact e12
  · obtain ⟨hlen, h0, h2, h4, h5, h6, h7, h8, h12, h13, h17⟩ := topologyRecord_items r
    have hhead : r.head.length = 18 := by
      have h : (Record.topology r).bytes.length = r.head.length + 2 := withCrc_length r.head
      omega
    refine ⟨hlen, h0, h2, h4, ?_, h6, h7, h8, h12, h13, h17, check_at_end hhead, crcOk_withCrc _⟩
    rw [h5]
    cases r.oldPlan <;> rfl

end Sys2Proof.Machine
end

section
/-! PROOFS. The archive's writer (O35): the ring and its next segment, the head programmed FULL, the segment opened, the
reclaim test of the writer's need, and the erase that it waits for. -/

/- The whole text is compiled as one file: these proofs are elaborated one after another, to stay within its memory. -/
set_option Elab.async false

namespace Sys2Proof.Machine
namespace State

/-! ### The ring (R113, R116) -/

/-- The segments in the order in which the writer looks for the next one (R113). -/
def ring (s : State) : List (Fin 256) := s.archive.head.elim (List.finRange 256) ringAfter

theorem nextSegment_eq (s : State) :
    s.nextSegment = s.ring.find? fun g => (s.nv.segments.get g).marker != .retired := by
  cases h : s.archive.head <;> simp only [nextSegment, ring, h, seg, Option.elim_none, Option.elim_some]

/-- The next segment is read off the head and the RETIRED segments. -/
theorem nextSegment_congr {s t : State} (hh : t.archive.head = s.archive.head)
    (hm : ∀ g, (t.nv.segments.get g).marker = .retired ↔ (s.nv.segments.get g).marker = .retired) :
    t.nextSegment = s.nextSegment := by
  rw [nextSegment_eq, nextSegment_eq, ring, ring, hh]
  refine congrArg (List.find? · _) (funext fun g => ?_)
  rw [Bool.eq_iff_iff, bne_iff_ne, bne_iff_ne, ne_eq, hm g]

theorem nextSegment_behind {s : State} {h k : Fin 256} (hh : s.archive.head = some h)
    (hk : (s.nv.segments.get (h + 1 + k)).marker ≠ .retired)
    (hj : ∀ j, j < k → (s.nv.segments.get (h + 1 + j)).marker = .retired) : s.nextSegment = some (h + 1 + k) := by
  have hfind : (List.finRange 256).find? (fun i => (s.nv.segments.get (h + 1 + i)).marker != .retired) = some k :=
    (find?_finRange _ k).2 ⟨by simpa using hk, fun j hlt => by simpa using hj j hlt⟩
  rw [nextSegment_eq, ring, hh, Option.elim_some, ringAfter, List.find?_map]
  exact congrArg (Option.map _) hfind

theorem nextSegment_headless {s : State} {g : Fin 256} (hh : s.archive.head = none)
    (hg : (s.nv.segments.get g).marker ≠ .retired) (hx : ∀ x, x < g → (s.nv.segments.get x).marker = .retired) :
    s.nextSegment = some g := by
  rw [nextSegment_eq, ring, hh, Option.elim_none]
  exact (find?_finRange _ g).2 ⟨by simpa using hg, fun j hlt => by simpa using hx j hlt⟩

theorem nextSegment_none {s : State} (h : ∀ g, (s.nv.segments.get g).marker = .retired) : s.nextSegment = none := by
  rw [nextSegment_eq, List.find?_eq_none]
  simp [h]

theorem nextSegment_marker {s : State} {g : Fin 256} (h : s.nextSegment = some g) :
    (s.nv.segments.get g).marker ≠ .retired := by
  rw [nextSegment_eq] at h
  simpa using List.find?_some h

/-! ### The OPEN head -/

theorem openHead_iff (s : State) (h : Fin 256) :
    s.openHead = some h ↔ s.archive.head = some h ∧ (s.nv.segments.get h).marker = .opened := by
  refine ⟨openHead_marker, fun ⟨hh, hm⟩ => ?_⟩
  simp [openHead, hh, seg, hm]

theorem openHead_none {s : State} (h : ∀ g, s.archive.head = some g → (s.nv.segments.get g).marker ≠ .opened) :
    s.openHead = none :=
  Option.eq_none_iff_forall_ne_some.2 fun g hg =>
    h g ((s.openHead_iff g).1 hg).1 ((s.openHead_iff g).1 hg).2

theorem fits_iff (s : State) (n : Nat) : s.fits n = true ↔ (∃ h, s.openHead = some h) ∧ s.archive.writePos + n ≤ 32768 := by
  simp [fits, Option.isSome_iff_exists]

theorem fits_none {s : State} (h : s.openHead = none) (n : Nat) : s.fits n = false := by simp [fits, h]

/-- The segments with the OPEN head programmed FULL (R116). -/
def filledRing (s : State) : Table Segment 256 :=
  s.openHead.elim s.nv.segments fun h => s.nv.segments.put h { s.nv.segments.get h with marker := .full }

theorem filledRing_get (s : State) (x : Fin 256) : s.filledRing.get x =
    if s.openHead = some x then { s.nv.segments.get x with marker := .full } else s.nv.segments.get x := by
  unfold filledRing
  cases ho : s.openHead with
  | none => simp
  | some h =>
    rw [Option.elim_some, Table.get_put]
    by_cases e : h = x
    · rw [if_pos e, if_pos (congrArg some e), e]
    · rw [if_neg e, if_neg fun he => e (Option.some.inj he)]

theorem fillHead_eq (s : State) : s.fillHead = { s with nv := { s.nv with segments := s.filledRing } } := by
  unfold fillHead filledRing
  cases s.openHead <;> rfl

theorem fillHead_nextSegment (s : State) : s.fillHead.nextSegment = s.nextSegment := by
  rw [fillHead_eq]
  refine nextSegment_congr (by rfl) fun g => ?_
  show (s.filledRing.get g).marker = _ ↔ _
  rw [filledRing_get]
  split
  · next ho => simp [((s.openHead_iff g).1 ho).2]
  · rfl

theorem fillHead_openHead (s : State) : s.fillHead.openHead = none := by
  rw [fillHead_eq]
  refine openHead_none fun g hg => ?_
  show (s.filledRing.get g).marker ≠ _
  rw [filledRing_get]
  split
  · exact Marker.noConfusion
  · next ho => exact fun hm => ho ((s.openHead_iff g).2 ⟨hg, hm⟩)

/-- The segments filled, one of them put anew. -/
theorem filledExcept_put (s t : State) (g : Fin 256) (x : Segment) (h : t.nv.segments = s.filledRing.put g x) :
    s.filledExcept t (some g) := fun y hy => by
  rw [h, Table.get_put, if_neg fun e => hy (congrArg some e), filledRing_get]

/-! ### Segments opened, erases begun -/

theorem beginWrite_eq (s : State) : s.beginWrite = { s with archive := { s.archive with
    writing := true, state := if s.archive.state = .idle then .writing else .suspended } } := by
  by_cases h : s.archive.state = .idle <;> simp [beginWrite, onArchive, h]

theorem openSegment_ok (s : State) (g : Fin 256) : s.openSegment g true = { s with
    nv := { s.nv with segments := s.nv.segments.put g ⟨.opened, s.archive.nextSeq, []⟩ }
    archive := { s.archive with
      nextSeq := s.archive.nextSeq + 1, head := some g, writePos := 16, writing := true
      state := if s.archive.state = .idle then .writing else .suspended } } := by
  have h : s.openSegment g true = (((s.onArchive fun a => { a with nextSeq := s.archive.nextSeq + 1 }).putSeg g
      ⟨.opened, s.archive.nextSeq, []⟩).onArchive fun a => { a with head := some g, writePos := 16 }).beginWrite := rfl
  rw [h, beginWrite_eq]
  rfl

theorem openSegment_failing (s : State) (g : Fin 256) : s.openSegment g false = { s with
    nv := { s.nv with segments := s.nv.segments.put g ⟨.retired, 0, []⟩ }
    archive := { s.archive with nextSeq := s.archive.nextSeq + 1, state := .stopped, error := .eraseFail }
    notices := (s.latch .archiveError).notices } := rfl

theorem beginErase_eq (s : State) (g : Fin 256) : s.beginErase g = { s with
    nv := { s.nv with segments := s.nv.segments.put g { s.nv.segments.get g with marker := .reclaiming } }
    archive := { s.archive with
      erase := some g, heldInd := false
      state := if s.archive.writing = true then .suspended else .reclaiming } } := rfl

theorem becomeHeld_eq (s : State) : s.becomeHeld = { s with
    archive := { s.archive with heldInd := true }
    notices := if s.archive.heldInd = true then s.notices else (s.latch .archiveHeld).notices } := by
  unfold becomeHeld onArchive
  cases s.archive.heldInd <;> rfl

theorem becomeHeld_becameHeld (s : State) : s.becameHeld s.becomeHeld := by
  rw [becomeHeld_eq]
  refine ⟨rfl, fun h => if_pos h, fun h => ?_⟩
  have hn : ¬ s.archive.heldInd = true := by rw [h]; exact Bool.false_ne_true
  refine ⟨if_neg hn, ?_⟩
  show (if s.archive.heldInd = true then s.notices else (s.latch .archiveHeld).notices).latched.getLsbD 7 = true
  rw [if_neg hn]
  simp [latch_getLsbD, Notice.bit]

/-- The reclaim test begins the erase that is wanted and allowed (R121). -/
theorem reclaimTest_begins {s : State} {g : Fin 256} (hw : s.wantsReclaim g) (ha : s.allowsReclaim g) :
    s.reclaimTest = s.beginErase g := by
  obtain ⟨-, -, -, -, hst⟩ := id hw
  have hs : (s.archive.state == .stopped) = false := by
    obtain h | h := hst <;> simp [h]
  simp [reclaimTest, hs, (s.reclaimWanted_iff g).2 hw, (s.reclaimAllowed_iff g).2 ha]

/-- The reclaim test holds the archive where reclaim is wanted and not allowed (R122). -/
theorem reclaimTest_holds {s : State} {g : Fin 256} (hw : s.wantsReclaim g) (ha : ¬ s.allowsReclaim g) :
    s.reclaimTest = s.becomeHeld := by
  obtain ⟨-, -, -, -, hst⟩ := id hw
  have hs : (s.archive.state == .stopped) = false := by
    obtain h | h := hst <;> simp [h]
  have hr : s.reclaimAllowed g = false := Bool.eq_false_iff.2 fun h => ha ((s.reclaimAllowed_iff g).1 h)
  simp [reclaimTest, hs, (s.reclaimWanted_iff g).2 hw, hr]

/-! ### The erase that the writer waits for (R124, R138) -/

theorem resumeErase_running {s : State} (h : s.archive.state ≠ .suspended) : s.resumeErase = s := by
  rw [resumeErase_eq, if_neg fun hc => h hc.1]

theorem settleErase_running {s : State} (h : s.archive.state ≠ .suspended) : s.settleErase = s := by
  obtain he | he := s.settleErase_cases
  · exact he
  · rw [he, resumeErase_running h]

/-- A suspended erase stands while the oldest record fits the head (R124). -/
theorem settleErase_fits {s : State} {r : Record} {rest : List Record} (hq : s.queue = r :: rest)
    (hf : s.fits r.bytes.length = true) : s.settleErase = s := by
  simp [settleErase, oldest, hq, hf]

/-- It resumes for a record that does not fit; while closing, for one that needs the segment under erase (R124, R138). -/
theorem settleErase_resumes {s : State} {r : Record} {rest : List Record} (hq : s.queue = r :: rest)
    (hf : s.fits r.bytes.length = false) (hn : s.closing = false ∨ s.nextUnderErase = true) :
    s.settleErase = s.resumeErase := by
  obtain h | h := hn <;> simp [settleErase, oldest, hq, hf, h]

/-! ### The writer (R116) -/

theorem exec_writerTakeRecord {s : State} (ok : Bool) (h : s.stopped = false) :
    exec (.writerTakeRecord ok) s = .next (s.writerTake ok) := by
  have he : exec (.writerTakeRecord ok) s = .next (s.whenAlive (writerTake ok)) := rfl
  rw [he, whenAlive_running _ _ h]

theorem writerTake_idle {s : State} (ok : Bool) (h : s.queue = [] ∨ s.writerFree = false) : writerTake ok s = s := by
  cases hq : s.queue with
  | nil => simp [writerTake, oldest, hq]
  | cons r rest =>
    obtain h | h := h
    · exact absurd (hq.symm.trans h) (List.cons_ne_nil _ _)
    · simp [writerTake, oldest, hq, h]

theorem writerFree_iff (s : State) : s.writerFree = true ↔ s.archive.writing = false ∧
    (s.archive.state = .idle ∨ s.archive.state = .reclaiming ∨ s.archive.state = .suspended) := by
  simp [writerFree, or_assoc]

theorem writerTake_fits {s : State} {r : Record} {rest : List Record} (ok : Bool) (hfree : s.writerFree = true)
    (hq : s.queue = r :: rest) (hf : s.fits r.bytes.length = true) : writerTake ok s = s.beginWrite := by
  simp [writerTake, oldest, hq, hfree, hf]

theorem writerTake_needs {s : State} {r : Record} {rest : List Record} (ok : Bool) (hfree : s.writerFree = true)
    (hq : s.queue = r :: rest) (hf : s.fits r.bytes.length = false) : writerTake ok s = s.fillHead.needSegment ok := by
  simp [writerTake, oldest, hq, hfree, hf]

theorem needSegment_blank {s : State} {g : Fin 256} (ok : Bool) (hn : s.nextSegment = some g)
    (hm : (s.nv.segments.get g).marker = .blank) : s.needSegment ok = s.openSegment g ok := by
  simp [needSegment, hn, seg, hm]

theorem needSegment_full {s : State} {g : Fin 256} (ok : Bool) (hn : s.nextSegment = some g)
    (hm : (s.nv.segments.get g).marker = .full) : s.needSegment ok = s.settleErase.reclaimTest := by
  simp [needSegment, hn, seg, hm]

theorem needSegment_reclaiming {s : State} {g : Fin 256} (ok : Bool) (hn : s.nextSegment = some g)
    (hm : (s.nv.segments.get g).marker = .reclaiming) : s.needSegment ok = s.settleErase := by
  simp [needSegment, hn, seg, hm]

/-- With every segment RETIRED no segment is OPEN, and the writer does nothing (R116). -/
theorem fillHead_retired {s : State} (h : s.nextSegment = none) : s.fillHead.needSegment true = s ∧
    s.fillHead.needSegment false = s := by
  have hret : ∀ g ∈ s.ring, (s.nv.segments.get g).marker = .retired := fun g hg => by
    have := List.find?_eq_none.1 (s.nextSegment_eq.symm.trans h) g hg
    simpa using this
  have hno : s.openHead = none := openHead_none fun g hg hm => by
    have hmem : g ∈ s.ring := by
      rw [ring, hg, Option.elim_some, ringAfter, List.mem_map]
      exact ⟨g - (g + 1), List.mem_finRange _, by omega⟩
    exact Marker.noConfusion (hm.symm.trans (hret g hmem))
  have hfill : s.fillHead = s := by simp [fillHead, hno]
  rw [hfill]
  constructor <;> simp [needSegment, h]

end State

/-- Settles O35: the writer by what the next segment is. -/
theorem writerTakesRecord : Obligations.WriterTakesRecord := by
  refine ⟨fun s => ⟨fun h k => State.nextSegment_behind, fun g => State.nextSegment_headless, State.nextSegment_none⟩,
    fun s ok ha => ⟨fun h => ?_, fun h => ?_, fun r rest hw hst hq => ⟨fun h ho hfit => ?_, fun hfull => ⟨fun hnone => ?_,
      fun g hnext hne => ?_⟩⟩⟩⟩
  · rw [State.exec_writerTakeRecord ok ha, State.writerTake_idle ok (h.imp_right fun hw => by simp [State.writerFree, hw])]
  · have hfree : s.writerFree = false := by
      obtain h | h | h | h := h <;> simp [State.writerFree, h]
    rw [State.exec_writerTakeRecord ok ha, State.writerTake_idle ok (.inr hfree)]
  · have hfree := s.writerFree_iff.2 ⟨hw, hst⟩
    rw [State.exec_writerTakeRecord ok ha,
      State.writerTake_fits ok hfree hq ((s.fits_iff _).2 ⟨⟨h, ho⟩, hfit⟩), State.beginWrite_eq]
  all_goals
    have hfree := s.writerFree_iff.2 ⟨hw, hst⟩
    have hf : s.fits r.bytes.length = false := Bool.eq_false_iff.2 fun hf => by
      obtain ⟨⟨h, ho⟩, hle⟩ := (s.fits_iff _).1 hf
      exact absurd hle (Nat.not_le_of_lt (hfull h ho))
    rw [State.exec_writerTakeRecord ok ha, State.writerTake_needs ok hfree hq hf]
  · cases ok
    · rw [(State.fillHead_retired hnone).2]
    · rw [(State.fillHead_retired hnone).1]
  · have hn : s.fillHead.nextSegment = some g := s.fillHead_nextSegment.trans hnext
    have hno := s.fillHead_openHead
    have hseg : s.filledRing.get g = s.nv.segments.get g := (s.filledRing_get g).trans (if_neg hne)
    have hsg : s.fillHead.nv.segments.get g = s.nv.segments.get g := by rw [State.fillHead_eq]; exact hseg
    refine ⟨fun hm => ?_, fun hm he hidle => ?_, fun hm he => ?_⟩
    · rw [State.needSegment_blank ok hn (by rw [hsg]; exact hm), State.fillHead_eq]
      cases ok
      · rw [State.openSegment_failing]
        refine ⟨_, rfl, rfl, s.filledExcept_put _ g _ rfl, rfl, fun h => Bool.noConfusion h,
          fun _ => ⟨Table.get_put_same _ _ _, rfl, rfl, hw, ?_⟩, rfl⟩
        exact (s.latch_getLsbD .archiveError 8).trans (by simp [Notice.bit])
      · rw [State.openSegment_ok]
        exact ⟨_, rfl, rfl, s.filledExcept_put _ g _ rfl, rfl,
          fun _ => ⟨Table.get_put_same _ _ _, rfl, rfl, rfl, rfl⟩, fun h => Bool.noConfusion h, rfl⟩
    · rw [State.needSegment_full ok hn (by rw [hsg]; exact hm), State.settleErase_running (by
        rw [State.fillHead_archive, hidle]; exact fun h => ArchiveState.noConfusion h)]
      have hwants : s.fillHead.wantsReclaim g := by
        refine ⟨hn, by rw [hsg]; exact hm, .inl hno, ?_, .inl ?_⟩ <;> rw [State.fillHead_archive] <;> assumption
      have hallow : s.fillHead.allowsReclaim g ↔ s.allowsReclaim g := by
        unfold State.allowsReclaim
        rw [hsg, State.fillHead_archive, State.fillHead_settings]
      by_cases hal : s.allowsReclaim g
      · rw [State.reclaimTest_begins hwants (hallow.2 hal), State.fillHead_eq, State.beginErase_eq]
        refine ⟨_, rfl, rfl, hw, rfl, fun _ => ⟨⟨?_, rfl, ?_, rfl, rfl⟩, s.filledExcept_put _ g _ rfl⟩,
          fun h => absurd hal h, rfl⟩
        · exact (Table.get_put_same _ _ _).trans (by rw [hseg])
        · exact if_neg (by rw [hw]; exact Bool.false_ne_true)
      · have hheld := s.fillHead.becomeHeld_becameHeld
        rw [State.reclaimTest_holds hwants (fun h => hal (hallow.1 h))]
        rw [State.becomeHeld_eq, State.fillHead_eq] at hheld ⊢
        exact ⟨_, rfl, rfl, hw, rfl, fun h => absurd h hal, fun _ => ⟨hheld, fun x _ => s.filledRing_get x, rfl⟩, rfl⟩
    · have hund : s.fillHead.nextUnderErase = true := by
        rw [State.nextUnderErase, hn, State.fillHead_archive, he]
        simp
      rw [State.needSegment_reclaiming ok hn (by rw [hsg]; exact hm),
        State.settleErase_resumes (r := r) (rest := rest) (by rw [State.fillHead_queue, hq]) (State.fits_none hno _)
          (.inr hund), State.resumeErase_eq, State.fillHead_eq]
      refine ⟨_, rfl, rfl, fun x _ => s.filledRing_get x, ?_, rfl⟩
      simp [hw]

end Sys2Proof.Machine
end

section
/-! PROOFS. A record write that verifies (O36): the bytes programmed, the reclaim test past half full, the erase settled,
and the clear that waited for the write. -/

/- The whole text is compiled as one file: these proofs are elaborated one after another, to stay within its memory. -/
set_option Elab.async false

namespace Sys2Proof.Machine
namespace State

/-! ### The reclaim test outside the writer's need, case by case (R121, R122, R125, R138) -/

/-- The held indication set to a value, with nothing else changed. -/
def heldTo (s : State) (b : Bool) : State := { s with archive := { s.archive with heldInd := b } }

theorem reclaimTestRunning_unwanted {s : State} (hs : s.archive.state ≠ .stopped) (h : ∀ g, ¬ s.wantsReclaim g) :
    s.reclaimTestRunning = s.heldTo false := by
  have hw : s.reclaimWanted = none := Option.eq_none_iff_forall_ne_some.2 fun g hg => h g ((s.reclaimWanted_iff g).1 hg)
  simp [reclaimTestRunning, reclaimTestHeld, reclaimTest, hs, hw, onArchive, heldTo]

theorem reclaimTestRunning_inStopped {s : State} (hs : s.archive.state = .stopped) : s.reclaimTestRunning = s := by
  simp [reclaimTestRunning, reclaimTestHeld, reclaimTest, hs]

theorem wantsReclaim_stopped {s : State} {g : Fin 256} (h : s.wantsReclaim g) : s.archive.state ≠ .stopped := by
  obtain ⟨-, -, -, -, h | h⟩ := h <;> rw [h] <;> exact ArchiveState.noConfusion

theorem reclaimTestRunning_closing {s : State} {g : Fin 256} (hw : s.wantsReclaim g) (ha : s.allowsReclaim g)
    (hc : s.isClosing) : s.reclaimTestRunning = s.heldTo false := by
  simp [reclaimTestRunning, reclaimTestHeld, wantsReclaim_stopped hw, (s.reclaimWanted_iff g).2 hw,
    (s.reclaimAllowed_iff g).2 ha, s.closing_iff.2 hc, onArchive, heldTo]

theorem reclaimTestRunning_begins {s : State} {g : Fin 256} (hw : s.wantsReclaim g) (ha : s.allowsReclaim g)
    (hc : ¬ s.isClosing) : s.reclaimTestRunning = s.beginErase g := by
  have hc' : s.closing = false := Bool.eq_false_iff.2 fun h => hc (s.closing_iff.1 h)
  rw [reclaimTestRunning, hc', if_neg Bool.false_ne_true, reclaimTest_begins hw ha]

theorem reclaimTestRunning_holds {s : State} {g : Fin 256} (hw : s.wantsReclaim g) (ha : ¬ s.allowsReclaim g) :
    s.reclaimTestRunning = s.becomeHeld := by
  have hr : s.reclaimAllowed g = false := Bool.eq_false_iff.2 fun h => ha ((s.reclaimAllowed_iff g).1 h)
  rw [reclaimTestRunning, reclaimTest_holds hw ha]
  simp [reclaimTestHeld, wantsReclaim_stopped hw, (s.reclaimWanted_iff g).2 hw, hr]

/-- What such a test can do: settle the held indication, begin the erase that is wanted, or hold the archive. -/
theorem reclaimTestRunning_cases (s : State) : (∃ b, s.reclaimTestRunning = s.heldTo b) ∨
    (∃ g, s.wantsReclaim g ∧ s.allowsReclaim g ∧ s.reclaimTestRunning = s.beginErase g) ∨ s.reclaimTestRunning = s.becomeHeld := by
  by_cases hs : s.archive.state = .stopped
  · exact .inl ⟨s.archive.heldInd, reclaimTestRunning_inStopped hs⟩
  by_cases hw : ∃ g, s.wantsReclaim g
  · obtain ⟨g, hw⟩ := hw
    by_cases ha : s.allowsReclaim g
    · by_cases hc : s.isClosing
      · exact .inl ⟨false, reclaimTestRunning_closing hw ha hc⟩
      · exact .inr (.inl ⟨g, hw, ha, reclaimTestRunning_begins hw ha hc⟩)
    · exact .inr (.inr (reclaimTestRunning_holds hw ha))
  · exact .inl ⟨false, reclaimTestRunning_unwanted hs fun g hg => hw ⟨g, hg⟩⟩

/-! ### What a reclaim test and the erase settled leave as it was -/

/-- From `s` to `t` at most an erase began, was held or was resumed: a FULL segment may be RECLAIMING, and the archive's
erase, state and held indication may differ. -/
def reclaimOnly (s t : State) : Prop :=
  t = { s with
    nv := { s.nv with segments := t.nv.segments }, notices := t.notices
    archive := { s.archive with erase := t.archive.erase, state := t.archive.state, heldInd := t.archive.heldInd } } ∧
  ∀ g, t.nv.segments.get g = s.nv.segments.get g ∨ (s.nv.segments.get g).marker = .full ∧
    t.nv.segments.get g = { s.nv.segments.get g with marker := .reclaiming }

theorem reclaimOnly.refl (s : State) : s.reclaimOnly s := ⟨rfl, fun _ => .inl rfl⟩

theorem reclaimTestRunning_reclaimOnly (s : State) : s.reclaimOnly s.reclaimTestRunning := by
  obtain ⟨b, h⟩ | ⟨g, hw, -, h⟩ | h := s.reclaimTestRunning_cases
  · rw [h]
    exact ⟨rfl, fun _ => .inl rfl⟩
  · rw [h, beginErase_eq]
    refine ⟨rfl, fun x => ?_⟩
    by_cases hx : g = x
    · subst hx
      exact .inr ⟨hw.2.1, Table.get_put_same _ _ _⟩
    · exact .inl (Table.get_put_other _ _ _ _ hx)
  · rw [h, becomeHeld_eq]
    exact ⟨rfl, fun _ => .inl rfl⟩

theorem halfTest_reclaimOnly (s : State) : s.reclaimOnly s.halfTest := by
  unfold halfTest
  split
  · exact s.reclaimTestRunning_reclaimOnly
  · exact .refl s

theorem reclaimOnly.settled {s t : State} (h : s.reclaimOnly t) : s.reclaimOnly t.settleErase := by
  have hs := t.settleErase_eq
  generalize t.settleErase = u at hs
  generalize u.archive.state = x at hs
  subst hs
  obtain ⟨heq, hseg⟩ := h
  refine ⟨?_, hseg⟩
  exact congrArg (fun y : State => ({ y with archive := { y.archive with state := x } } : State)) heq

/-! ### The erase settled behind a write (R124, R138) -/

theorem settleErase_empty {s : State} (hq : s.queue = []) (hc : s.closing = false) : s.settleErase = s.resumeErase := by
  simp [settleErase, oldest, hq, hc]

theorem settleErase_empty_closing {s : State} (hq : s.queue = []) (hc : s.closing = true) : s.settleErase = s := by
  simp [settleErase, oldest, hq, hc]

theorem settleErase_closing_other {s : State} {r : Record} {rest : List Record} (hq : s.queue = r :: rest)
    (hc : s.closing = true) (hn : s.nextUnderErase = false) : s.settleErase = s := by
  simp [settleErase, oldest, hq, hc, hn]

theorem resumeErase_resumed {s : State} (hs : s.archive.state = .suspended) (hw : s.archive.writing = false) :
    s.resumeErase.archive.state = .reclaiming := by
  rw [resumeErase_eq, if_pos ⟨hs, hw⟩]

/-! ### The record programmed (R117) -/

/-- The state with the record of the bytes `bs` written into the head `h`: its place freed, the write ended (R117). -/
def recordWritten (s : State) (h : Fin 256) (bs : List Byte) : State :=
  { s with
    nv := { s.nv with segments := (s.program h bs).nv.segments }
    archive := { s.archive with
      writePos := s.archive.writePos + bs.length, writing := false, failedOnce := false
      state := if s.archive.state = .writing then .idle else s.archive.state }
    queue := s.queue.drop 1 }

theorem endWrite_eq (s : State) : s.endWrite = { s with archive := { s.archive with
    writing := false, state := if s.archive.state = .writing then .idle else s.archive.state } } := by
  by_cases h : s.archive.state = .writing <;> simp [endWrite, onArchive, h]

theorem recordWritten_eq (s : State) (h : Fin 256) (bs : List Byte) :
    (((s.program h bs).advance bs.length).endWrite).dropOldest = s.recordWritten h bs := by
  rw [endWrite_eq]
  rfl

theorem readBack_clean (bs : List Byte) : readBack bs [] = bs := by
  simp [readBack, List.zipIdx_map_fst]

theorem exec_recordWriteComplete {s : State} (bad : List (Nat × Byte)) (ok : Bool) (h : s.stopped = false) :
    exec (.recordWriteComplete bad ok) s = .next (s.writeComplete bad ok) := by
  have he : exec (.recordWriteComplete bad ok) s = .next (s.whenAlive (writeComplete bad ok)) := rfl
  rw [he, whenAlive_running _ _ h]

/-- A write that verifies is done as R117 and R131 say. -/
theorem exec_recordWritten {s : State} {h : Fin 256} {r : Record} {rest : List Record} (ok : Bool) (ha : s.stopped = false)
    (hw : s.archive.writing = true) (ho : s.headOpen h r rest) : exec (.recordWriteComplete [] ok) s =
      .next (if s.archive.clear = .waiting then (s.recordWritten h r.bytes).clearBegin
        else (s.recordWritten h r.bytes).halfTest.settleErase) := by
  obtain ⟨hhead, hold⟩ := headOpen_openHead ho
  have hdone : s.writeComplete [] ok = s.writeDone h r.bytes := by
    simp [writeComplete, hhead, hold, hw, readBack_clean]
  rw [exec_recordWriteComplete [] ok ha, hdone, writeDone, recordWritten_eq]
  simp

section
variable {s : State} {h : Fin 256} {r : Record} {rest : List Record} (ho : s.headOpen h r rest)
include ho

theorem recordWritten_programmed :
    (s.nv.segments.get h).programmed ((s.recordWritten h r.bytes).nv.segments.get h) s.archive.writePos r.bytes := by
  obtain ⟨-, -, -, hpos, harea, hfit⟩ := ho
  exact s.program_programmed h r.bytes hpos harea hfit

theorem recordWritten_marker (g : Fin 256) :
    ((s.recordWritten h r.bytes).nv.segments.get g).marker = (s.nv.segments.get g).marker := by
  by_cases hg : g = h
  · subst hg
    exact s.program_marker g r.bytes
  · exact congrArg Segment.marker (s.program_kept h r.bytes g hg)

theorem recordWritten_openHead : (s.recordWritten h r.bytes).openHead = some h := by
  obtain ⟨hhead, hm, -⟩ := id ho
  exact (openHead_iff _ h).2 ⟨hhead, (recordWritten_marker ho h).trans hm⟩

theorem recordWritten_nextSegment : (s.recordWritten h r.bytes).nextSegment = s.nextSegment :=
  nextSegment_congr (by rfl) fun g => by rw [recordWritten_marker ho g]

theorem recordWritten_queue : (s.recordWritten h r.bytes).queue = rest := by
  obtain ⟨-, -, hq, -⟩ := ho
  rw [recordWritten, hq]
  rfl

/-- Past half full, in WRITING, reclaim is wanted for a FULL next segment as it is wanted on the state before (R121). -/
theorem recordWritten_wants {g : Fin 256} (he : s.archive.erase = none) (hs : s.archive.state = .writing)
    (hp : 16384 < s.archive.writePos + r.bytes.length) : (s.recordWritten h r.bytes).wantsReclaim g ↔
      s.nextSegment = some g ∧ (s.nv.segments.get g).marker = .full := by
  have hstate : (s.recordWritten h r.bytes).archive.state = .idle := if_pos hs
  unfold wantsReclaim
  rw [recordWritten_nextSegment ho, recordWritten_marker ho, hstate]
  exact ⟨fun hw => ⟨hw.1, hw.2.1⟩, fun hw => ⟨hw.1, hw.2, .inr hp, he, .inl rfl⟩⟩

theorem recordWritten_allows {g : Fin 256} (hm : (s.nv.segments.get g).marker = .full) :
    (s.recordWritten h r.bytes).allowsReclaim g ↔ s.allowsReclaim g := by
  obtain ⟨-, hopen, -⟩ := ho
  have hg : g ≠ h := fun e => Marker.noConfusion (hm.symm.trans (e ▸ hopen))
  unfold allowsReclaim
  rw [show (s.recordWritten h r.bytes).nv.segments.get g = s.nv.segments.get g from s.program_kept h r.bytes g hg]
  exact Iff.rfl

omit ho in
theorem recordWritten_halfTest_below (hp : s.archive.writePos + r.bytes.length ≤ 16384) :
    (s.recordWritten h r.bytes).halfTest = s.recordWritten h r.bytes := by
  refine if_neg fun hc => ?_
  have hgt : 16384 < s.archive.writePos + r.bytes.length := of_decide_eq_true ((Bool.and_eq_true _ _ ▸ hc).2)
  omega

theorem recordWritten_halfTest_past (hp : 16384 < s.archive.writePos + r.bytes.length) :
    (s.recordWritten h r.bytes).halfTest = (s.recordWritten h r.bytes).reclaimTestRunning := by
  refine if_pos ?_
  rw [recordWritten_openHead ho, Option.isSome_some, Bool.true_and]
  exact decide_eq_true hp

/-- With an erase SUSPENDED the test finds reclaim not wanted (R121). -/
theorem recordWritten_halfTest_erasing {e : Fin 256} (hs : s.archive.state = .suspended) (he : s.archive.erase = some e) :
    (s.recordWritten h r.bytes).halfTest = (s.recordWritten h r.bytes).heldTo
      (s.archive.heldInd && decide (s.archive.writePos + r.bytes.length ≤ 16384)) := by
  by_cases hp : s.archive.writePos + r.bytes.length ≤ 16384
  · rw [recordWritten_halfTest_below hp, decide_eq_true hp, Bool.and_true]
    rfl
  · have hstate : (s.recordWritten h r.bytes).archive.state = .suspended := by
      refine (if_neg fun h => ?_).trans hs
      exact ArchiveState.noConfusion (hs.symm.trans h)
    have hun : ∀ g, ¬ (s.recordWritten h r.bytes).wantsReclaim g := fun g ⟨_, _, _, hnone, _⟩ =>
      Option.some_ne_none e (he.symm.trans hnone)
    rw [recordWritten_halfTest_past ho (Nat.lt_of_not_le hp), decide_eq_false hp, Bool.and_false,
      reclaimTestRunning_unwanted (by rw [hstate]; exact ArchiveState.noConfusion) hun]

end

/-! ### Clearing begun (R131) -/

/-- The segments that a clear erases, in their order (R113, R131). -/
def toErase (s : State) : List (Fin 256) := (List.finRange 256).filter fun g => (s.nv.segments.get g).marker.holds

theorem clearBegin_erasing {s : State} {g : Fin 256} (he : s.archive.erase = some g) : s.clearBegin = { s with
    archive := { s.archive with
      state := .clearing, cursor := none, heldInd := false, clear := .erasing (s.toErase.filter (· != g)) } } := by
  unfold clearBegin
  rw [he]
  rfl

theorem clearBegin_next {s : State} (he : s.archive.erase = none) : s.clearBegin =
    ({ s with archive := { s.archive with state := .clearing, cursor := none, heldInd := false } } : State).clearNext
      s.toErase := by
  unfold clearBegin
  rw [he]
  rfl

theorem clearBegin_first {s : State} {g : Fin 256} {gs : List (Fin 256)} (he : s.archive.erase = none)
    (hl : s.toErase = g :: gs) : s.clearBegin = { s with
      nv := { s.nv with segments := s.nv.segments.put g { s.nv.segments.get g with marker := .reclaiming } }
      archive := { s.archive with
        state := .clearing, cursor := none, heldInd := false, erase := some g, clear := .erasing gs } } := by
  rw [clearBegin_next he, hl]
  rfl

theorem filter_finRange_head {n : Nat} {p : Fin n → Bool} {i : Fin n} (h : p i = true) :
    ∃ j js, (List.finRange n).filter p = j :: js ∧ p j = true ∧ ∀ k, k < j → p k = false := by
  obtain ⟨j, hj⟩ := Option.isSome_iff_exists.1
    ((List.find?_isSome (xs := List.finRange n) (p := p)).2 ⟨i, List.mem_finRange i, h⟩)
  have hhead : ((List.finRange n).filter p).head? = some j := by rw [List.head?_filter, hj]
  obtain ⟨js, hjs⟩ := List.head?_eq_some_iff.1 hhead
  exact ⟨j, js, hjs, (find?_finRange p j).1 hj⟩

theorem toErase_head {s : State} {h : Fin 256} (hm : (s.nv.segments.get h).marker.holds = true) : ∃ g gs,
    s.toErase = g :: gs ∧ (s.nv.segments.get g).marker.holds = true ∧
    ∀ x, x < g → (s.nv.segments.get x).marker.holds = false :=
  filter_finRange_head (p := fun g => (s.nv.segments.get g).marker.holds) hm

/-- The clear that waited for a write begins on what the write left (R131). -/
theorem recordWritten_cleared {s : State} {h : Fin 256} {r : Record} {rest : List Record} (ho : s.headOpen h r rest)
    (he : s.archive.erase = none) : ∃ g gs, (s.nv.segments.get g).marker.holds = true ∧
      (∀ x, x < g → (s.nv.segments.get x).marker.holds = false) ∧
      (s.recordWritten h r.bytes).clearBegin = { s.recordWritten h r.bytes with
        nv := { s.nv with
          segments := (s.recordWritten h r.bytes).nv.segments.put g
            { (s.recordWritten h r.bytes).nv.segments.get g with marker := .reclaiming } }
        archive := { (s.recordWritten h r.bytes).archive with
          state := .clearing, cursor := none, heldInd := false, erase := some g, clear := .erasing gs } } := by
  obtain ⟨-, hopen, -⟩ := id ho
  obtain ⟨g, gs, hl, hg, hlow⟩ := toErase_head (s := s.recordWritten h r.bytes) (h := h)
    (by rw [recordWritten_marker ho, hopen]; rfl)
  rw [recordWritten_marker ho] at hg
  exact ⟨g, gs, hg, fun x hx => recordWritten_marker ho x ▸ hlow x hx, clearBegin_first he hl⟩

/-! ### Behind a write with no clear waiting (R117, R121, R124, R138) -/

theorem heldTo_settled (s : State) (b : Bool) : (s.heldTo b).settleErase = s.settleErase.heldTo b := by
  have hcond : (s.heldTo b).oldest = s.oldest ∧ (∀ n, (s.heldTo b).fits n = s.fits n) ∧
      (s.heldTo b).closing = s.closing ∧ (s.heldTo b).nextUnderErase = s.nextUnderErase := ⟨rfl, fun _ => rfl, rfl, rfl⟩
  have hres : (s.heldTo b).resumeErase = s.resumeErase.heldTo b := by
    rw [resumeErase_eq, resumeErase_eq]
    rfl
  obtain ⟨hold, hfits, hclosing, hnext⟩ := hcond
  unfold settleErase
  rw [hold, hclosing]
  cases s.oldest with
  | none => cases s.closing <;> simp [hres]
  | some bs =>
    simp only [hfits, hnext, hres]
    split <;> rfl

theorem settleErase_memories (s : State) : s.settleErase.nv = s.nv ∧ s.settleErase.notices = s.notices ∧
    s.settleErase.archive.erase = s.archive.erase ∧ s.settleErase.archive.heldInd = s.archive.heldInd := by
  rw [settleErase_eq]
  exact ⟨rfl, rfl, rfl, rfl⟩

section
variable {s : State} {h : Fin 256} {r : Record} {rest : List Record} (ho : s.headOpen h r rest)
include ho

/-- A completion in SUSPENDED settles the erase by the oldest record left (R124, R138). -/
theorem recordWritten_settled {e : Fin 256} (hs : s.archive.state = .suspended) (he : s.archive.erase = some e) :
    (rest = [] → ¬ s.isClosing → (s.recordWritten h r.bytes).settleErase.archive.state = .reclaiming) ∧
    (rest = [] → s.isClosing → (s.recordWritten h r.bytes).settleErase.archive.state = .suspended) ∧
    ∀ r' more, rest = r' :: more →
      (s.archive.writePos + r.bytes.length + r'.bytes.length ≤ 32768 →
        (s.recordWritten h r.bytes).settleErase.archive.state = .suspended) ∧
      (32768 < s.archive.writePos + r.bytes.length + r'.bytes.length →
        (¬ s.isClosing ∨ s.nextSegment = some e →
          (s.recordWritten h r.bytes).settleErase.archive.state = .reclaiming) ∧
        (s.isClosing → s.nextSegment ≠ some e →
          (s.recordWritten h r.bytes).settleErase.archive.state = .suspended)) := by
  have hq := recordWritten_queue ho
  have hnext := recordWritten_nextSegment ho
  have hhead := recordWritten_openHead ho
  have hstate : (s.recordWritten h r.bytes).archive.state = .suspended :=
    (if_neg fun h => ArchiveState.noConfusion (hs.symm.trans h)).trans hs
  have hres := resumeErase_resumed hstate rfl
  have hclosing : ¬ s.isClosing → (s.recordWritten h r.bytes).closing = false := fun hn =>
    Bool.eq_false_iff.2 fun h => hn (s.closing_iff.1 h)
  have hclosed : s.isClosing → (s.recordWritten h r.bytes).closing = true := s.closing_iff.2
  have hund : (s.recordWritten h r.bytes).nextUnderErase = true ↔ s.nextSegment = some e := by
    have he' : (s.recordWritten h r.bytes).archive.erase = some e := he
    simp [nextUnderErase, hnext, he']
  refine ⟨fun hr hc => ?_, fun hr hc => ?_, fun r' more hr => ⟨fun hfit => ?_, fun hfull => ⟨fun hn => ?_, fun hc hn => ?_⟩⟩⟩
  · rw [settleErase_empty (hq.trans hr) (hclosing hc), hres]
  · rw [settleErase_empty_closing (hq.trans hr) (hclosed hc), hstate]
  · rw [settleErase_fits (hq.trans hr) ((fits_iff _ _).2 ⟨⟨h, hhead⟩, hfit⟩), hstate]
  · have hnofit : (s.recordWritten h r.bytes).fits r'.bytes.length = false := Bool.eq_false_iff.2 fun hf =>
      absurd ((fits_iff _ _).1 hf).2 (Nat.not_le_of_lt hfull)
    rw [settleErase_resumes (hq.trans hr) hnofit (hn.imp hclosing hund.2), hres]
  · rw [settleErase_closing_other (hq.trans hr) (hclosed hc) (Bool.eq_false_iff.2 fun h => hn (hund.1 h)), hstate]

/-- Past half full, in WRITING with no erase, the next segment is tested (R121, R122, R138). -/
theorem recordWritten_tested (hp : 16384 < s.archive.writePos + r.bytes.length) (hs : s.archive.state = .writing)
    (he : s.archive.erase = none) :
    ((∀ g, s.nextSegment = some g → (s.nv.segments.get g).marker ≠ .full) →
      (s.recordWritten h r.bytes).halfTest.settleErase = (s.recordWritten h r.bytes).heldTo false) ∧
    ∀ g, s.nextSegment = some g → (s.nv.segments.get g).marker = .full →
      (s.allowsReclaim g → ¬ s.isClosing →
        (s.recordWritten h r.bytes).halfTest.settleErase = (s.recordWritten h r.bytes).beginErase g) ∧
      (s.allowsReclaim g → s.isClosing →
        (s.recordWritten h r.bytes).halfTest.settleErase = (s.recordWritten h r.bytes).heldTo false) ∧
      (¬ s.allowsReclaim g →
        (s.recordWritten h r.bytes).halfTest.settleErase = (s.recordWritten h r.bytes).becomeHeld) := by
  have hstate : (s.recordWritten h r.bytes).archive.state = .idle := if_pos hs
  have hwants {g : Fin 256} := recordWritten_wants (g := g) ho he hs hp
  have hheld : ((s.recordWritten h r.bytes).heldTo false).settleErase = (s.recordWritten h r.bytes).heldTo false :=
    settleErase_running (by
      show (s.recordWritten h r.bytes).archive.state ≠ _
      rw [hstate]
      exact ArchiveState.noConfusion)
  rw [recordWritten_halfTest_past ho hp]
  refine ⟨fun hn => ?_, fun g hg hm => ⟨fun ha hc => ?_, fun ha hc => ?_, fun ha => ?_⟩⟩
  · rw [reclaimTestRunning_unwanted (by rw [hstate]; exact ArchiveState.noConfusion)
      fun g hw => hn g (hwants.1 hw).1 (hwants.1 hw).2, hheld]
  · have ha' := (recordWritten_allows ho hm).2 ha
    rw [reclaimTestRunning_begins (hwants.2 ⟨hg, hm⟩) ha' hc]
    exact settleErase_running (by rw [beginErase_eq]; exact ArchiveState.noConfusion)
  · rw [reclaimTestRunning_closing (hwants.2 ⟨hg, hm⟩) ((recordWritten_allows ho hm).2 ha) hc, hheld]
  · rw [reclaimTestRunning_holds (hwants.2 ⟨hg, hm⟩) fun h => ha ((recordWritten_allows ho hm).1 h)]
    refine settleErase_running ?_
    rw [becomeHeld_eq]
    show (s.recordWritten h r.bytes).archive.state ≠ _
    rw [hstate]
    exact ArchiveState.noConfusion

omit ho in
/-- Up to half full nothing is tested (R117). -/
theorem recordWritten_below (hp : s.archive.writePos + r.bytes.length ≤ 16384) :
    (s.recordWritten h r.bytes).halfTest.settleErase.nv = (s.recordWritten h r.bytes).nv ∧
    (s.recordWritten h r.bytes).halfTest.settleErase.notices = s.notices ∧
    (s.archive.state = .writing → (s.recordWritten h r.bytes).halfTest.settleErase.archive.state = .idle) := by
  rw [recordWritten_halfTest_below hp]
  obtain ⟨hnv, hnotices, -⟩ := (s.recordWritten h r.bytes).settleErase_memories
  refine ⟨hnv, hnotices, fun hs => ?_⟩
  have hstate : (s.recordWritten h r.bytes).archive.state = .idle := if_pos hs
  rw [settleErase_running (by rw [hstate]; exact ArchiveState.noConfusion), hstate]

end
end State

/-- Settles O36: the clear that waited, then the half-full test and the erase settled. -/
theorem recordIsWritten : Obligations.RecordIsWritten := by
  refine ⟨fun s ok h r rest ha hw hc ho => ?_, fun s ok h r rest ha hw hc ho => ?_⟩
  · have hexec := State.exec_recordWritten ok ha hw ho
    have hprog := State.recordWritten_programmed ho
    have hqueue := State.recordWritten_queue ho
    have hkept := s.program_kept h r.bytes
    have hmark := State.recordWritten_marker ho
    obtain ⟨-, hopen, -⟩ := id ho
    rw [if_pos hc] at hexec
    cases he : s.archive.erase with
    | some e =>
      rw [State.clearBegin_erasing (s := s.recordWritten h r.bytes) he] at hexec
      refine ⟨_, hexec, hqueue, hprog, rfl, rfl, rfl, rfl, rfl, rfl, rfl, fun g hg => ⟨?_, hkept, (hmark h).trans hopen⟩,
        fun h => absurd h (Option.some_ne_none _), rfl⟩
      exact he.trans hg
    | none =>
      obtain ⟨g, gs, hg, hlow, hclear⟩ := State.recordWritten_cleared ho he
      rw [hclear] at hexec
      refine ⟨_, hexec, hqueue, ?_, rfl, rfl, rfl, rfl, rfl, rfl, rfl, fun g hg => absurd hg (Option.some_ne_none g).symm,
        fun _ => ⟨g, rfl, hg, hlow, ?_, fun x hxh hxg => ?_⟩, rfl⟩
      · show (s.nv.segments.get h).programmed (((s.recordWritten h r.bytes).nv.segments.put g _).get h) _ _
        rw [Table.get_put]
        split
        · next hgh =>
          subst hgh
          exact hprog
        · exact hprog
      · exact congrArg Segment.marker (Table.get_put_same _ _ _)
      · exact (Table.get_put_other _ _ _ _ (Ne.symm hxg)).trans (hkept x hxh)
  · have hexec := State.exec_recordWritten ok ha hw ho
    rw [if_neg hc] at hexec
    have hprog := State.recordWritten_programmed ho
    have hqueue := State.recordWritten_queue ho
    have hkept := s.program_kept h r.bytes
    have hmark := State.recordWritten_marker ho h
    have hbelow := State.recordWritten_below (s := s) (h := h) (r := r)
    have htested := State.recordWritten_tested ho
    have hsettled {e : Fin 256} := State.recordWritten_settled (e := e) ho
    have herasing {e : Fin 256} := State.recordWritten_halfTest_erasing (e := e) ho
    obtain ⟨hframe, hseg⟩ := ((s.recordWritten h r.bytes).halfTest_reclaimOnly).settled
    obtain ⟨hhead, hopen, -⟩ := id ho
    have hopened : (s.recordWritten h r.bytes).halfTest.settleErase.nv.segments.get h =
        (s.recordWritten h r.bytes).nv.segments.get h :=
      (hseg h).resolve_right fun ⟨hm, _⟩ => Marker.noConfusion (hm.symm.trans (hmark.trans hopen))
    refine ⟨_, hexec, ?_, by rw [hopened]; exact hprog, fun g hg => ?_, ?_, ?_, ?_, ?_, ?_, fun hp => ?_, ?_, fun hs hp => ?_,
      fun e hs he => ?_, fun hp hs he => ⟨fun hn => ?_, fun g hg hm => ⟨fun hal hcl => ?_, fun hal hcl => ?_,
        fun hal => ?_⟩⟩, ?_⟩
    · rw [hframe]
      exact hqueue
    · rw [← hkept g hg]
      obtain hx | ⟨-, hx⟩ := hseg g <;> rw [hx] <;> exact ⟨rfl, rfl⟩
    · rw [hframe]
      rfl
    · rw [hframe]
      rfl
    · rw [hframe]
      rfl
    · rw [hframe]
      exact hhead
    · rw [hframe]
      rfl
    · obtain ⟨hnv, hnotices, -⟩ := hbelow hp
      rw [hopened, State.segmentsKept, hnv]
      exact ⟨hkept, hnotices, hmark.trans hopen⟩
    · rw [hopened]
      exact hmark.trans hopen
    · exact (hbelow hp).2.2 hs
    · rw [herasing hs he, State.heldTo_settled]
      obtain ⟨hnv, hnotices, herase, -⟩ := (s.recordWritten h r.bytes).settleErase_memories
      refine ⟨herase.trans he, fun g hg => ?_, hnotices, rfl, hsettled hs he⟩
      exact (congrArg (fun x => Table.get x.segments g) hnv).trans (hkept g hg)
    · rw [(htested hp hs he).1 hn]
      exact ⟨hkept, if_pos hs, he, rfl, rfl⟩
    · obtain ⟨hbegins, -⟩ := (htested hp hs he).2 g hg hm
      have hgh : g ≠ h := fun e => Marker.noConfusion (hm.symm.trans (e ▸ hopen))
      rw [hbegins hal hcl, State.beginErase_eq]
      refine ⟨⟨(Table.get_put_same _ _ _).trans ?_, rfl, rfl, rfl, rfl⟩, fun x hxh hxg =>
        (Table.get_put_other _ _ _ _ (Ne.symm hxg)).trans (hkept x hxh)⟩
      exact congrArg (fun y : Segment => ({ y with marker := .reclaiming } : Segment)) (hkept g hgh)
    · obtain ⟨-, hclosing, -⟩ := (htested hp hs he).2 g hg hm
      rw [hclosing hal hcl]
      exact ⟨hkept, if_pos hs, he, rfl, rfl⟩
    · obtain ⟨-, -, hholds⟩ := (htested hp hs he).2 g hg hm
      have hheld := (s.recordWritten h r.bytes).becomeHeld_becameHeld
      rw [hholds hal]
      refine ⟨hheld, ?_⟩
      rw [State.becomeHeld_eq]
      exact ⟨hkept, if_pos hs, he⟩
    · rw [hframe]
      rfl

end Sys2Proof.Machine
end

section
/-! PROOFS. Record writes that fail their verify (O37): the DEAD slot, the second write, and the record lost. -/

/- The whole text is compiled as one file: these proofs are elaborated one after another, to stay within its memory. -/
set_option Elab.async false

namespace Sys2Proof.Machine

/-! ### What reads back from a slot (R118) -/

theorem readBack_one (bs : List Byte) (k : Nat) (b : Byte) : readBack bs [(k, b)] = bs.set k b := by
  refine List.ext_getElem (by simp [readBack]) fun i hi _ => ?_
  have hi' : i < bs.length := by simpa [readBack] using hi
  rw [List.getElem_set]
  by_cases hk : k = i
  · simp [readBack, hk]
  · have hne : (k == i) = false := beq_eq_false_iff_ne.2 hk
    simp [readBack, List.find?, hk, hne]

/-- A record is longer than its marker, length and kind (7.2). -/
theorem Record.bytes_long (r : Record) : 5 ≤ r.bytes.length := by
  cases r with
  | interval r =>
    have h : (IntervalRecord.head r).length + 2 = (Record.interval r).bytes.length := (withCrc_length r.head).symm
    rw [← h]
    unfold IntervalRecord.head
    simp only [List.length_append, List.length_cons, List.length_nil, leBytes_length]
    omega
  | topology r =>
    have h : (TopologyRecord.head r).length + 2 = (Record.topology r).bytes.length := (withCrc_length r.head).symm
    rw [← h]
    unfold TopologyRecord.head
    simp only [List.length_append, List.length_cons, List.length_nil, leBytes_length]
    omega

theorem set_ne {bs : List Byte} {k : Nat} {b : Byte} (hk : k < bs.length) (hb : bs.getD k 0 ≠ b) : bs.set k b ≠ bs :=
  fun h => hb (by rw [← h]; simp [hk])

/-- A mismatch among the first four bytes shows there (R118). -/
theorem set_take_ne {bs : List Byte} {k : Nat} {b : Byte} (hk : k < 4) (hl : k < bs.length) (hb : bs.getD k 0 ≠ b) :
    (bs.set k b).take 4 ≠ bs.take 4 := fun h => by
  have hget := congrArg (fun l : List Byte => l.getD k 0) h
  simp [List.getD_eq_getElem?_getD, hk, hl] at hget
  exact hb (by simpa [List.getD_eq_getElem?_getD, hl] using hget.symm)

theorem set_take_eq {bs : List Byte} {k : Nat} (b : Byte) (hk : 4 ≤ k) : (bs.set k b).take 4 = bs.take 4 := by
  rw [List.take_set_of_le hk]

namespace State

/-! ### The DEAD slot (R118) -/

/-- The segments with the failed write in the head, its slot marked DEAD (R118). -/
def deadRing (s : State) (h : Fin 256) (back : List Byte) : Table Segment 256 := (s.program h (back.set 4 0x00)).nv.segments

/-- The state behind a failed write whose slot is passed over. -/
def slotDead (s : State) (h : Fin 256) (back : List Byte) : State := { s with
  nv := { s.nv with segments := s.deadRing h back }
  archive := { s.archive with writePos := s.archive.writePos + back.length } }

/-- The state behind a failed write that closes its head. -/
def slotLost (s : State) (h : Fin 256) (back : List Byte) : State := { s with
  nv := { s.nv with
    segments := (s.deadRing h back).put h { (s.deadRing h back).get h with marker := .full } } }

theorem deadSlot_dead {s : State} {h : Fin 256} {bs back : List Byte} (ht : back.take 4 = bs.take 4)
    (hl : back.length = bs.length) : s.deadSlot h bs back = s.slotDead h back := by
  rw [deadSlot, if_pos (by simpa using ht), slotDead, hl]
  rfl

theorem deadSlot_lost {s : State} {h : Fin 256} {bs back : List Byte} (ht : back.take 4 ≠ bs.take 4) :
    s.deadSlot h bs back = s.slotLost h back := by
  rw [deadSlot, if_neg (by simpa using ht)]
  rfl

section
variable {s : State} {h : Fin 256} {r : Record} {rest : List Record} {k : Nat} {b : Byte} (ho : s.headOpen h r rest)
include ho

theorem deadRing_programmed : (s.nv.segments.get h).programmed ((s.deadRing h (r.bytes.set k b)).get h) s.archive.writePos
    ((r.bytes.set k b).set 4 0x00) := by
  obtain ⟨-, -, -, hpos, harea, hfit⟩ := ho
  exact s.program_programmed h _ hpos harea (by simpa using hfit)

omit ho in
theorem deadRing_kept (back : List Byte) {x : Fin 256} (hx : x ≠ h) :
    (s.deadRing h back).get x = s.nv.segments.get x := s.program_kept h _ x hx

theorem deadRing_opened (back : List Byte) : ((s.deadRing h back).get h).marker = .opened := by
  obtain ⟨-, hopen, -⟩ := ho
  exact (s.program_marker h _).trans hopen

/-- Behind its length field the slot reads DEAD (R118). -/
theorem deadRing_dead : ((s.deadRing h (r.bytes.set k b)).get h).readByte (s.archive.writePos + 4) = 0x00 := by
  obtain ⟨-, hread⟩ := deadRing_programmed (k := k) (b := b) ho
  obtain ⟨-, -, -, hpos, -⟩ := ho
  have hl := r.bytes_long
  rw [hread _ (by omega), if_neg (by omega), Nat.add_sub_cancel_left]
  simp [show 4 < r.bytes.length by omega]

/-- The bytes of a failed write other than its mismatch and the DEAD byte are the record's (R118). -/
theorem deadRing_byte {i : Nat} (hi : i < r.bytes.length) (hk : i ≠ k) (h4 : i ≠ 4) :
    ((s.deadRing h (r.bytes.set k b)).get h).readByte (s.archive.writePos + i) = r.bytes.getD i 0 := by
  obtain ⟨-, hread⟩ := deadRing_programmed (k := k) (b := b) ho
  obtain ⟨-, -, -, hpos, -⟩ := ho
  rw [hread _ (by omega), if_neg (by omega), Nat.add_sub_cancel_left]
  simp [hi, Ne.symm hk, Ne.symm h4]

theorem deadRing_before {off : Nat} (h16 : 16 ≤ off) (hlt : off < s.archive.writePos) :
    ((s.deadRing h (r.bytes.set k b)).get h).readByte off = (s.nv.segments.get h).readByte off := by
  obtain ⟨-, hread⟩ := deadRing_programmed (k := k) (b := b) ho
  rw [hread _ h16, if_pos hlt]

/-! ### The first and the second failure (R118, R119) -/

/-- A failed write is the first or the second one (R118, R119). -/
theorem exec_writeFails (ok : Bool) (ha : s.stopped = false) (hw : s.archive.writing = true)
    (hc : s.archive.clear = .idle) (hk : k < r.bytes.length) (hb : r.bytes.getD k 0 ≠ b) :
    exec (.recordWriteComplete [(k, b)] ok) s = .next (if s.archive.failedOnce = true
      then s.writeLost h r.bytes (r.bytes.set k b)
      else writerTake ok ((s.deadSlot h r.bytes (r.bytes.set k b)).endWrite.onArchive fun a =>
        { a with failedOnce := true })) := by
  obtain ⟨hhead, hold⟩ := headOpen_openHead ho
  have hne : (r.bytes.set k b == r.bytes) = false := beq_eq_false_iff_ne.2 (set_ne hk hb)
  have hstep : s.writeComplete [(k, b)] ok = if s.archive.failedOnce = true
      then s.writeLost h r.bytes (r.bytes.set k b) else s.writeFailed h r.bytes (r.bytes.set k b) ok := by
    simp [writeComplete, hhead, hold, hw, readBack_one, hne]
  rw [exec_recordWriteComplete _ ok ha, hstep, writeFailed, hc]
  rfl

end

/-- The record lost behind the slot state `u` of its second write (R119). -/
def recordLost (u : State) : State := { u with
  archive := { u.archive with
    writing := false, failedOnce := false, state := .stopped, error := .writeFail
    clear := if u.archive.clear == .waiting then .idle else u.archive.clear }
  queue := u.queue.drop 1
  notices := (u.latch .archiveError).notices }

theorem writeLost_eq (s : State) (h : Fin 256) (bs back : List Byte) :
    s.writeLost h bs back = (s.deadSlot h bs back).recordLost := by
  rw [writeLost, endWrite_eq]
  rfl

/-- The slot state `u` of a first failure, its write ended (R118). -/
def writeAgain (u : State) : State := { u with archive := { u.archive with
  writing := false, failedOnce := true, state := if u.archive.state = .writing then .idle else u.archive.state } }

theorem writeAgain_eq (u : State) : (u.endWrite.onArchive fun a => { a with failedOnce := true }) = u.writeAgain := by
  rw [endWrite_eq]
  rfl

/-! ### What the writer changes -/

/-- The writer's take changes archive, segments and notices; the bytes of a segment that is not ERASED stand (R116). -/
def takeOnly (s t : State) : Prop :=
  t = { s with nv := { s.nv with segments := t.nv.segments }, archive := t.archive, notices := t.notices } ∧
  ∀ g, (s.nv.segments.get g).marker ≠ .blank → (t.nv.segments.get g).area = (s.nv.segments.get g).area

theorem settleErase_takeOnly (s : State) : s.takeOnly s.settleErase := by
  rw [settleErase_eq]
  exact ⟨rfl, fun _ _ => rfl⟩

theorem reclaimTest_takeOnly (s : State) : s.takeOnly s.reclaimTest := by
  refine ⟨s.reclaimTest_eq, fun g _ => ?_⟩
  obtain h | ⟨-, -, h⟩ := s.reclaimTest_seg g <;> rw [h]

theorem takeOnly.refl (s : State) : s.takeOnly s := ⟨rfl, fun _ _ => rfl⟩

theorem settledTest_takeOnly (s : State) : s.takeOnly s.settleErase.reclaimTest := by
  have hs := s.settleErase_eq
  generalize s.settleErase = u at hs
  generalize u.archive.state = x at hs
  obtain ⟨ht, harea⟩ := u.reclaimTest_takeOnly
  generalize u.reclaimTest = t at ht harea
  subst hs
  exact ⟨ht, harea⟩

theorem openSegment_takeOnly {s : State} {g : Fin 256} (ok : Bool) (hm : (s.nv.segments.get g).marker = .blank) :
    s.takeOnly (s.openSegment g ok) := by
  have hput (x : Segment) {y : Fin 256} (hy : (s.nv.segments.get y).marker ≠ .blank) :
      (s.nv.segments.put g x).get y = s.nv.segments.get y :=
    Table.get_put_other _ _ _ _ fun e => hy (e ▸ hm)
  cases ok
  · rw [openSegment_failing]
    exact ⟨rfl, fun y hy => congrArg Segment.area (hput _ hy)⟩
  · rw [openSegment_ok]
    exact ⟨rfl, fun y hy => congrArg Segment.area (hput _ hy)⟩

theorem needSegment_takeOnly (s : State) (ok : Bool) : s.takeOnly (s.needSegment ok) := by
  unfold needSegment
  split
  · exact .refl s
  · split
    · next hm => exact openSegment_takeOnly ok hm
    · exact s.settledTest_takeOnly
    · exact s.settleErase_takeOnly

theorem fillHead_needSegment_takeOnly (s : State) (ok : Bool) : s.takeOnly (s.fillHead.needSegment ok) := by
  obtain ⟨ht, harea⟩ := s.fillHead.needSegment_takeOnly ok
  have hfill := s.fillHead_eq
  have hring := s.filledRing_get
  generalize s.fillHead.needSegment ok = t at ht harea ⊢
  generalize s.fillHead = u at *
  subst hfill
  refine ⟨ht, fun g hg => ?_⟩
  have hget : (s.filledRing.get g).area = (s.nv.segments.get g).area ∧ (s.filledRing.get g).marker ≠ .blank := by
    rw [hring g]
    split
    · exact ⟨rfl, Marker.noConfusion⟩
    · exact ⟨rfl, hg⟩
  exact (harea g hget.2).trans hget.1

theorem writerTake_takeOnly (s : State) (ok : Bool) : s.takeOnly (writerTake ok s) := by
  unfold writerTake
  split
  · exact .refl s
  · split
    · exact .refl s
    · split
      · rw [beginWrite_eq]
        exact ⟨rfl, fun _ _ => rfl⟩
      · exact s.fillHead_needSegment_takeOnly ok

/-! ### The second write in the next segment (R118) -/

/-- The writer with a record to write again, the head taking it no more, opens the next segment (R116, R118). -/
theorem writerTake_opens {u : State} {g : Fin 256} {r : Record} {rest : List Record} (hfree : u.writerFree = true)
    (hs : u.archive.state = .idle) (hq : u.queue = r :: rest) (hf : u.fits r.bytes.length = false)
    (hn : u.nextSegment = some g) (hne : u.openHead ≠ some g) (hm : (u.nv.segments.get g).marker = .blank) :
    writerTake true u = { u with
      nv := { u.nv with segments := u.filledRing.put g ⟨.opened, u.archive.nextSeq, []⟩ }
      archive := { u.archive with
        nextSeq := u.archive.nextSeq + 1, head := some g, writePos := 16, writing := true, state := .writing } } := by
  have hn' : u.fillHead.nextSegment = some g := u.fillHead_nextSegment.trans hn
  have hm' : (u.fillHead.nv.segments.get g).marker = .blank := by
    rw [fillHead_eq]
    show (u.filledRing.get g).marker = _
    rw [filledRing_get, if_neg hne, hm]
  rw [writerTake_needs true hfree hq hf, needSegment_blank true hn' hm', fillHead_eq, openSegment_ok, if_pos hs]

/-- The ring after a failed write whose head takes the record no more (R118). -/
theorem filledRing_failed {u : State} {h : Fin 256} (hh : u.archive.head = some h)
    (hm : (u.nv.segments.get h).marker = .opened ∨ (u.nv.segments.get h).marker = .full) :
    u.filledRing.get h = { u.nv.segments.get h with marker := .full } ∧
    ∀ x, x ≠ h → u.filledRing.get x = u.nv.segments.get x := by
  refine ⟨?_, fun x hx => ?_⟩
  · rw [filledRing_get]
    obtain hm | hm := hm
    · rw [if_pos ((u.openHead_iff h).2 ⟨hh, hm⟩)]
    · rw [if_neg fun ho => Marker.noConfusion (hm.symm.trans ((u.openHead_iff h).1 ho).2)]
      exact congrArg (fun m => (⟨m, (u.nv.segments.get h).seq, (u.nv.segments.get h).area⟩ : Segment)) hm
  · rw [filledRing_get, if_neg fun ho => hx (Option.some.inj (((u.openHead_iff x).1 ho).1.symm.trans hh))]

end State

/-- The record is written once more in the next segment (R118). -/
theorem State.failed_opens {s : State} {h g : Fin 256} {r : Record} {rest : List Record} {X : Table Segment 256} {pos : Nat}
    (ho : s.headOpen h r rest) (hw : s.archive.writing = true) (hs : s.archive.state = .writing)
    (hkept : ∀ x, x ≠ h → X.get x = s.nv.segments.get x) (hm : (X.get h).marker = .opened ∨ (X.get h).marker = .full)
    (hfull : (X.get h).marker = .opened → 32768 < pos + r.bytes.length) (hn : s.nextSegment = some g) (hg : g ≠ h)
    (hb : (s.nv.segments.get g).marker = .blank) :
    ∃ Y : Table Segment 256, State.writerTake true { s with
      nv := { s.nv with segments := X }
      archive := { s.archive with writePos := pos, writing := false, failedOnce := true, state := .idle } } = { s with
      nv := { s.nv with segments := Y }
      archive := { s.archive with
        failedOnce := true, head := some g, writePos := 16, nextSeq := s.archive.nextSeq + 1 } } ∧
    Y.get g = ⟨.opened, s.archive.nextSeq, []⟩ ∧ Y.get h = { X.get h with marker := .full } ∧
    ∀ x, x ≠ h → x ≠ g → Y.get x = s.nv.segments.get x := by
  obtain ⟨hhead, hopen, hq, -⟩ := ho
  obtain ⟨u, hu⟩ : ∃ u : State, u = { s with
    nv := { s.nv with segments := X }
    archive := { s.archive with writePos := pos, writing := false, failedOnce := true, state := .idle } } := ⟨_, rfl⟩
  have hhu : u.archive.head = some h := by rw [hu]; exact hhead
  have hmu : (u.nv.segments.get h).marker = .opened ∨ (u.nv.segments.get h).marker = .full := by rw [hu]; exact hm
  have hstate : u.archive.state = .idle := by rw [hu]
  have hfree : u.writerFree = true := u.writerFree_iff.2 ⟨by rw [hu], .inl hstate⟩
  have hfits : u.fits r.bytes.length = false := Bool.eq_false_iff.2 fun hf => by
    obtain ⟨⟨h', hoh⟩, hle⟩ := (u.fits_iff _).1 hf
    obtain ⟨hh', hm'⟩ := (u.openHead_iff h').1 hoh
    obtain rfl := Option.some.inj (hhu.symm.trans hh')
    rw [hu] at hm' hle
    exact absurd hle (Nat.not_le_of_lt (hfull hm'))
  have hnext : u.nextSegment = some g := by
    rw [← hn]
    refine nextSegment_congr (by rw [hu]) fun x => ?_
    rw [hu]
    show (X.get x).marker = _ ↔ _
    by_cases hx : x = h
    · rw [hx, hopen]
      obtain hm | hm := hm
      · rw [hm]
      · rw [hm]
        exact ⟨Marker.noConfusion, Marker.noConfusion⟩
    · rw [hkept x hx]
  have hne : u.openHead ≠ some g := fun hoh => hg (Option.some.inj (((u.openHead_iff g).1 hoh).1.symm.trans hhu))
  have hbu : (u.nv.segments.get g).marker = .blank := by
    rw [hu]
    exact (congrArg Segment.marker (hkept g hg)).trans hb
  obtain ⟨hfilled, hothers⟩ := filledRing_failed hhu hmu
  refine ⟨u.filledRing.put g ⟨.opened, s.archive.nextSeq, []⟩, ?_, Table.get_put_same _ _ _, ?_, fun x hxh hxg => ?_⟩
  · rw [← hu, writerTake_opens hfree hstate (by rw [hu]; exact hq) hfits hnext hne hbu]
    generalize u.filledRing = Z
    rw [hu, ← hs, ← hw]
  · rw [Table.get_put_other _ _ _ _ hg, hfilled, hu]
  · rw [Table.get_put_other _ _ _ _ (Ne.symm hxg), hothers x hxh, hu]
    exact hkept x hxh

/-- Settles O37: the second failure, the second write in the next segment, and the slot passed over. -/
theorem verifyFailuresAreTaken : Obligations.VerifyFailuresAreTaken := by
  refine ⟨fun s ok h r rest k b ha hw hc ho hk hb hf => ?_, fun s h g r rest k b ha hw hs he hc ho hf hk hb hend hn hg hm => ?_,
    fun s ok h r rest k b ha hw hc ho h4 hk hb => ?_⟩
  · have hl := r.bytes_long
    have hexec := State.exec_writeFails ho ok ha hw hc (show k < r.bytes.length by omega) hb
    rw [if_pos hf, State.writeLost_eq, State.deadSlot_lost (set_take_ne hk (by omega) hb)] at hexec
    obtain ⟨-, -, hq, -⟩ := id ho
    have hput := Table.get_put_same (s.deadRing h (r.bytes.set k b)) h
      { (s.deadRing h (r.bytes.set k b)).get h with marker := .full }
    refine ⟨_, hexec, ?_, congrArg Segment.marker hput, ?_, rfl, rfl, rfl, ?_, fun x hx => ?_, rfl⟩
    · exact congrArg (List.drop 1) hq
    · exact (congrArg (fun y : Segment => y.readByte (s.archive.writePos + 4)) hput).trans (State.deadRing_dead ho)
    · exact (State.latch_getLsbD _ .archiveError 8).trans (by simp [Notice.bit])
    · exact (Table.get_put_other _ _ _ _ (Ne.symm hx)).trans (State.deadRing_kept _ hx)
  · have hexec := State.exec_writeFails ho true ha hw hc hk hb
    rw [if_neg (by rw [hf]; exact Bool.false_ne_true), State.writeAgain_eq] at hexec
    have hdead := State.deadRing_dead (k := k) (b := b) ho
    have hopen := State.deadRing_opened ho (r.bytes.set k b)
    have hkept := fun x (hx : x ≠ h) => State.deadRing_kept (s := s) (r.bytes.set k b) hx
    obtain ⟨X, pos, hslot, hm', hread, hkept', hfull⟩ : ∃ (X : Table Segment 256) (pos : Nat),
        s.deadSlot h r.bytes (r.bytes.set k b) = { s with
          nv := { s.nv with segments := X }, archive := { s.archive with writePos := pos } } ∧
        ((X.get h).marker = .opened ∨ (X.get h).marker = .full) ∧
        (X.get h).readByte (s.archive.writePos + 4) = 0x00 ∧ (∀ x, x ≠ h → X.get x = s.nv.segments.get x) ∧
        ((X.get h).marker = .opened → 32768 < pos + r.bytes.length) := by
      by_cases hk4 : k < 4
      · have hput := Table.get_put_same (s.deadRing h (r.bytes.set k b)) h
          { (s.deadRing h (r.bytes.set k b)).get h with marker := .full }
        refine ⟨_, _, State.deadSlot_lost (set_take_ne hk4 hk hb), ?_, ?_, fun x hx => ?_, fun hop => ?_⟩
        · exact .inr (congrArg Segment.marker hput)
        · exact (congrArg (fun y : Segment => y.readByte (s.archive.writePos + 4)) hput).trans hdead
        · exact (Table.get_put_other _ _ _ _ (Ne.symm hx)).trans (hkept x hx)
        · exact Marker.noConfusion (hop.symm.trans (congrArg Segment.marker hput))
      · refine ⟨_, _, State.deadSlot_dead (set_take_eq b (by omega)) (by simp), .inl hopen, hdead, hkept, fun _ => ?_⟩
        have := hend.resolve_left hk4
        rw [List.length_set]
        omega
    obtain ⟨Y, htake, hYg, hYh, hYx⟩ := State.failed_opens ho hw hs hkept' hm' hfull hn hg hm
    have hagain : State.writeAgain { s with
        nv := { s.nv with segments := X }, archive := { s.archive with writePos := pos } } = { s with
        nv := { s.nv with segments := X }
        archive := { s.archive with writePos := pos, writing := false, failedOnce := true, state := .idle } } := by
      rw [State.writeAgain, if_pos hs]
    rw [hslot, hagain, htake] at hexec
    refine ⟨_, hexec, rfl, rfl, congrArg Segment.marker hYh, ?_, hYg, hYx, rfl, rfl⟩
    exact (congrArg (fun y : Segment => y.readByte (s.archive.writePos + 4)) hYh).trans hread
  · have hexec := State.exec_writeFails ho ok ha hw hc hk hb
    rw [State.writeAgain_eq, State.writeLost_eq, State.deadSlot_dead (set_take_eq b h4) (by simp)] at hexec
    have hdead := State.deadRing_dead (k := k) (b := b) ho
    have hopen := State.deadRing_opened ho (r.bytes.set k b)
    have hkept := fun x (hx : x ≠ h) => State.deadRing_kept (s := s) (r.bytes.set k b) hx
    obtain ⟨hhead, -, hq, -⟩ := id ho
    by_cases hf : s.archive.failedOnce = true
    · rw [if_pos hf] at hexec
      refine ⟨_, hexec, hdead, fun i hi hik hi4 => State.deadRing_byte ho hi hik hi4,
        fun off h16 hlt => State.deadRing_before ho h16 hlt, fun hf' => absurd hf (by rw [hf']; exact Bool.false_ne_true),
        fun _ => ⟨congrArg (List.drop 1) hq, rfl, rfl, rfl, ?_, hkept⟩, rfl⟩
      exact (State.latch_getLsbD _ .archiveError 8).trans (by simp [Notice.bit])
    · rw [if_neg hf] at hexec
      obtain ⟨hframe, harea⟩ := (s.slotDead h (r.bytes.set k b)).writeAgain.writerTake_takeOnly ok
      have harea' := harea h (by
        show ((s.deadRing h (r.bytes.set k b)).get h).marker ≠ _
        rw [hopen]
        exact Marker.noConfusion)
      have hread (off : Nat) : ((State.writerTake ok (s.slotDead h (r.bytes.set k b)).writeAgain).nv.segments.get h).readByte off =
          ((s.deadRing h (r.bytes.set k b)).get h).readByte off :=
        congrArg (fun l : List Byte => l.getD (off - 16) erasedByte) harea'
      refine ⟨_, hexec, (hread _).trans hdead, fun i hi hik hi4 => (hread _).trans (State.deadRing_byte ho hi hik hi4),
        fun off h16 hlt => (hread _).trans (State.deadRing_before ho h16 hlt), fun _ hfit hst => ?_,
        fun hf' => absurd hf' hf, by rw [hframe]; rfl⟩
      have hfree : (s.slotDead h (r.bytes.set k b)).writeAgain.writerFree = true := by
        refine (State.writerFree_iff _).2 ⟨rfl, ?_⟩
        obtain hst | hst := hst
        · exact .inl (if_pos hst)
        · exact .inr (.inr ((if_neg fun h => ArchiveState.noConfusion (hst.symm.trans h)).trans hst))
      have hfits : (s.slotDead h (r.bytes.set k b)).writeAgain.fits r.bytes.length = true := by
        refine (State.fits_iff _ _).2 ⟨⟨h, (State.openHead_iff _ _).2 ⟨hhead, hopen⟩⟩, ?_⟩
        show s.archive.writePos + (r.bytes.set k b).length + r.bytes.length ≤ 32768
        rw [List.length_set]
        omega
      rw [State.writerTake_fits ok hfree hq hfits, State.beginWrite_eq]
      refine ⟨rfl, rfl, rfl, ?_, ?_, hkept, rfl⟩
      · obtain hst | hst := hst
        · exact (if_pos (if_pos hst)).trans hst.symm
        · have hsus : (s.slotDead h (r.bytes.set k b)).writeAgain.archive.state = .suspended :=
            (if_neg fun h => ArchiveState.noConfusion (hst.symm.trans h)).trans hst
          exact (if_neg fun h => ArchiveState.noConfusion (hsus.symm.trans h)).trans hst.symm
      · exact congrArg (s.archive.writePos + ·) List.length_set

end Sys2Proof.Machine
end

section
/-! PROOFS. Erases that complete (O38): blank or failing, with the writer or a clear going on behind them. -/

/- The whole text is compiled as one file: these proofs are elaborated one after another, to stay within its memory. -/
set_option Elab.async false

namespace Sys2Proof.Machine
namespace State

theorem exec_eraseComplete {s : State} (blank ok : Bool) (h : s.stopped = false) :
    exec (.eraseComplete blank ok) s = .next (s.eraseComplete blank ok) := by
  have he : exec (.eraseComplete blank ok) s = .next (s.whenAlive (eraseComplete blank ok)) := rfl
  rw [he, whenAlive_running _ _ h]

/-- Whether the archive holds no segment that counts for the tail (R113). -/
def noneHolds (s : State) : Bool := !(List.finRange 256).any fun g => (s.nv.segments.get g).marker.holds

theorem dropHead_eq (s : State) : s.dropHead =
    { s with archive := { s.archive with head := if s.noneHolds then none else s.archive.head } } := by
  unfold dropHead noneHolds
  by_cases h : ((List.finRange 256).any fun g => (s.seg g).marker.holds) = true
  · have h' : ((List.finRange 256).any fun g => (s.nv.segments.get g).marker.holds) = true := h
    rw [if_pos h, h']
    rfl
  · have h' : ((List.finRange 256).any fun g => (s.nv.segments.get g).marker.holds) = false := Bool.eq_false_iff.2 h
    rw [if_neg h, h']
    rfl

theorem noneHolds_false {s : State} {h : Fin 256} (hm : (s.nv.segments.get h).marker.holds = true) :
    s.noneHolds = false := by
  rw [noneHolds, Bool.not_eq_false']
  exact List.any_eq_true.2 ⟨h, List.mem_finRange h, hm⟩

/-- The ring with segment `g` ERASED, no erase running, and the archive back in IDLE or WRITING (R123). -/
def blanked (s : State) (g : Fin 256) : State := { s with
  nv := { s.nv with segments := s.nv.segments.put g Segment.erased }
  archive := { s.archive with erase := none, state := if s.archive.writing = true then .writing else .idle } }

/-- The blank segment behind a reclaim erase (R123). -/
theorem eraseComplete_blank {s : State} {g : Fin 256} (ok : Bool) (he : s.archive.erase = some g)
    (hs : s.archive.state = .reclaiming) : s.eraseComplete true ok =
      if (s.blanked g).dropHead.openHead.isNone && !s.archive.writing then writerTake ok (s.blanked g).dropHead
      else (s.blanked g).dropHead := by
  have hd : s.eraseComplete true ok = s.eraseDone g ok := by simp [eraseComplete, he, hs]
  have hb : ((s.putSeg g Segment.erased).onArchive fun a =>
    { a with erase := none, state := if a.writing then .writing else .idle }) = s.blanked g := rfl
  have hw : (s.blanked g).dropHead.archive.writing = s.archive.writing := by rw [dropHead_eq]; rfl
  rw [hd, eraseDone, hb, hw]

/-- The segment RETIRED behind an erase that does not verify (R123, R131). -/
theorem eraseComplete_failing {s : State} {g : Fin 256} (ok : Bool) (he : s.archive.erase = some g)
    (hs : s.archive.state = .reclaiming ∨ s.archive.state = .clearing) : ∃ head : Option (Fin 256),
    s.eraseComplete false ok = { s with
      nv := { s.nv with segments := s.nv.segments.put g ⟨.retired, 0, []⟩ }
      archive := { s.archive with erase := none, clear := .idle, head := head, state := .stopped, error := .eraseFail }
      notices := (s.latch .archiveError).notices } := by
  have hd : s.eraseComplete false ok = s.eraseFailed g := by
    obtain hs | hs := hs <;> simp [eraseComplete, he, hs]
  rw [hd, eraseFailed, dropHead_eq]
  exact ⟨_, rfl⟩

theorem eraseComplete_clearing {s : State} {g : Fin 256} {todo : List (Fin 256)} (ok : Bool)
    (he : s.archive.erase = some g) (hs : s.archive.state = .clearing) (hc : s.archive.clear = .erasing todo) :
    s.eraseComplete true ok = (s.putSeg g Segment.erased).clearNext todo := by
  simp [eraseComplete, he, hs, hc]

/-! ### The first mark write of a clear (R131) -/

/-- The copy that a mark write goes to holds no higher value than the other one (R127, log 16). -/
theorem lowerCopy_le {nv : NonVolatile} {m n : Nat} (hm : nv.marks.get nv.lowerCopy = some m)
    (hn : nv.marks.get (1 - nv.lowerCopy) = some n) : m ≤ n := by
  have h10 : (1 - 0 : Fin 2) = 1 := rfl
  have h11 : (1 - 1 : Fin 2) = 0 := rfl
  unfold NonVolatile.lowerCopy at hm hn
  cases h0 : nv.marks.get 0 with
  | none =>
    simp only [h0] at hm
    cases hm
  | some a =>
    cases h1 : nv.marks.get 1 with
    | none =>
      simp only [h0, h1] at hm
      cases hm
    | some b =>
      simp only [h0, h1] at hm hn
      by_cases hab : a ≤ b
      · rw [if_pos hab, h0] at hm
        rw [if_pos hab, h10, h1] at hn
        cases hm
        cases hn
        exact hab
      · rw [if_neg hab, h1] at hm
        rw [if_neg hab, h11, h0] at hn
        cases hm
        cases hn
        omega

theorem clearMarks_busy {s : State} (h : s.store ≠ none) : s.clearMarks =
    { s with archive := { s.archive with erase := none, clear := .marking 2 } } := by
  obtain ⟨j, hj⟩ := Option.ne_none_iff_exists'.1 h
  unfold clearMarks
  exact if_pos (by simp [storeBusy, onArchive, hj])

theorem clearMarks_free {s : State} (h : s.store = none) : s.clearMarks =
    { s with
      archive := { s.archive with erase := none, clear := .marking 2 }
      store := some (.mark 0 s.nv.lowerCopy) } := by
  unfold clearMarks
  exact if_neg (by simp [storeBusy, onArchive, h])

/-- The clear's mark writes are due; the first one is for the copy with the lower value (R131). -/
theorem clearMarks_spec (s : State) : ∃ job : Option StoreJob,
    s.clearMarks = { s with archive := { s.archive with erase := none, clear := .marking 2 }, store := job } ∧
    (s.store ≠ none → job = s.store) ∧
    (s.store = none → ∃ copy : Fin 2, job = some (.mark 0 copy) ∧
      ∀ m n, s.nv.marks.get copy = some m → s.nv.marks.get (1 - copy) = some n → m ≤ n) := by
  by_cases h : s.store = none
  · exact ⟨_, clearMarks_free h, fun hn => absurd h hn, fun _ => ⟨_, rfl, fun _ _ => lowerCopy_le⟩⟩
  · exact ⟨s.store, clearMarks_busy h, fun _ => rfl, fun hn => absurd hn h⟩

/-! ### The writer behind the erase (R116, R123) -/

section
variable {s : State} {g : Fin 256}

theorem blanked_kept : s.segmentsKept (s.blanked g) g := fun _ hx => Table.get_put_other _ _ _ _ (Ne.symm hx)

/-- A segment that counts for the tail keeps the head (R113). -/
theorem blanked_dropHead {h : Fin 256} (hh : h ≠ g) (hm : (s.nv.segments.get h).marker.holds = true) :
    (s.blanked g).dropHead = s.blanked g := by
  have hnot : (s.blanked g).noneHolds = false := noneHolds_false (h := h) (by rw [blanked_kept h hh]; exact hm)
  rw [dropHead_eq, hnot]
  rfl

/-- With nothing queued, or the head OPEN, the writer takes no part (R116, R123). -/
theorem eraseComplete_idle (ok : Bool) (he : s.archive.erase = some g) (hs : s.archive.state = .reclaiming)
    (hq : s.queue = [] ∨ ∃ h, s.openHead = some h ∧ h ≠ g) :
    s.eraseComplete true ok = (s.blanked g).dropHead := by
  rw [eraseComplete_blank ok he hs]
  obtain hq | ⟨h, ho, hne⟩ := hq
  · have hq' : (s.blanked g).dropHead.queue = [] := by rw [dropHead_eq]; exact hq
    rw [writerTake_idle ok (.inl hq'), ite_self]
  · obtain ⟨hh, hm⟩ := (s.openHead_iff h).1 ho
    have ho' : (s.blanked g).openHead = some h := (openHead_iff _ h).2 ⟨hh, by rw [blanked_kept h hne]; exact hm⟩
    rw [blanked_dropHead hne (by rw [hm]; rfl), ho']
    rfl

/-- The writer that waits for the segment opens it (R116, R123). -/
theorem eraseComplete_opens {h : Fin 256} {r : Record} {rest : List Record} (ok : Bool) (he : s.archive.erase = some g)
    (hs : s.archive.state = .reclaiming) (hw : s.archive.writing = false) (hq : s.queue = r :: rest)
    (hh : s.archive.head = some h) (hne : h ≠ g) (hm : (s.nv.segments.get h).marker = .full)
    (hn : s.nextSegment = some g) : s.eraseComplete true ok = (s.blanked g).openSegment g ok := by
  have hseg := blanked_kept (s := s) (g := g) h hne
  have hno : (s.blanked g).openHead = none := openHead_none fun x hx hop => by
    obtain rfl := Option.some.inj (hh.symm.trans hx)
    exact Marker.noConfusion (hop.symm.trans ((congrArg Segment.marker hseg).trans hm))
  have hidle : (s.blanked g).archive.state = .idle := if_neg (by rw [hw]; exact Bool.false_ne_true)
  have hfree : (s.blanked g).writerFree = true := (writerFree_iff _).2 ⟨hw, .inl hidle⟩
  have hnext : (s.blanked g).nextSegment = some g := by
    refine (nextSegment_congr (by rfl) fun x => ?_).trans hn
    by_cases hx : x = g
    · subst hx
      have hret := nextSegment_marker hn
      have hget : (s.blanked x).nv.segments.get x = Segment.erased := Table.get_put_same _ _ _
      rw [hget]
      exact ⟨Marker.noConfusion, fun h => absurd h hret⟩
    · rw [blanked_kept x hx]
  have hfill : (s.blanked g).fillHead = s.blanked g := by rw [fillHead, hno]
  rw [eraseComplete_blank ok he hs, blanked_dropHead hne (by rw [hm]; rfl), hno, hw]
  refine (if_pos rfl).trans ?_
  rw [writerTake_needs ok hfree hq (fits_none hno _), hfill,
    needSegment_blank ok hnext (congrArg Segment.marker (Table.get_put_same _ _ _))]

end

end State

/-- Settles O38: a reclaim's erase, one that fails, the writer behind it, and the erases of a clear. -/
theorem eraseCompletes : Obligations.EraseCompletes := by
  intro s blank ok ha
  rw [State.exec_eraseComplete blank ok ha]
  refine ⟨fun he => ?_, fun hs => ?_, fun g he => ⟨fun hs hw hq hm hb => ?_, fun hs hb => ?_,
    fun r rest h hs hw hq hh hne hm hn hb => ?_, fun hs hc hb => ?_, fun g' todo hs hc hne hb => ?_⟩⟩
  · simp [State.eraseComplete, he]
  · refine congrArg Host.Outcome.next ?_
    unfold State.eraseComplete
    cases s.archive.erase with
    | none => rfl
    | some g => obtain hs | hs := hs <;> simp [hs]
  · subst hb
    rw [State.eraseComplete_idle ok he hs hq, State.dropHead_eq]
    refine ⟨_, rfl, Table.get_put_same _ _ _, State.blanked_kept, rfl, if_neg (by rw [hw]; exact Bool.false_ne_true), rfl⟩
  · subst hb
    obtain ⟨head, h⟩ := State.eraseComplete_failing ok he hs
    rw [h]
    refine ⟨_, rfl, Table.get_put_same _ _ _, fun x hx => Table.get_put_other _ _ _ _ (Ne.symm hx), rfl, rfl, rfl, rfl,
      ?_, rfl, rfl⟩
    exact (s.latch_getLsbD .archiveError 8).trans (by simp [Notice.bit])
  · subst hb
    have hidle : (s.blanked g).archive.state = .idle := if_neg (by rw [hw]; exact Bool.false_ne_true)
    have hkept (y : Segment) : ∀ x, x ≠ g → ((s.blanked g).nv.segments.put g y).get x = s.nv.segments.get x := fun x hx =>
      (Table.get_put_other _ _ _ _ (Ne.symm hx)).trans (State.blanked_kept x hx)
    rw [State.eraseComplete_opens ok he hs hw hq hh hne hm hn]
    cases ok
    · rw [State.openSegment_failing]
      refine ⟨_, rfl, rfl, hkept _, rfl, rfl, fun h => Bool.noConfusion h,
        fun _ => ⟨Table.get_put_same _ _ _, rfl, rfl, hw, ?_⟩, rfl⟩
      exact ((s.blanked g).latch_getLsbD .archiveError 8).trans (by simp [Notice.bit])
    · rw [State.openSegment_ok]
      exact ⟨_, rfl, rfl, hkept _, rfl, rfl,
        fun _ => ⟨Table.get_put_same _ _ _, rfl, rfl, rfl, if_pos hidle⟩, fun h => Bool.noConfusion h, rfl⟩
  · subst hb
    rw [State.eraseComplete_clearing ok he hs hc, State.clearNext]
    obtain ⟨job, hjob, hbusy, hfree⟩ := (s.putSeg g Segment.erased).clearMarks_spec
    rw [hjob]
    exact ⟨_, rfl, Table.get_put_same _ _ _, fun x hx => Table.get_put_other _ _ _ _ (Ne.symm hx), rfl, hbusy, hfree, rfl⟩
  · subst hb
    rw [State.eraseComplete_clearing ok he hs hc, State.clearNext]
    refine ⟨_, rfl, (Table.get_put_other _ _ _ _ hne).trans (Table.get_put_same _ _ _), congrArg Segment.marker
      (Table.get_put_same _ _ _), rfl, rfl, hs, fun x hxg hxg' => ?_, rfl⟩
    exact (Table.get_put_other _ _ _ _ (Ne.symm hxg')).trans (Table.get_put_other _ _ _ _ (Ne.symm hxg))

end Sys2Proof.Machine
end

section
/-! PROOFS. ERROR_CLEAR and ARCHIVE_CLEAR (O39): the archive out of STOPPED, and the clear begun. -/

/- The whole text is compiled as one file: these proofs are elaborated one after another, to stay within its memory. -/
set_option Elab.async false

namespace Sys2Proof.Machine
namespace State

/-! ### ERROR_CLEAR (R126) -/

/-- The archive out of STOPPED, with the erase settled still to come (R126). -/
def unstopped (s : State) : State := { s with archive := { s.archive with
  error := .none, state := if s.archive.erase.isSome then .suspended else .idle } }

theorem leaveStopped_def (s : State) : s.leaveStopped = s.unstopped.settleErase.reclaimTestRunning := rfl

theorem leaveStopped_eq (s : State) : s.leaveStopped = { s with
    nv := s.leaveStopped.nv, archive := s.leaveStopped.archive, notices := s.leaveStopped.notices } := by
  have hsettle := s.unstopped.settleErase_eq
  have htest := s.unstopped.settleErase.reclaimTestRunning_eq
  rw [← leaveStopped_def] at htest
  generalize s.unstopped.settleErase = u at hsettle htest
  generalize u.archive.state = x at hsettle
  subst hsettle
  generalize s.leaveStopped = t at htest ⊢
  exact htest

theorem leaveStopped_error (s : State) : s.leaveStopped.archive.error = .none := by
  have hsettle := s.unstopped.settleErase_eq
  have htest := s.unstopped.settleErase.reclaimTestRunning_reclaimOnly
  rw [← leaveStopped_def] at htest
  generalize s.unstopped.settleErase = u at hsettle htest
  generalize u.archive.state = x at hsettle
  subst hsettle
  exact congrArg (·.archive.error) htest.1

/-- With no erase pending the reclaim test is made in IDLE (R126). -/
theorem leaveStopped_idle {s : State} (he : s.archive.erase = none) :
    ({ s with archive := { s.archive with error := .none, state := .idle } } : State).reclaimTested s.leaveStopped := by
  have hu : s.unstopped = { s with archive := { s.archive with error := .none, state := .idle } } := by
    rw [unstopped, he]
    rfl
  rw [leaveStopped_def, settleErase_running (by rw [hu]; exact ArchiveState.noConfusion), hu]
  exact reclaimTestRunning_tested _

/-- With an erase suspended the archive is SUSPENDED or RECLAIMING, and the test finds reclaim not wanted (R124, R126). -/
theorem leaveStopped_erasing {s : State} {g : Fin 256} (he : s.archive.erase = some g) : s.leaveStopped = { s with
    archive := { s.archive with
      error := .none, heldInd := false, state := s.unstopped.settleErase.archive.state } } ∧
    s.unstopped.archive.state = .suspended := by
  have hstate : s.unstopped.archive.state = .suspended := by rw [unstopped, he]; rfl
  refine ⟨?_, hstate⟩
  have hs := s.unstopped.settleErase_eq
  have hcases := s.unstopped.settleErase_cases
  have hres := s.unstopped.resumeErase_eq
  have hne : s.unstopped.settleErase.archive.state ≠ .stopped := by
    obtain h | h := hcases
    · rw [h, hstate]
      exact ArchiveState.noConfusion
    · rw [h, hres]
      show (if _ then ArchiveState.reclaiming else _) ≠ _
      split
      · exact ArchiveState.noConfusion
      · rw [hstate]
        exact ArchiveState.noConfusion
  have hun : ∀ x, ¬ s.unstopped.settleErase.wantsReclaim x := fun x ⟨_, _, _, hnone, _⟩ => by
    rw [hs] at hnone
    exact Option.some_ne_none g (he.symm.trans hnone)
  rw [leaveStopped_def, reclaimTestRunning_unwanted hne hun]
  generalize s.unstopped.settleErase = u at *
  generalize u.archive.state = x at *
  rw [hs]
  rfl

/-- A suspended erase stands in a write, or while the oldest record fits the head (R124). -/
theorem unstopped_suspended {s : State} {g : Fin 256} (he : s.archive.erase = some g)
    (h : s.archive.writing = true ∨ (s.openHead ≠ none ∧
      ∃ r, s.queue.head? = some r ∧ s.archive.writePos + r.bytes.length ≤ 32768)) :
    s.unstopped.settleErase.archive.state = .suspended := by
  have hstate := (leaveStopped_erasing he).2
  obtain hw | ⟨ho, r, hr, hfit⟩ := h
  · have hw' : ¬ (s.unstopped.archive.state = .suspended ∧ s.unstopped.archive.writing = false) := fun h =>
      Bool.false_ne_true (h.2.symm.trans hw)
    obtain h | h := s.unstopped.settleErase_cases
    · rw [h, hstate]
    · rw [h, resumeErase_eq, if_neg hw']
      exact hstate
  · obtain ⟨rest, hq⟩ := List.head?_eq_some_iff.1 hr
    obtain ⟨h, ho⟩ := Option.ne_none_iff_exists'.1 ho
    have hf : s.unstopped.fits r.bytes.length = true := (s.unstopped.fits_iff _).2 ⟨⟨h, ho⟩, hfit⟩
    rw [settleErase_fits (s := s.unstopped) hq hf, hstate]

/-- Else it resumes (R124). -/
theorem unstopped_reclaiming {s : State} {g : Fin 256} (he : s.archive.erase = some g) (hop : s.op = .running)
    (hw : s.archive.writing = false) (h : ¬ (s.openHead ≠ none ∧
      ∃ r, s.queue.head? = some r ∧ s.archive.writePos + r.bytes.length ≤ 32768)) :
    s.unstopped.settleErase.archive.state = .reclaiming := by
  have hstate := (leaveStopped_erasing he).2
  have hc : s.unstopped.closing = false := by
    show (s.op == .closing || s.op == .dormant) = false
    rw [hop]
    rfl
  have hres : s.unstopped.resumeErase.archive.state = .reclaiming := resumeErase_resumed hstate hw
  cases hq : s.queue with
  | nil => rw [settleErase_empty (s := s.unstopped) hq hc, hres]
  | cons r rest =>
    have hf : s.unstopped.fits r.bytes.length = false := Bool.eq_false_iff.2 fun hf => by
      obtain ⟨⟨x, hx⟩, hle⟩ := (s.unstopped.fits_iff _).1 hf
      exact h ⟨fun hn => Option.some_ne_none x (hx.symm.trans hn), r, by rw [hq]; rfl, hle⟩
    rw [settleErase_resumes (s := s.unstopped) hq hf (.inl hc), hres]

end State

/-! ### ARCHIVE_CLEAR (R130, R131) -/

theorem Marker.holds_iff (m : Marker) : m.holds = true ↔ m = .opened ∨ m = .full ∨ m = .reclaiming := by
  cases m <;> simp [Marker.holds]

theorem Marker.served_iff (m : Marker) : m.served = true ↔ m = .opened ∨ m = .full := by
  cases m <;> simp [Marker.served]

theorem Archive.anyPin_iff (a : Archive) : a.anyPin = true ↔ ∃ p, a.pins.get p ≠ none := by
  simp [Archive.anyPin, Option.isSome_iff_ne_none]

namespace State

/-- An OPEN or FULL segment holds a record above the mark (R130). -/
theorem anyUncollected_iff (s : State) : s.anyUncollected = true ↔
    ∃ g, ((s.nv.segments.get g).marker = .opened ∨ (s.nv.segments.get g).marker = .full) ∧
      ∃ i ∈ (s.nv.segments.get g).indices, s.archive.mark < i := by
  simp [anyUncollected, seg, Marker.served_iff]

/-- The tests of ARCHIVE_CLEAR passed (R130). -/
theorem archiveClear_taken {s : State} (he : s.archive.error = .none) (hc : s.archive.state ≠ .clearing)
    (hp : s.archive.anyPin = false) (hu : s.settings.overwrite = true ∨ s.anyUncollected = false) :
    s.archiveClear = if s.archive.writing then (s.onArchive fun a => { a with clear := .waiting }).doneNow
      else s.clearBegin.doneNow := by
  have hheld : (!s.settings.overwrite && s.anyUncollected) = false := by
    obtain h | h := hu <;> simp [h]
  simp [archiveClear, he, hc, hp, hheld]

/-- The segments to erase, by whether any holds records (R131). -/
theorem toErase_nil {s : State} (h : ∀ g, (s.nv.segments.get g).marker.holds = false) : s.toErase = [] :=
  List.filter_eq_nil_iff.2 fun g _ => by simp [h g]

/-- With no erase pending and nothing to erase the mark writes are due at once (R131). -/
theorem clearBegin_marks {s : State} (he : s.archive.erase = none)
    (h : ∀ g, (s.nv.segments.get g).marker.holds = false) : ∃ job : Option StoreJob,
    s.clearBegin = { s with
      archive := { s.archive with state := .clearing, cursor := none, heldInd := false, clear := .marking 2 }
      store := job } ∧
    (s.store ≠ none → job = s.store) ∧
    (s.store = none → ∃ copy : Fin 2, job = some (.mark 0 copy) ∧
      ∀ m n, s.nv.marks.get copy = some m → s.nv.marks.get (1 - copy) = some n → m ≤ n) := by
  rw [clearBegin_next he, toErase_nil h, clearNext]
  obtain ⟨job, hjob, hbusy, hfree⟩ := clearMarks_spec
    ({ s with archive := { s.archive with state := .clearing, cursor := none, heldInd := false } } : State)
  refine ⟨job, ?_, hbusy, hfree⟩
  rw [hjob, ← he]

end State

/-- Settles O39: ERROR_CLEAR by whether an erase is pending, ARCHIVE_CLEAR by its tests and what it begins with. -/
theorem errorAndClearAnswer : Obligations.ErrorAndClearAnswer := by
  intro s tag hs
  have hclear : exec (.archiveClear tag []) s = .next (s.whenAlive fun u => u.request .archiveClear tag []) := rfl
  have hrefused {x : Status} (ho : (s.holding ⟨Kind.archiveClear.code, tag, []⟩).archiveClear =
      (s.holding ⟨Kind.archiveClear.code, tag, []⟩).refuse x) :
      exec (.archiveClear tag []) s = .next (s.replied 0x55 tag [] x []) := by
    rw [hclear, State.request_refused (k := .archiveClear) hs nofun rfl rfl ho]
    rfl
  refine ⟨fun hst => ?_, fun hst => ?_, fun he => hrefused ?_, fun he hc => hrefused ?_, fun he hc => ?_⟩
  · have ho : (s.holding ⟨Kind.errorClear.code, tag, []⟩).errorClear =
        ⟨.done, byte s.archive.error.code, s.holding ⟨Kind.errorClear.code, tag, []⟩⟩ := by
      have hst' : ((s.holding ⟨Kind.errorClear.code, tag, []⟩).archive.state == .stopped) = false := by
        simpa [State.holding] using hst
      rw [State.errorClear, hst']
      rfl
    exact exec_read hs (k := .errorClear) rfl nofun rfl rfl ho
  · have ho : (s.holding ⟨Kind.errorClear.code, tag, []⟩).errorClear =
        ⟨.done, byte s.archive.error.code, (s.holding ⟨Kind.errorClear.code, tag, []⟩).leaveStopped⟩ := by
      have hst' : ((s.holding ⟨Kind.errorClear.code, tag, []⟩).archive.state == .stopped) = true := by
        simpa [State.holding] using hst
      rw [State.errorClear, hst']
      rfl
    have hexec : exec (.errorClear tag []) s = _ :=
      congrArg Host.Outcome.next (State.request_served hs (k := .errorClear) nofun rfl rfl ho)
    have hframe := (s.holding ⟨Kind.errorClear.code, tag, []⟩).leaveStopped_eq
    have herror := (s.holding ⟨Kind.errorClear.code, tag, []⟩).leaveStopped_error
    have hidle (he : s.archive.erase = none) :=
      State.leaveStopped_idle (s := s.holding ⟨Kind.errorClear.code, tag, []⟩) he
    have hpending {g : Fin 256} (he : s.archive.erase = some g) :=
      State.leaveStopped_erasing (s := s.holding ⟨Kind.errorClear.code, tag, []⟩) he
    have hsus {g : Fin 256} (he : s.archive.erase = some g) :=
      State.unstopped_suspended (s := s.holding ⟨Kind.errorClear.code, tag, []⟩) he
    have hrec {g : Fin 256} (he : s.archive.erase = some g) :=
      State.unstopped_reclaiming (s := s.holding ⟨Kind.errorClear.code, tag, []⟩) he hs.2
    generalize (s.holding ⟨Kind.errorClear.code, tag, []⟩).leaveStopped = t at hexec hframe herror hidle hpending
    generalize (s.holding ⟨Kind.errorClear.code, tag, []⟩).unstopped.settleErase.archive.state = x at hpending hsus hrec
    refine ⟨_, hexec, ?_, ?_, fun he => ?_, fun g he => ?_, ?_⟩
    · rw [hframe]
      rfl
    · exact herror
    · exact State.reclaimTested_after (State.reclaimTested_congr (hidle he))
    · rw [(hpending he).1]
      refine ⟨rfl, rfl, fun h => ?_, fun hw hf => ?_⟩
      · rw [hsus he h]
        rfl
      · rw [hrec he hw hf]
        rfl
    · rw [hframe]
      rfl
  · simp [State.archiveClear, State.holding, he]
  · simp [State.archiveClear, State.holding, he, hc]
  · intro uncollected holds
    have hpin : (s.holding ⟨Kind.archiveClear.code, tag, []⟩).archive.anyPin = true ↔ ∃ p, s.archive.pins.get p ≠ none :=
      Archive.anyPin_iff _
    have hunc : (s.holding ⟨Kind.archiveClear.code, tag, []⟩).anyUncollected = true ↔ uncollected :=
      State.anyUncollected_iff _
    have hholds (g : Fin 256) : (s.nv.segments.get g).marker.holds = true ↔ holds g := Marker.holds_iff _
    have hnot {g : Fin 256} : ¬ holds g ↔ (s.nv.segments.get g).marker.holds = false := by
      rw [← hholds g, Bool.not_eq_true]
    have herr : ((s.holding ⟨Kind.archiveClear.code, tag, []⟩).archive.error != .none) = false := by
      simpa [State.holding] using he
    have hcl : ((s.holding ⟨Kind.archiveClear.code, tag, []⟩).archive.state == .clearing) = false := by
      simpa [State.holding] using hc
    have htaken (hp : ∀ p, s.archive.pins.get p = none) (hu : s.settings.overwrite = true ∨ ¬ uncollected) :=
      State.archiveClear_taken (s := s.holding ⟨Kind.archiveClear.code, tag, []⟩) he hc
        (Bool.eq_false_iff.2 fun h => (hpin.1 h).elim fun p hp' => hp' (hp p))
        (hu.imp_right fun h => Bool.eq_false_iff.2 fun h' => h (hunc.1 h'))
    refine ⟨fun hp => hrefused ?_, fun hp hov hu => hrefused ?_, fun hp hu => ⟨fun hw => ?_, fun hw => ?_⟩⟩
    · simp only [State.archiveClear, herr, hcl, hpin.2 hp, Bool.false_eq_true, if_false, if_true]
    · have hnopin : (s.holding ⟨Kind.archiveClear.code, tag, []⟩).archive.anyPin = false :=
        Bool.eq_false_iff.2 fun h => (hpin.1 h).elim fun p hp' => hp' (hp p)
      have hheld : (!(s.holding ⟨Kind.archiveClear.code, tag, []⟩).settings.overwrite &&
          (s.holding ⟨Kind.archiveClear.code, tag, []⟩).anyUncollected) = true := by
        rw [hunc.2 hu]
        simp [State.holding, hov]
      simp only [State.archiveClear, herr, hcl, hnopin, hheld, Bool.false_eq_true, if_false, if_true]
    · have hw' : (s.holding ⟨Kind.archiveClear.code, tag, []⟩).archive.writing = true := hw
      have ho := htaken hp hu
      rw [if_pos hw'] at ho
      exact congrArg Host.Outcome.next (State.request_served hs (k := .archiveClear) nofun rfl rfl ho)
    · have hw' : ¬ (s.holding ⟨Kind.archiveClear.code, tag, []⟩).archive.writing = true := fun h =>
        Bool.false_ne_true (hw.symm.trans h)
      have ho := htaken hp hu
      rw [if_neg hw'] at ho
      have hexec : exec (.archiveClear tag []) s = _ :=
        congrArg Host.Outcome.next (State.request_served hs (k := .archiveClear) nofun rfl rfl ho)
      rw [State.doneNow] at hexec
      dsimp only at hexec
      cases hera : s.archive.erase with
      | some g =>
        rw [State.clearBegin_erasing (s := s.holding ⟨Kind.archiveClear.code, tag, []⟩) hera] at hexec
        refine ⟨_, hexec, rfl, rfl, rfl, rfl, rfl, fun x hx => ⟨hera.trans hx, rfl, rfl⟩,
          fun h => absurd h (Option.some_ne_none g), fun h => absurd h (Option.some_ne_none g), rfl⟩
      | none =>
        by_cases hex : ∃ g, holds g
        · obtain ⟨h, hh⟩ := hex
          obtain ⟨g, gs, hl, hg, hlow⟩ := State.toErase_head (s := s.holding ⟨Kind.archiveClear.code, tag, []⟩)
            ((hholds h).2 hh)
          rw [State.clearBegin_first (s := s.holding ⟨Kind.archiveClear.code, tag, []⟩) hera hl] at hexec
          refine ⟨_, hexec, rfl, rfl, rfl, rfl, rfl, fun x hx => absurd hx (Option.some_ne_none x).symm,
            fun _ _ => ⟨g, rfl, (hholds g).1 hg, fun x hx => hnot.2 (hlow x hx), Table.get_put_same _ _ _,
              fun x hx => Table.get_put_other _ _ _ _ (Ne.symm hx), rfl⟩, fun _ hno => absurd hh (hno h), rfl⟩
        · obtain ⟨job, hjob, hbusy, hfree⟩ := State.clearBegin_marks
            (s := s.holding ⟨Kind.archiveClear.code, tag, []⟩) hera fun g => hnot.1 fun h => hex ⟨g, h⟩
          rw [hjob] at hexec
          refine ⟨_, hexec, rfl, rfl, rfl, rfl, rfl, fun x hx => absurd hx (Option.some_ne_none x).symm,
            fun _ h => absurd h hex, fun _ _ => ⟨rfl, ?_, hbusy, hfree⟩, rfl⟩
          rfl

end Sys2Proof.Machine
end

section
/-! PROOFS. The collected mark (O40) and the pins (O41): the mark write of ARCHIVE_COLLECTED, the completions of store writes,
and the pins added and removed. -/

/- The whole text is compiled as one file: these proofs are elaborated one after another, to stay within its memory. -/
set_option Elab.async false

namespace Sys2Proof.Machine
namespace State

/-! ### Store writes that complete (R127, R131, R181) -/

theorem exec_storeWriteComplete {s : State} (h : s.stopped = false) :
    exec .storeWriteComplete s = .next s.storeComplete := by
  have he : exec .storeWriteComplete s = .next (s.whenAlive storeComplete) := rfl
  rw [he, whenAlive_running _ _ h]

theorem clearMarksIfDue_not {s : State} (h : s.archive.clear ≠ .marking 2) : s.clearMarksIfDue = s :=
  if_neg (by simp [h])

theorem clearMarksIfDue_due {s : State} (h : s.archive.clear = .marking 2) (hst : s.store = none) :
    s.clearMarksIfDue = { s with store := some (.mark 0 s.nv.lowerCopy) } :=
  if_pos (by simp [h, storeBusy, hst])

theorem other_eq (c : Fin 2) : other c = 1 - c := by
  fin_cases c <;> rfl

theorem storeComplete_image {s : State} {im : Image} (h : s.store = some (.image im)) :
    s.storeComplete = ({ s with store := none, nv := { s.nv with image := some im } } : State).clearMarksIfDue := by
  simp only [storeComplete, h]

/-- The state with a copy of the mark written (R127). -/
def copyWritten (s : State) (m : Nat) (copy : Fin 2) : State :=
  { s with store := none, nv := { s.nv with marks := s.nv.marks.put copy (some m) } }

theorem storeComplete_mark {s : State} {m : Nat} {copy : Fin 2} (h : s.store = some (.mark m copy)) (hm : m ≠ 0) :
    s.storeComplete = ((s.copyWritten m copy).markCollected m).clearMarksIfDue := by
  simp only [storeComplete, h]
  exact if_neg hm

theorem storeComplete_zero {s : State} {copy : Fin 2} (h : s.store = some (.mark 0 copy)) :
    s.storeComplete = (s.copyWritten 0 copy).markCleared copy := by
  simp only [storeComplete, h, if_true]
  rfl

theorem markCleared_first {s : State} (copy : Fin 2) (h : s.archive.clear = .marking 2) : s.markCleared copy =
    { s with archive := { s.archive with clear := .marking 1 }, store := some (.mark 0 (1 - copy)) } := by
  rw [markCleared, h, other_eq]
  rfl

theorem markCleared_second {s : State} (copy : Fin 2) (h : s.archive.clear = .marking 1) : s.markCleared copy =
    { s with archive := { s.archive with clear := .idle, mark := 0, head := none, state := .idle } } := by
  rw [markCleared, h]
  rfl

/-- A mark taken over is what the reclaim test then reads (R121, R127). -/
theorem markCollected_tested (s : State) (m : Nat) :
    ({ s with archive := { s.archive with mark := m } } : State).reclaimTested (s.markCollected m) ∧
    (s.markCollected m) = { s with
      nv := (s.markCollected m).nv, archive := (s.markCollected m).archive, notices := (s.markCollected m).notices } ∧
    (s.markCollected m).archive.mark = m ∧ (s.markCollected m).archive.clear = s.archive.clear := by
  have hd : s.markCollected m = ({ s with archive := { s.archive with mark := m } } : State).reclaimTestRunning := rfl
  have htest := ({ s with archive := { s.archive with mark := m } } : State).reclaimTestRunning_tested
  have hframe := ({ s with archive := { s.archive with mark := m } } : State).reclaimTestRunning_eq
  obtain ⟨honly, -⟩ := ({ s with archive := { s.archive with mark := m } } : State).reclaimTestRunning_reclaimOnly
  rw [← hd] at htest hframe honly
  generalize s.markCollected m = t at *
  exact ⟨htest, hframe, congrArg (·.archive.mark) honly, congrArg (·.archive.clear) honly⟩

/-- In a clear the test finds reclaim not wanted (R121). -/
theorem markCollected_clearing {s : State} {m : Nat} (hs : s.archive.state = .clearing) :
    s.markCollected m = { s with archive := { s.archive with mark := m, heldInd := false } } := by
  have hd : s.markCollected m = ({ s with archive := { s.archive with mark := m } } : State).reclaimTestRunning := rfl
  have hst : ({ s with archive := { s.archive with mark := m } } : State).archive.state = .clearing := hs
  have hun : ∀ g, ¬ ({ s with archive := { s.archive with mark := m } } : State).wantsReclaim g := fun g ⟨_, _, _, _, h⟩ => by
    rw [hst] at h
    obtain h | h := h <;> exact ArchiveState.noConfusion h
  rw [hd, reclaimTestRunning_unwanted (by rw [hst]; exact ArchiveState.noConfusion) hun]
  rfl

end State

/-! ### ARCHIVE_COLLECTED (R127) -/

/-- ARCHIVE_COLLECTED is refused, answered with the mark as it stands, or begins a mark write (R127). -/
theorem archiveCollected_answers {s : State} (tag : Byte) {body : List Byte} (hs : s.ready) (hl : body.length = 4) :
    (s.archive.state = .clearing ∨ s.store ≠ none →
      exec (.archiveCollected tag body) s = .next (s.replied 0x52 tag body .busy [])) ∧
    (s.archive.state ≠ .clearing → s.store = none →
      (field body 0 4 ≤ s.archive.mark → exec (.archiveCollected tag body) s =
        .next (s.replied 0x52 tag body .done (leBytes 4 s.archive.mark ++ leBytes 4 s.archive.mark))) ∧
      (s.archive.mark < field body 0 4 → ∃ copy : Fin 2, exec (.archiveCollected tag body) s =
          .next (({ s with store := some (.mark (field body 0 4) copy) } : State).replied 0x52 tag body .done
            (leBytes 4 s.archive.mark ++ leBytes 4 (field body 0 4))) ∧
        ∀ m n, s.nv.marks.get copy = some m → s.nv.marks.get (1 - copy) = some n → m ≤ n)) := by
  have hok : Kind.archiveCollected.lengthOk body.length = true := by rw [hl]; rfl
  have hexec : exec (.archiveCollected tag body) s = .next (s.whenAlive fun u => u.request .archiveCollected tag body) := rfl
  refine ⟨fun h => ?_, fun hc hst => ⟨fun hle => ?_, fun hlt => ⟨s.nv.lowerCopy, ?_, fun _ _ => State.lowerCopy_le⟩⟩⟩
  · refine hexec.trans (congrArg Host.Outcome.next (State.request_refused (k := .archiveCollected) hs nofun hok rfl ?_))
    by_cases hc : s.archive.state = .clearing
    · exact if_pos (beq_iff_eq.2 hc)
    · refine (if_neg fun h => hc (beq_iff_eq.1 h)).trans (if_pos ?_)
      exact Option.isSome_iff_ne_none.2 (h.resolve_left hc)
  all_goals
    have hc' : ¬ (((s.holding ⟨Kind.archiveCollected.code, tag, body⟩).archive.state == .clearing) = true) := fun h =>
      hc (beq_iff_eq.1 h)
    have hst' : ¬ (s.holding ⟨Kind.archiveCollected.code, tag, body⟩).storeBusy = true := fun h =>
      Option.isSome_iff_ne_none.1 h hst
  · exact exec_read hs hexec nofun hok rfl ((if_neg hc').trans ((if_neg hst').trans (if_pos hle)))
  · refine hexec.trans (congrArg Host.Outcome.next (State.request_replied (k := .archiveCollected) hs nofun hok rfl ?_))
    exact (if_neg hc').trans ((if_neg hst').trans (if_neg (Nat.not_le_of_lt hlt)))

/-- Settles O40: the request, then each store write that completes. -/
theorem collectedMarkIsWritten : Obligations.CollectedMarkIsWritten := by
  refine ⟨fun s tag body hs hl => archiveCollected_answers tag hs hl, fun s ha => ?_⟩
  rw [State.exec_storeWriteComplete ha]
  refine ⟨fun h => ?_, fun im h hc => ?_, fun im h hc => ?_, fun m copy h hm hc => ?_, fun m copy h hm hc hs => ?_,
    fun copy h => ⟨fun hc => ?_, fun hc => ?_⟩⟩
  · simp only [State.storeComplete, h]
  · rw [State.storeComplete_image h]
    exact congrArg Host.Outcome.next (State.clearMarksIfDue_not hc)
  · rw [State.storeComplete_image h]
    exact ⟨_, congrArg Host.Outcome.next (State.clearMarksIfDue_due
      (s := { s with store := none, nv := { s.nv with image := some im } }) hc rfl), fun m n =>
        State.lowerCopy_le (nv := { s.nv with image := some im })⟩
  · obtain ⟨htest, hframe, hmark, hclear⟩ := (s.copyWritten m copy).markCollected_tested m
    rw [State.storeComplete_mark h hm]
    generalize (s.copyWritten m copy).markCollected m = t at *
    rw [State.clearMarksIfDue_not (by rw [hclear]; exact hc)]
    refine ⟨_, rfl, ?_, hmark, State.reclaimTested_congr htest, ?_⟩ <;> rw [hframe] <;> rfl
  · intro marks
    have hcol : (s.copyWritten m copy).markCollected m = { s with
        store := none, nv := { s.nv with marks := marks }
        archive := { s.archive with mark := m, heldInd := false } } :=
      State.markCollected_clearing (s := s.copyWritten m copy) hs
    rw [State.storeComplete_mark h hm, hcol]
    exact ⟨_, congrArg Host.Outcome.next (State.clearMarksIfDue_due (s := { s with
      store := none, nv := { s.nv with marks := marks }
      archive := { s.archive with mark := m, heldInd := false } }) hc rfl), fun i j =>
        State.lowerCopy_le (nv := { s.nv with marks := marks })⟩
  · rw [State.storeComplete_zero h]
    exact congrArg Host.Outcome.next (State.markCleared_first copy hc)
  · rw [State.storeComplete_zero h]
    exact congrArg Host.Outcome.next (State.markCleared_second copy hc)

/-! ### Pins (R128, R129) -/

theorem Archive.pinned_iff (a : Archive) (i : Nat) : a.pinned i = true ↔
    ∃ p lo hi, a.pins.get p = some (lo, hi) ∧ lo ≤ i ∧ i ≤ hi := by
  simp only [Archive.pinned, List.any_eq_true, List.mem_finRange, true_and]
  refine exists_congr fun p => ?_
  cases h : a.pins.get p with
  | none => simp
  | some x =>
    obtain ⟨lo, hi⟩ := x
    simp

theorem Archive.freePin_iff (a : Archive) (p : Fin 4) :
    a.freePin = some p ↔ a.pins.get p = none ∧ ∀ q, q < p → a.pins.get q ≠ none := by
  rw [Archive.freePin, find?_finRange]
  simp [Option.isSome_iff_ne_none]

theorem Archive.freePin_none {a : Archive} (h : ∀ p, a.pins.get p ≠ none) : a.freePin = none := by
  rw [Archive.freePin, List.find?_eq_none]
  simpa using h

namespace State

theorem eraseHolds_iff (s : State) (lo hi : Nat) : s.eraseHolds lo hi = true ↔
    ∃ g, (s.nv.segments.get g).marker = .reclaiming ∧ ∃ i ∈ (s.nv.segments.get g).indices, lo ≤ i ∧ i ≤ hi := by
  simp [eraseHolds, seg]

theorem setPins_eq (s : State) (pins : Table (Option (Nat × Nat)) 4) : s.setPins pins = { s with
    archive := { s.archive with pins := pins }
    store := some (.image { s.storedImage with pins := pins }) } := rfl

/-- No reclaim test touches the segment of a record that a pin holds (R122). -/
theorem reclaimTestRunning_pinned {s : State} {g : Fin 256} {i : Nat} (hi : i ∈ (s.nv.segments.get g).indices)
    (hp : s.archive.pinned i = true) : s.reclaimTestRunning.nv.segments.get g = s.nv.segments.get g := by
  obtain ⟨b, h⟩ | ⟨x, -, ha, h⟩ | h := s.reclaimTestRunning_cases
  · rw [h]
    rfl
  · have hx : x ≠ g := fun e => Bool.false_ne_true ((ha i (e ▸ hi)).1.symm.trans hp)
    rw [h, beginErase_eq]
    exact Table.get_put_other _ _ _ _ hx
  · rw [h, becomeHeld_eq]

end State

section
variable {s : State} (tag : Byte)

/-- PIN_ADD with the test that it fails, or the pin stored (R128). -/
theorem pinAdd_answers {body : List Byte} (hs : s.ready) (hl : body.length = 8) :
    (s.archive.state = .clearing → exec (.pinAdd tag body) s = .next (s.replied 0x53 tag body .busy [])) ∧
    (s.archive.state ≠ .clearing → (field body 4 4 < field body 0 4 ∨ ∀ p, s.archive.pins.get p ≠ none) →
      exec (.pinAdd tag body) s = .next (s.replied 0x53 tag body .range [])) ∧
    ∀ p : Fin 4, s.archive.state ≠ .clearing → field body 0 4 ≤ field body 4 4 → s.archive.pins.get p = none →
      (∀ q, q < p → s.archive.pins.get q ≠ none) →
      (s.store ≠ none → exec (.pinAdd tag body) s = .next (s.replied 0x53 tag body .busy [])) ∧
      (s.store = none → s.eraseHolds (field body 0 4) (field body 4 4) = true →
        exec (.pinAdd tag body) s = .next (s.replied 0x53 tag body .conflict [])) ∧
      (s.store = none → s.eraseHolds (field body 0 4) (field body 4 4) = false → exec (.pinAdd tag body) s =
        .next ((s.setPins (s.archive.pins.put p (some (field body 0 4, field body 4 4)))).replied
          0x53 tag body .done [BitVec.ofNat 8 p.val])) := by
  have hok : Kind.pinAdd.lengthOk body.length = true := by rw [hl]; rfl
  obtain ⟨u, hu⟩ : ∃ u, s.holding ⟨Kind.pinAdd.code, tag, body⟩ = u := ⟨_, rfl⟩
  have hrefused {x : Status} (ho : u.pinAdd body = u.refuse x) :
      exec (.pinAdd tag body) s = .next (s.replied 0x53 tag body x []) := by
    rw [← hu] at ho
    exact congrArg Host.Outcome.next (State.request_refused (k := .pinAdd) hs nofun hok rfl ho)
  have hstate : (u.archive.state == .clearing) = true ↔ s.archive.state = .clearing := by rw [← hu]; exact beq_iff_eq
  have hpins : u.archive.freePin = s.archive.freePin := by rw [← hu]; rfl
  have hbusy : u.storeBusy = true ↔ s.store ≠ none := by rw [← hu]; exact Option.isSome_iff_ne_none
  have hholds : u.eraseHolds (field body 0 4) (field body 4 4) = s.eraseHolds (field body 0 4) (field body 4 4) := by
    rw [← hu]
    rfl
  refine ⟨fun hc => hrefused (if_pos (hstate.2 hc)), fun hc hr => hrefused ?_, fun p hc hle hfree hlow => ?_⟩
  · rw [State.pinAdd, if_neg (mt hstate.1 hc)]
    by_cases hlt : field body 4 4 < field body 0 4
    · exact if_pos hlt
    · rw [if_neg hlt, hpins, Archive.freePin_none (hr.resolve_left hlt)]
  · have hplace : u.archive.freePin = some p := hpins.trans ((Archive.freePin_iff _ p).2 ⟨hfree, hlow⟩)
    have hanswer : u.pinAdd body = if u.storeBusy then u.refuse .busy
        else if u.eraseHolds (field body 0 4) (field body 4 4) then u.refuse .conflict
        else ⟨.done, byte p.val, u.setPins (u.archive.pins.put p (some (field body 0 4, field body 4 4)))⟩ := by
      simp only [State.pinAdd, if_neg (mt hstate.1 hc), if_neg (Nat.not_lt_of_le hle), hplace]
    refine ⟨fun hst => hrefused (hanswer.trans (if_pos (hbusy.2 hst))), fun hst hcon => hrefused ?_, fun hst hno => ?_⟩
    · rw [hanswer, if_neg (fun h => hbusy.1 h hst), hholds, if_pos hcon]
    · rw [if_neg (fun h => hbusy.1 h hst), hholds, if_neg (by rw [hno]; exact Bool.false_ne_true)] at hanswer
      rw [← hu] at hanswer
      exact congrArg Host.Outcome.next (State.request_replied (k := .pinAdd) hs nofun hok rfl hanswer)

/-- PIN_REMOVE with the test that it fails, or the place freed and reclaim tested (R129). -/
theorem pinRemove_answers (hs : s.ready) (place : Byte) :
    (3 < place.toNat → exec (.pinRemove tag [place]) s = .next (s.replied 0x54 tag [place] .range [])) ∧
    ∀ p : Fin 4, place.toNat = p.val →
      (s.archive.pins.get p = none →
        exec (.pinRemove tag [place]) s = .next (s.replied 0x54 tag [place] .range [])) ∧
      (s.archive.pins.get p ≠ none → s.store ≠ none →
        exec (.pinRemove tag [place]) s = .next (s.replied 0x54 tag [place] .busy [])) ∧
      (s.archive.pins.get p ≠ none → s.store = none → exec (.pinRemove tag [place]) s =
        .next (((s.holding ⟨0x54, tag, [place]⟩).setPins (s.archive.pins.put p none)).reclaimTestRunning.setReply
          (some ⟨0xD4, tag, .done, [], false⟩))) := by
  obtain ⟨u, hu⟩ : ∃ u, s.holding ⟨Kind.pinRemove.code, tag, [place]⟩ = u := ⟨_, rfl⟩
  have hrefused {x : Status} (ho : u.pinRemove [place] = u.refuse x) :
      exec (.pinRemove tag [place]) s = .next (s.replied 0x54 tag [place] x []) := by
    rw [← hu] at ho
    exact congrArg Host.Outcome.next (State.request_refused (k := .pinRemove) hs nofun rfl rfl ho)
  have hplace : field [place] 0 1 = place.toNat := field_byte place []
  refine ⟨fun h3 => hrefused (dif_neg (by rw [hplace]; omega)), fun p hp => ?_⟩
  have hlt : field [place] 0 1 < 4 := by rw [hplace, hp]; exact p.isLt
  have hfin : (⟨field [place] 0 1, hlt⟩ : Fin 4) = p := Fin.ext (hplace.trans hp)
  have hanswer : u.pinRemove [place] = if (u.archive.pins.get p).isNone then u.refuse .range
      else if u.storeBusy then u.refuse .busy
      else (u.setPins (u.archive.pins.put p none)).reclaimTestRunning.doneNow := by
    rw [State.pinRemove, dif_pos hlt]
    dsimp only
    rw [hfin]
  have hnone : (u.archive.pins.get p).isNone = true ↔ s.archive.pins.get p = none := by
    rw [← hu]
    exact Option.isNone_iff_eq_none
  have hbusy : u.storeBusy = true ↔ s.store ≠ none := by rw [← hu]; exact Option.isSome_iff_ne_none
  refine ⟨fun h => hrefused (hanswer.trans (if_pos (hnone.2 h))), fun h hst => hrefused ?_, fun h hst => ?_⟩
  · rw [hanswer, if_neg (mt hnone.1 h), if_pos (hbusy.2 hst)]
  · rw [if_neg (mt hnone.1 h), if_neg fun hb => hbusy.1 hb hst] at hanswer
    rw [← hu] at hanswer
    exact congrArg Host.Outcome.next (State.request_served (k := .pinRemove) hs nofun rfl rfl hanswer)

end

/-- Settles O41: PIN_ADD, then PIN_REMOVE with its reclaim test. -/
theorem pinsAnswer : Obligations.PinsAnswer := by
  refine fun s tag hs => ⟨fun body hl => ?_, fun place => ?_⟩
  · obtain ⟨hclearing, hrange, hplaced⟩ := pinAdd_answers tag hs hl
    refine ⟨hclearing, hrange, fun p hc hle hfree hlow => ?_⟩
    obtain ⟨hbusy, hconflict, hdone⟩ := hplaced p hc hle hfree hlow
    refine ⟨hbusy, fun hst hx => hconflict hst ((s.eraseHolds_iff _ _).2 hx), fun hst hno => hdone hst ?_⟩
    refine Bool.eq_false_iff.2 fun h => ?_
    obtain ⟨g, hm, i, hi, hlo, hhi⟩ := (s.eraseHolds_iff _ _).1 h
    have := hno g hm i hi
    omega
  · obtain ⟨hrange, hplace⟩ := pinRemove_answers tag hs place
    refine ⟨hrange, fun p hp => ?_⟩
    obtain ⟨hfree, hbusy, hdone⟩ := hplace p hp
    refine ⟨hfree, hbusy, fun h hst => ?_⟩
    have hexec := hdone h hst
    have htest := ((s.holding ⟨0x54, tag, [place]⟩).setPins (s.archive.pins.put p none)).reclaimTestRunning_tested
    obtain ⟨hframe, -⟩ := ((s.holding ⟨0x54, tag, [place]⟩).setPins (s.archive.pins.put p none)).reclaimTestRunning_reclaimOnly
    have hpinned {g : Fin 256} {i : Nat} := State.reclaimTestRunning_pinned
      (s := (s.holding ⟨0x54, tag, [place]⟩).setPins (s.archive.pins.put p none)) (g := g) (i := i)
    rw [State.setPins_eq] at *
    generalize State.reclaimTestRunning _ = t at hexec htest hframe hpinned
    refine ⟨_, hexec, ?_, ?_, ?_, State.reclaimTested_after (State.reclaimTested_congr htest), fun g i hi hpin => ?_, ?_⟩
    · rw [hframe]
      rfl
    · rw [hframe]
      rfl
    · rw [hframe]
      rfl
    · have hpin' : t.archive.pinned i = true := hpin
      rw [hframe] at hpin'
      exact hpinned hi hpin'
    · rw [hframe]
      rfl

end Sys2Proof.Machine
end

section
/-! PROOFS. ARCHIVE_READ and ARCHIVE_MORE (O42): the walk taken up again where it stood, the records that a reply takes, and
the cursor before the rest. -/

/- The whole text is compiled as one file: these proofs are elaborated one after another, to stay within its memory. -/
set_option Elab.async false

namespace Sys2Proof.Machine

/-! ### A walk taken up again (R132) -/

/-- A slot that is passed over is not empty (R114). -/
theorem slotAt_advances {rest : List Byte} {room : Nat} :
    (∀ bs, slotAt rest room = .record bs → rest ≠ [] ∧ 0 < bs.length) ∧
    (∀ n, slotAt rest room = .dead n → rest ≠ [] ∧ 0 < n) := by
  have hinterval {n : Nat} (h : isIntervalLength n = true) : 0 < n := by
    simp only [isIntervalLength, Bool.and_eq_true, decide_eq_true_eq] at h
    omega
  unfold slotAt
  dsimp only
  generalize field (areaTake 5 rest) 2 2 = len
  split
  · exact ⟨nofun, nofun⟩
  · next he =>
    have hr : rest ≠ [] := by simpa using he
    split
    · exact ⟨nofun, nofun⟩
    · split
      · split
        · next hl =>
          refine ⟨nofun, fun n hn => ⟨hr, ?_⟩⟩
          obtain rfl := Slot.dead.inj hn
          obtain h | h := Bool.or_eq_true_iff.1 hl
          · exact hinterval h
          · rw [beq_iff_eq.1 h]
            decide
        · exact ⟨nofun, nofun⟩
      · split
        · split
          · next hl =>
            refine ⟨fun bs hb => ⟨hr, ?_⟩, nofun⟩
            obtain rfl := Slot.record.inj hb
            rw [areaTake_length]
            exact hinterval (Bool.and_eq_true_iff.1 hl).1
          · exact ⟨nofun, nofun⟩
        · split
          · split
            · next hl =>
              refine ⟨fun bs hb => ⟨hr, ?_⟩, nofun⟩
              obtain rfl := Slot.record.inj hb
              rw [areaTake_length, beq_iff_eq.1 (Bool.and_eq_true_iff.1 hl).1]
              decide
            · exact ⟨nofun, nofun⟩
          · exact ⟨nofun, nofun⟩

/-- A walk that may take as many slots as there are bytes does not depend on how many it may take. -/
theorem walkFrom_enough {k l off : Nat} {rest : List Byte} (hk : rest.length < k) (hl : rest.length < l) :
    walkFrom k off rest = walkFrom l off rest := by
  induction k generalizing l off rest with
  | zero => omega
  | succ k ih =>
    obtain ⟨l, rfl⟩ : ∃ m, l = m + 1 := ⟨l - 1, by omega⟩
    have hshort {n : Nat} (hr : rest ≠ []) (hn : 0 < n) {m : Nat} (hm : rest.length < m + 1) :
        (rest.drop n).length < m := by
      have := List.length_pos_iff.2 hr
      rw [List.length_drop]
      omega
    unfold walkFrom
    split
    · next bs h =>
      obtain ⟨hr, hb⟩ := slotAt_advances.1 bs h
      rw [ih (hshort hr hb hk) (hshort hr hb hl)]
    · next n h =>
      obtain ⟨hr, hn⟩ := slotAt_advances.2 n h
      exact ih (hshort hr hn hk) (hshort hr hn hl)
    · rfl

/-- A walk taken up at one of its records finds that record and those behind it. -/
theorem walkFrom_again {area : List Byte} {k off : Nat} {pre post : List (Nat × List Byte)} {x : Nat × List Byte}
    (hoff : 16 ≤ off) (hk : (area.drop (off - 16)).length < k)
    (h : (walkFrom k off (area.drop (off - 16))).records = pre ++ x :: post) {l : Nat}
    (hl : (area.drop (x.1 - 16)).length < l) :
    (walkFrom l x.1 (area.drop (x.1 - 16))).records = x :: post := by
  induction k generalizing off pre with
  | zero => omega
  | succ k ih =>
    have hdrop (n : Nat) : (area.drop (off - 16)).drop n = area.drop (off + n - 16) := by
      rw [List.drop_drop, show off - 16 + n = off + n - 16 by omega]
    have hshort {n : Nat} (hr : area.drop (off - 16) ≠ []) (hn : 0 < n) : (area.drop (off + n - 16)).length < k := by
      have hpos := List.length_pos_iff.2 hr
      rw [List.length_drop] at hpos hk ⊢
      omega
    have hwhole := h
    unfold walkFrom at h
    split at h
    · next bs hb =>
      obtain ⟨hr, hlen⟩ := slotAt_advances.1 bs hb
      cases pre with
      | nil =>
        obtain ⟨hx, -⟩ := List.cons.inj h
        have hx1 : off = x.1 := congrArg Prod.fst hx
        subst hx1
        rw [walkFrom_enough hl hk, hwhole, List.nil_append]
      | cons p ps =>
        obtain ⟨-, htail⟩ := List.cons.inj h
        rw [hdrop] at htail
        exact ih (by omega) (hshort hr hlen) htail
    · next n hn =>
      obtain ⟨hr, hlen⟩ := slotAt_advances.2 n hn
      rw [hdrop] at h
      exact ih (by omega) (hshort hr hlen) h
    · exact absurd h (by simp)

theorem Segment.walkAt_again {g : Segment} {off : Nat} {pre post : List (Nat × List Byte)} {x : Nat × List Byte}
    (hoff : 16 ≤ off) (h : (g.walkAt off).records = pre ++ x :: post) : (g.walkAt x.1).records = x :: post :=
  walkFrom_again hoff (by rw [List.length_drop]; omega) h (by rw [List.length_drop]; omega)

/-! ### The records that a reply takes (R132) -/

/-- The reply takes as many records as fit its room, in their order. -/
theorem takeRecords_spec (room : Nat) (xs : List (Position × List Byte)) : ∃ k, k ≤ xs.length ∧
    (takeRecords room xs).1 = (xs.map (·.2)).take k ∧ (takeRecords room xs).2 = xs.drop k ∧
    ((xs.map (·.2)).take k).flatten.length ≤ room ∧
    (k < xs.length → room < ((xs.map (·.2)).take (k + 1)).flatten.length) := by
  induction xs generalizing room with
  | nil => exact ⟨0, Nat.le_refl _, rfl, rfl, Nat.zero_le _, fun h => absurd h (Nat.lt_irrefl 0)⟩
  | cons x xs ih =>
    unfold takeRecords
    by_cases hfit : x.2.length ≤ room
    · obtain ⟨k, hk, htaken, hrest, hlen, hmore⟩ := ih (room - x.2.length)
      rw [if_pos hfit]
      refine ⟨k + 1, Nat.succ_le_succ hk, ?_, ?_, ?_, fun h => ?_⟩
      · simp [htaken]
      · simp [hrest]
      · simp only [List.map_cons, List.take_succ_cons, List.flatten_cons, List.length_append]
        omega
      · have := hmore (Nat.lt_of_succ_lt_succ h)
        simp only [List.map_cons, List.take_succ_cons, List.flatten_cons, List.length_append]
        omega
    · rw [if_neg hfit]
      refine ⟨0, Nat.zero_le _, rfl, rfl, Nat.zero_le _, fun _ => ?_⟩
      simp only [List.map_cons, List.take_succ_cons, List.take_zero, List.flatten_cons, List.flatten_nil, List.append_nil]
      omega

namespace State

/-! ### The records that a walk finds (R132) -/

/-- The records of the segments `gs` in order. -/
def recordsIn (s : State) (gs : List (Fin 256)) : List (List Byte) :=
  gs.flatMap fun h => (s.nv.segments.get h).walk.records.map (·.2)

theorem filter_records (f : ReadFilter) (g : Fin 256) (l : List (Nat × List Byte)) :
    ((l.filter fun r => f.fits r.2).map fun r => ((⟨g, r.1⟩ : Position), r.2)).map (·.2) = (l.map (·.2)).filter f.fits := by
  rw [List.map_map, List.filter_map]
  rfl

theorem readSegments_found (s : State) (f : ReadFilter) (gs : List (Fin 256)) (pos : Position) :
    (s.readSegments f gs 16 pos).found.map (·.2) = (s.recordsIn gs).filter f.fits := by
  induction gs generalizing pos with
  | nil => rfl
  | cons g gs ih =>
    rw [readSegments, List.map_append, filter_records, ih, recordsIn, recordsIn, List.flatMap_cons, List.filter_append]
    rfl

theorem readSegments_found_from (s : State) (f : ReadFilter) (g : Fin 256) (gs : List (Fin 256)) (off : Nat)
    (pos : Position) : (s.readSegments f (g :: gs) off pos).found.map (·.2) =
      (((s.nv.segments.get g).walkAt off).records.map (·.2) ++ s.recordsIn gs).filter f.fits := by
  rw [readSegments, List.map_append, filter_records, readSegments_found, List.filter_append]
  rfl

/-- Where the walk stands at one of the records it finds: what follows is the rest of that segment and the segments behind. -/
theorem readSegments_split {s : State} {f : ReadFilter} {gs : List (Fin 256)} {off : Nat} {pos : Position}
    {a b : List (Position × List Byte)} {x : Position × List Byte} (hoff : 16 ≤ off)
    (h : (s.readSegments f gs off pos).found = a ++ x :: b) : ∃ us vs, gs = us ++ x.1.segment :: vs ∧
      (((s.nv.segments.get x.1.segment).walkAt x.1.offset).records.map (·.2) ++ s.recordsIn vs).filter f.fits =
        x.2 :: b.map (·.2) := by
  induction gs generalizing off pos a with
  | nil => exact absurd h (by simp [readSegments])
  | cons g gs ih =>
    rw [readSegments] at h
    have hfound := s.readSegments_found f gs (if ((s.seg g).walkAt off).endAt = 16 then pos else ⟨g, ((s.seg g).walkAt off).endAt⟩)
    obtain ⟨c, hhere, hb⟩ | ⟨a', ha, hrest⟩ : (∃ c, _ = a ++ x :: c ∧ b = c ++ _) ∨ ∃ a', a = _ ++ a' ∧ _ = a' ++ x :: b := by
      obtain ⟨c, h1, h2⟩ | ⟨c, h1, h2⟩ := List.append_eq_append_iff.1 h
      · exact .inr ⟨c, h1, h2⟩
      · cases c with
        | nil => exact .inr ⟨[], by simpa using h1.symm, by simpa using h2.symm⟩
        | cons y c =>
          obtain ⟨rfl, h3⟩ := List.cons.inj h2
          exact .inl ⟨c, h1, h3⟩
    · obtain ⟨l1, l2, hfilter, -, hl2⟩ := List.map_eq_append_iff.1 hhere
      obtain ⟨y, l3, rfl, hx, hc⟩ := List.map_eq_cons_iff.1 hl2
      obtain ⟨r1, r2, hrec, -, hr2⟩ := List.filter_eq_append_iff.1 hfilter
      obtain ⟨p, q, rfl, -, hfits, hq⟩ := List.filter_eq_cons_iff.1 hr2
      have hagain : ((s.nv.segments.get g).walkAt y.1).records = y :: q :=
        Segment.walkAt_again (pre := r1 ++ p) hoff (by rw [List.append_assoc]; exact hrec)
      subst hx
      refine ⟨[], gs, rfl, ?_⟩
      rw [hagain, hb, List.map_append, hfound, ← hc, ← hq, filter_records, List.filter_append, List.map_cons,
        List.filter_cons, if_pos hfits]
      rfl
    · obtain ⟨us, vs, hgs, hrec⟩ := ih (Nat.le_refl 16) hrest
      exact ⟨g :: us, vs, by rw [hgs]; rfl, hrec⟩

/-! ### Archive order with distinct open sequence numbers (R113) -/

/-- The segments that reads serve have distinct open sequence numbers. -/
def seqsDiffer (s : State) : Prop := ∀ g h, (s.nv.segments.get g).marker.served = true →
  (s.nv.segments.get h).marker.served = true → (s.nv.segments.get g).seq = (s.nv.segments.get h).seq → g = h

theorem served_sorted {s : State} (hd : s.seqsDiffer) :
    (s.segmentsWith Marker.served).Pairwise fun x y => s.seqOf x < s.seqOf y := by
  have hnodup := s.segmentsWith_nodup Marker.served
  have hsorted := s.segmentsWith_sorted Marker.served
  refine (hsorted.and hnodup).imp_of_mem fun {x y} hx hy ⟨hle, hne⟩ => Nat.lt_of_le_of_ne hle fun he => hne ?_
  exact hd x y ((s.mem_segmentsWith _ x).1 hx) ((s.mem_segmentsWith _ y).1 hy) he

/-- The segments opened after `g` are those behind it in archive order. -/
theorem served_behind {s : State} (hd : s.seqsDiffer) {us vs : List (Fin 256)} {g : Fin 256}
    (h : s.segmentsWith Marker.served = us ++ g :: vs) :
    ((s.segmentsWith Marker.served).filter fun x => (s.nv.segments.get g).seq < (s.nv.segments.get x).seq) = vs := by
  have hsorted := served_sorted hd
  rw [h] at hsorted ⊢
  obtain ⟨-, hvs, hus⟩ := List.pairwise_append.1 hsorted
  have hbefore : us.filter (fun x => decide ((s.nv.segments.get g).seq < (s.nv.segments.get x).seq)) = [] :=
    List.filter_eq_nil_iff.2 fun x hx => by
      have : s.seqOf x < s.seqOf g := hus x hx g List.mem_cons_self
      simpa [seqOf] using Nat.le_of_lt this
  have hbehind : vs.filter (fun x => decide ((s.nv.segments.get g).seq < (s.nv.segments.get x).seq)) = vs :=
    List.filter_eq_self.2 fun x hx => decide_eq_true ((List.pairwise_cons.1 hvs).1 x hx)
  rw [List.filter_append, hbefore, List.filter_cons, if_neg (by simp), hbehind, List.nil_append]

/-! ### A read (R132, R133) -/

/-- A read whose walk goes over the last segments in archive order answers as many records of what it finds as fit, and
leaves the cursor before the rest. -/
theorem readFrom_serves {s : State} {f : ReadFilter} {start pos : Position} {us gs : List (Fin 256)} {off : Nat}
    (hd : s.seqsDiffer) (hs : s.segmentsWith Marker.served = us ++ gs) (hoff : 16 ≤ off) (hpos : 16 ≤ pos.offset)
    (hw : s.readWalk f start = s.readSegments f gs off pos) {found : List (List Byte)}
    (hfound : (s.readSegments f gs off pos).found.map (·.2) = found) :
    ∃ (c : Cursor) (k : Nat) (more : Byte), s.readFrom f start =
        ⟨.done, [BitVec.ofNat 8 k, more, BitVec.ofNat 8 c.segment.val] ++ leBytes 4 c.offset ++ [0] ++
          (found.take k).flatten, s.onArchive fun a => { a with cursor := some c }⟩ ∧
      k ≤ found.length ∧ (found.take k).flatten.length ≤ 1016 ∧ (more = 1 ↔ k < found.length) ∧
      (k < found.length → 1016 < (found.take (k + 1)).flatten.length ∧
        s.recordsFrom c.filter c.segment c.offset = found.drop k ∧ (s.nv.segments.get c.segment).seq = c.seq ∧
        (s.nv.segments.get c.segment).marker.served = true) ∧ 16 ≤ c.offset ∧ c.filter = f := by
  obtain ⟨hend, hbehind⟩ := s.readSegments_behind f gs off pos hoff hpos
  have hsplit {a b : List (Position × List Byte)} {x : Position × List Byte} :=
    readSegments_split (s := s) (f := f) (gs := gs) (pos := pos) (a := a) (b := b) (x := x) hoff
  have hread := s.readFrom_eq f start
  rw [hw] at hread
  generalize s.readSegments f gs off pos = w at *
  obtain ⟨k, hk, htaken, hrest, hroom, hmore⟩ := takeRecords_spec 1016 w.found
  have hlength : w.found.length = found.length := by rw [← hfound, List.length_map]
  rw [hfound] at htaken hroom hmore
  rw [hlength] at hk hmore
  have hcount : (found.take k).length = k := List.length_take_of_le hk
  have hmoreByte : boolByte (!(w.found.drop k).isEmpty) = [if k < found.length then 1 else 0] := by
    by_cases hlt : k < found.length
    · have : (w.found.drop k).isEmpty = false := by simpa [hlength] using hlt
      rw [this, if_pos hlt]
      rfl
    · have : (w.found.drop k).isEmpty = true := by simpa [hlength] using hlt
      rw [this, if_neg hlt]
      rfl
  refine ⟨⟨w.rest.segment, (s.seg w.rest.segment).seq, w.rest.offset, f⟩, k, if k < found.length then 1 else 0, ?_, hk, hroom,
    ?_, fun hlt => ?_, w.rest_behind hend hbehind, rfl⟩
  · rw [hread, htaken, hrest, hcount, readHeader, hmoreByte]
    rfl
  · by_cases hlt : k < found.length <;> simp [hlt]
  · obtain ⟨x, hx⟩ : ∃ x, w.found.drop k = x :: w.found.drop (k + 1) := ⟨_, List.drop_eq_getElem_cons (by omega)⟩
    have hpos : w.rest = x.1 := by
      rw [ReadWalk.rest, hrest, hx]
    have hcut : w.found = w.found.take k ++ x :: w.found.drop (k + 1) := by rw [← hx, List.take_append_drop]
    obtain ⟨vs, ts, hgs, hrec⟩ := hsplit hcut
    have hmem : s.segmentsWith Marker.served = (us ++ vs) ++ x.1.segment :: ts := by rw [hs, hgs, List.append_assoc]
    refine ⟨hmore hlt, ?_, rfl, ?_⟩
    · show s.recordsFrom f w.rest.segment w.rest.offset = _
      rw [hpos, recordsFrom, served_behind hd hmem]
      refine hrec.trans ?_
      rw [← hfound, ← List.map_drop, hx]
      rfl
    · show (s.nv.segments.get w.rest.segment).marker.served = true
      rw [hpos, ← s.mem_segmentsWith, hmem]
      simp

/-! ### Where a read begins (R113, R132, R133) -/

theorem readWalk_cursor {s : State} (hd : s.seqsDiffer) (f : ReadFilter) {start : Position}
    (hm : (s.nv.segments.get start.segment).marker.served = true) : ∃ us vs,
      s.segmentsWith Marker.served = us ++ start.segment :: vs ∧
      s.readWalk f start = s.readSegments f (start.segment :: vs) start.offset start ∧
      ∀ pos, (s.readSegments f (start.segment :: vs) start.offset pos).found.map (·.2) =
        s.recordsFrom f start.segment start.offset := by
  obtain ⟨us, vs, hs⟩ := List.append_of_mem ((s.mem_segmentsWith Marker.served start.segment).2 hm)
  have hvs := served_behind hd hs
  refine ⟨us, vs, hs, ?_, fun pos => ?_⟩
  · have hw : s.readWalk f start = s.readSegments f (start.segment :: (s.segmentsWith Marker.served).filter fun x =>
        (s.nv.segments.get start.segment).seq < (s.nv.segments.get x).seq) start.offset start := if_pos hm
    rw [hw, hvs]
  · rw [readSegments_found_from, recordsFrom, hvs]
    rfl

/-- The tail has the lowest open sequence number of the segments that count for it (R113). -/
theorem tail_lowest {s : State} {g : Fin 256} (h : s.tail = some g) : (s.nv.segments.get g).marker.holds = true ∧
    ∀ x, (s.nv.segments.get x).marker.holds = true → s.seqOf g ≤ s.seqOf x := by
  obtain ⟨rest, hs⟩ := List.head?_eq_some_iff.1 h
  have hsorted := s.segmentsWith_sorted Marker.holds
  rw [hs] at hsorted
  refine ⟨(s.mem_segmentsWith _ g).1 (by rw [hs]; exact List.mem_cons_self), fun x hx => ?_⟩
  have hmem := (s.mem_segmentsWith _ x).2 hx
  rw [hs] at hmem
  obtain rfl | hmem := List.mem_cons.1 hmem
  · exact Nat.le_refl _
  · exact (List.pairwise_cons.1 hsorted).1 x hmem

/-- A read from the tail walks every segment that reads serve (R113, R132). -/
theorem readWalk_tail {s : State} {g : Fin 256} (f : ReadFilter) (h : s.tail = some g)
    (hd : ∀ g h, (s.nv.segments.get g).marker.holds = true → (s.nv.segments.get h).marker.holds = true →
      (s.nv.segments.get g).seq = (s.nv.segments.get h).seq → g = h) : s.seqsDiffer ∧ ∃ pos : Position, 16 ≤ pos.offset ∧
      s.readWalk f ⟨g, 16⟩ = s.readSegments f (s.segmentsWith Marker.served) 16 pos := by
  have hholds {m : Marker} (hm : m.served = true) : m.holds = true := (Marker.holds_iff m).2 (((Marker.served_iff m).1 hm).imp_right .inl)
  have hdiff : s.seqsDiffer := fun x y hx hy => hd x y (hholds hx) (hholds hy)
  obtain ⟨hg, hlow⟩ := tail_lowest h
  refine ⟨hdiff, ?_⟩
  by_cases hm : (s.nv.segments.get g).marker.served = true
  · obtain ⟨us, vs, hs, hw, -⟩ := readWalk_cursor hdiff f (start := ⟨g, 16⟩) hm
    have hus : us = [] := List.eq_nil_iff_forall_not_mem.2 fun x hx => by
      have hsorted := served_sorted hdiff
      rw [hs] at hsorted
      have hlt : s.seqOf x < s.seqOf g := (List.pairwise_append.1 hsorted).2.2 x hx g List.mem_cons_self
      have hx' : x ∈ s.segmentsWith Marker.served := by
        rw [hs]
        exact List.mem_append_left _ hx
      exact Nat.not_le_of_lt hlt (hlow x (hholds ((s.mem_segmentsWith _ x).1 hx')))
    refine ⟨⟨g, 16⟩, Nat.le_refl 16, ?_⟩
    rw [hw, hs, hus]
    rfl
  · have hall : ((s.segmentsWith Marker.served).filter fun x =>
        (s.nv.segments.get g).seq < (s.nv.segments.get x).seq) = s.segmentsWith Marker.served :=
      List.filter_eq_self.2 fun x hx => by
        have hserved := (s.mem_segmentsWith _ x).1 hx
        have hne : (s.nv.segments.get g).seq ≠ (s.nv.segments.get x).seq := fun he =>
          hm (hd g x hg (hholds hserved) he ▸ hserved)
        exact decide_eq_true (Nat.lt_of_le_of_ne (hlow x (hholds hserved)) hne)
    have hw : s.readWalk f ⟨g, 16⟩ = s.readSegments f ((s.segmentsWith Marker.served).filter fun x =>
        (s.nv.segments.get g).seq < (s.nv.segments.get x).seq) 16
        ⟨((s.segmentsWith Marker.served).filter fun x =>
          (s.nv.segments.get g).seq < (s.nv.segments.get x).seq).headD g, 16⟩ := if_neg hm
    rw [hall] at hw
    exact ⟨_, Nat.le_refl 16, hw⟩

/-! ### The requests (R132, R133) -/

theorem readsBusy_iff (s : State) : s.readsBusy = true ↔ s.archive.state = .scanning ∨ s.archive.state = .clearing := by
  simp [readsBusy]

theorem recordsFrom_congr {s t : State} (h : s.nv.segments = t.nv.segments) (f : ReadFilter) (g : Fin 256) (off : Nat) :
    s.recordsFrom f g off = t.recordsFrom f g off := by
  rw [recordsFrom, recordsFrom, segmentsWith_congr h, h]

end State

/-- The test of ARCHIVE_READ for an account mask (R132). -/
theorem accountsMissing {kinds accounts : Nat} (hk : kinds ≤ 7) :
    ((bitOf kinds 0 || bitOf kinds 1) && accounts == 0) = true ↔
      (kinds = 1 ∨ kinds = 2 ∨ kinds = 3 ∨ 5 ≤ kinds) ∧ accounts = 0 := by
  have hbits : (bitOf kinds 0 || bitOf kinds 1) = true ↔ kinds = 1 ∨ kinds = 2 ∨ kinds = 3 ∨ 5 ≤ kinds := by
    interval_cases kinds <;> decide
  rw [Bool.and_eq_true_iff, hbits, beq_iff_eq]

section
variable {s : State} (tag : Byte)

/-- ARCHIVE_READ with the test that it fails, or the records served from the tail (R132). -/
theorem archiveRead_answers {body : List Byte} (hs : s.ready) (hl : body.length = 7) :
    (s.archive.state = .scanning ∨ s.archive.state = .clearing →
      exec (.archiveRead tag body) s = .next (s.replied 0x50 tag body .busy [])) ∧
    (s.archive.state ≠ .scanning → s.archive.state ≠ .clearing →
      (field body 6 1 = 0 → exec (.archiveRead tag body) s = .next (s.replied 0x50 tag body .range [])) ∧
      (7 < field body 6 1 → exec (.archiveRead tag body) s = .next (s.replied 0x50 tag body .field [])) ∧
      (field body 6 1 = 1 ∨ field body 6 1 = 2 ∨ field body 6 1 = 3 ∨ (5 ≤ field body 6 1 ∧ field body 6 1 ≤ 7) →
        field body 4 2 = 0 → exec (.archiveRead tag body) s = .next (s.replied 0x50 tag body .range [])) ∧
      (1 ≤ field body 6 1 → field body 6 1 ≤ 7 → field body 4 2 ≠ 0 ∨ field body 6 1 = 4 →
        (s.tail = none → exec (.archiveRead tag body) s =
          .next (({ s with archive := { s.archive with cursor := none } } : State).replied 0x50 tag body .done
            [0, 0, 0, 0, 0, 0, 0, 0])) ∧
        ∀ g, s.tail = some g → exec (.archiveRead tag body) s = .next (((s.holding ⟨0x50, tag, body⟩).readFrom
          ⟨field body 0 4, BitVec.ofNat 16 (field body 4 2), BitVec.ofNat 3 (field body 6 1)⟩ ⟨g, 16⟩).after.setReply
          (some ⟨0xD0, tag, .done, ((s.holding ⟨0x50, tag, body⟩).readFrom
            ⟨field body 0 4, BitVec.ofNat 16 (field body 4 2), BitVec.ofNat 3 (field body 6 1)⟩ ⟨g, 16⟩).body, false⟩)))) := by
  have hok : Kind.archiveRead.lengthOk body.length = true := by rw [hl]; rfl
  obtain ⟨u, hu⟩ : ∃ u, s.holding ⟨Kind.archiveRead.code, tag, body⟩ = u := ⟨_, rfl⟩
  have hrefused {x : Status} (ho : u.archiveRead body = u.refuse x) :
      exec (.archiveRead tag body) s = .next (s.replied 0x50 tag body x []) := by
    rw [← hu] at ho
    exact congrArg Host.Outcome.next (State.request_refused (k := .archiveRead) hs nofun hok rfl ho)
  have hbusy : u.readsBusy = true ↔ s.archive.state = .scanning ∨ s.archive.state = .clearing := by
    rw [← hu]
    exact State.readsBusy_iff _
  refine ⟨fun h => hrefused (if_pos (hbusy.2 h)), fun hsc hcl => ?_⟩
  have hfree : ¬ u.readsBusy = true := fun h => (hbusy.1 h).elim hsc hcl
  refine ⟨fun h0 => hrefused ?_, fun h7 => hrefused ?_, fun hk ha => hrefused ?_, fun h1 h7 ha => ?_⟩
  · exact (if_neg hfree).trans (if_pos h0)
  · exact (if_neg hfree).trans ((if_neg (by omega)).trans (if_pos h7))
  · refine (if_neg hfree).trans ((if_neg (by omega)).trans ((if_neg (by omega)).trans (if_pos ?_)))
    exact (accountsMissing (by omega)).2 ⟨by omega, ha⟩
  · have hpass : u.archiveRead body = u.tail.elim
        ⟨.done, readHeader 0 false ⟨0, 0⟩, u.onArchive fun a => { a with cursor := none }⟩
        fun g => u.readFrom ⟨field body 0 4, BitVec.ofNat 16 (field body 4 2), BitVec.ofNat 3 (field body 6 1)⟩ ⟨g, 16⟩ := by
      unfold State.archiveRead
      dsimp only
      rw [if_neg hfree, if_neg (by omega), if_neg (by omega), if_neg fun h => ?_]
      · cases u.tail <;> rfl
      · obtain ⟨hk, ha0⟩ := (accountsMissing h7).1 h
        omega
    have htail : u.tail = s.tail := by
      rw [← hu, State.tail, State.tail, State.segmentsWith_congr (s := s.holding _) (t := s) rfl]
    rw [htail] at hpass
    refine ⟨fun hn => ?_, fun g hg => ?_⟩
    · rw [hn, Option.elim_none, ← hu] at hpass
      exact congrArg Host.Outcome.next (State.request_replied (k := .archiveRead) hs nofun hok rfl hpass)
    · rw [hg, Option.elim_some, ← hu] at hpass
      exact congrArg Host.Outcome.next (State.request_served (k := .archiveRead) hs nofun hok rfl hpass)

/-- ARCHIVE_MORE with the test that it fails, or the records served from the cursor (R133). -/
theorem archiveMore_answers (hs : s.ready) :
    (s.archive.state = .scanning ∨ s.archive.state = .clearing →
      exec (.archiveMore tag []) s = .next (s.replied 0x51 tag [] .busy [])) ∧
    (s.archive.state ≠ .scanning → s.archive.state ≠ .clearing →
      (s.archive.cursor = none → exec (.archiveMore tag []) s = .next (s.replied 0x51 tag [] .sequence [])) ∧
      ∀ c, s.archive.cursor = some c →
        ((s.nv.segments.get c.segment).marker.served = false ∨ (s.nv.segments.get c.segment).seq ≠ c.seq →
          exec (.archiveMore tag []) s = .next
            (({ s with archive := { s.archive with cursor := none } } : State).replied 0x51 tag [] .cursorLost [])) ∧
        ((s.nv.segments.get c.segment).marker.served = true → (s.nv.segments.get c.segment).seq = c.seq →
          exec (.archiveMore tag []) s = .next (((s.holding ⟨0x51, tag, []⟩).readFrom c.filter
            ⟨c.segment, c.offset⟩).after.setReply (some ⟨0xD1, tag, .done, ((s.holding ⟨0x51, tag, []⟩).readFrom c.filter
              ⟨c.segment, c.offset⟩).body, false⟩)))) := by
  obtain ⟨u, hu⟩ : ∃ u, s.holding ⟨Kind.archiveMore.code, tag, []⟩ = u := ⟨_, rfl⟩
  have hrefused {x : Status} (ho : u.archiveMore = u.refuse x) :
      exec (.archiveMore tag []) s = .next (s.replied 0x51 tag [] x []) := by
    rw [← hu] at ho
    exact congrArg Host.Outcome.next (State.request_refused (k := .archiveMore) hs nofun rfl rfl ho)
  have hbusy : u.readsBusy = true ↔ s.archive.state = .scanning ∨ s.archive.state = .clearing := by
    rw [← hu]
    exact State.readsBusy_iff _
  refine ⟨fun h => hrefused (if_pos (hbusy.2 h)), fun hsc hcl => ?_⟩
  have hfree : ¬ u.readsBusy = true := fun h => (hbusy.1 h).elim hsc hcl
  have hcursor : u.archive.cursor = s.archive.cursor := by rw [← hu]; rfl
  have hpass : u.archiveMore = s.archive.cursor.elim (u.refuse .sequence) fun c =>
      if (u.seg c.segment).marker.served && (u.seg c.segment).seq == c.seq then u.readFrom c.filter ⟨c.segment, c.offset⟩
      else ⟨.cursorLost, [], u.onArchive fun a => { a with cursor := none }⟩ := by
    rw [State.archiveMore, if_neg hfree, hcursor]
    cases s.archive.cursor <;> rfl
  have hvalid (c : Cursor) : ((u.seg c.segment).marker.served && (u.seg c.segment).seq == c.seq) = true ↔
      (s.nv.segments.get c.segment).marker.served = true ∧ (s.nv.segments.get c.segment).seq = c.seq := by
    rw [← hu, Bool.and_eq_true_iff, beq_iff_eq]
    rfl
  refine ⟨fun hn => hrefused (by rw [hpass, hn]; rfl), fun c hc => ⟨fun hlost => ?_, fun hm hq => ?_⟩⟩
  · have hno : ¬ ((u.seg c.segment).marker.served && (u.seg c.segment).seq == c.seq) = true := fun h => by
      obtain ⟨h1, h2⟩ := (hvalid c).1 h
      exact hlost.elim (fun h => Bool.false_ne_true (h.symm.trans h1)) fun h => h h2
    rw [hc, Option.elim_some, if_neg hno, ← hu] at hpass
    exact congrArg Host.Outcome.next (State.request_replied (k := .archiveMore) hs nofun rfl rfl hpass)
  · rw [hc, Option.elim_some, if_pos ((hvalid c).2 ⟨hm, hq⟩), ← hu] at hpass
    exact congrArg Host.Outcome.next (State.request_served (k := .archiveMore) hs nofun rfl rfl hpass)

end

/-- Settles O42: ARCHIVE_READ from the tail, ARCHIVE_MORE from the cursor. -/
theorem archiveReadsAnswer : Obligations.ArchiveReadsAnswer := by
  intro s tag hs
  refine ⟨fun body hl => ?_, ?_⟩
  · obtain ⟨hbusy, hserved⟩ := archiveRead_answers tag hs hl
    refine ⟨hbusy, fun hsc hcl => ?_⟩
    obtain ⟨hzero, hhigh, hmissing, hread⟩ := hserved hsc hcl
    refine ⟨hzero, hhigh, hmissing, fun h1 h7 ha => ⟨(hread h1 h7 ha).1, fun htail hd => ?_⟩⟩
    obtain ⟨g, hg⟩ := Option.ne_none_iff_exists'.1 htail
    have hexec := (hread h1 h7 ha).2 g hg
    have hg' : (s.holding ⟨0x50, tag, body⟩).tail = some g := by
      rw [State.tail, State.segmentsWith_congr (s := s.holding _) (t := s) rfl]
      exact hg
    obtain ⟨hdiff, pos, hpos, hw⟩ := State.readWalk_tail
      ⟨field body 0 4, BitVec.ofNat 16 (field body 4 2), BitVec.ofNat 3 (field body 6 1)⟩ hg' hd
    obtain ⟨c, k, more, hfrom, hk, hroom, hmore, hrest, hoff, hfilter⟩ := State.readFrom_serves hdiff
      (List.nil_append ((s.holding ⟨0x50, tag, body⟩).segmentsWith Marker.served)).symm
      (Nat.le_refl 16) hpos hw (State.readSegments_found _ _ _ pos)
    have hserve : (s.holding ⟨0x50, tag, body⟩).recordsIn ((s.holding ⟨0x50, tag, body⟩).segmentsWith Marker.served) =
        (s.segmentsWith Marker.served).flatMap fun g => (s.nv.segments.get g).walk.records.map (·.2) := by
      rw [State.recordsIn, State.segmentsWith_congr (s := s.holding _) (t := s) rfl]
      rfl
    rw [hserve] at hfrom hk hroom hmore hrest
    rw [hfrom] at hexec
    refine ⟨c, k, more, hexec, hk, hroom, hmore, fun hlt => ?_, hoff, hfilter⟩
    obtain ⟨hfull, hrec, hseq, hm⟩ := hrest hlt
    exact ⟨hfull, (State.recordsFrom_congr (by rfl) _ _ _).trans hrec, hseq, hm⟩
  · obtain ⟨hbusy, hserved⟩ := archiveMore_answers tag hs
    refine ⟨hbusy, fun hsc hcl => ⟨(hserved hsc hcl).1, fun c hc => ?_⟩⟩
    obtain ⟨hlost, hread⟩ := (hserved hsc hcl).2 c hc
    refine ⟨hlost, fun hm hq hoff hdiff => ?_⟩
    have hexec := hread hm hq
    obtain ⟨us, vs, hsw, hw, hfound⟩ := State.readWalk_cursor (s := s.holding ⟨0x51, tag, []⟩) hdiff c.filter
      (start := ⟨c.segment, c.offset⟩) hm
    obtain ⟨d, k, more, hfrom, hk, hroom, hmore, hrest, hoff, hfilter⟩ := State.readFrom_serves
      (s := s.holding ⟨0x51, tag, []⟩) hdiff hsw hoff hoff hw
      (hfound _)
    rw [State.recordsFrom_congr (s := s.holding ⟨0x51, tag, []⟩) (t := s) rfl] at hfrom hk hroom hmore hrest
    rw [hfrom] at hexec
    refine ⟨d, k, more, hexec, hk, hroom, hmore, fun hlt => ?_, hoff, hfilter⟩
    obtain ⟨hfull, hrec, hseq, hm⟩ := hrest hlt
    exact ⟨hfull, (State.recordsFrom_congr (by rfl) _ _ _).trans hrec, hseq, hm⟩

end Sys2Proof.Machine
end

section
/-! PROOFS. Valid pages at the tie link (O53): the session, the body taken by the state in force, and the acknowledgement. -/

/- The whole text is compiled as one file: these proofs are elaborated one after another, to stay within its memory. -/
set_option Elab.async false

namespace Sys2Proof.Machine

/-! ### A page off the line (R139) -/

theorem linePage_start (code seq : Nat) (body : List Byte) : (linePage code seq body).take 1 = [0x96] := by
  obtain ⟨crc, h⟩ := linePage_eq code seq body
  rw [h]
  rfl

theorem linePage_whole (code seq : Nat) {body : List Byte} (hbody : body.length ≤ 1970) :
    pageWhole (linePage code seq body) = true := by
  obtain ⟨crc, hbytes⟩ := linePage_eq code seq body
  have hlen := linePage_length code seq body
  have h3 := ((EndsWith.start hbytes).next (leBytes_length 1 _)).next (leBytes_length 1 _)
  have hfield : field (linePage code seq body) 3 2 = body.length :=
    (h3.next (leBytes_length 1 _)).stands.read (show body.length < 256 ^ 2 by omega)
  rw [pageWhole, hfield, hlen]
  simp only [Bool.and_eq_true, decide_eq_true_eq, beq_self_eq_true, and_true]
  omega

namespace State

/-- The bytes of a page that reads as `p` are taken as it, behind whatever the hunt passes over (R139). -/
theorem exec_line {s : State} {p : Page} {code seq : Nat} {body noise line : List Byte} (ha : s.stopped = false)
    (hop : s.op ≠ .starting) (hoff : s.tie.state ≠ .off) (hbody : body.length ≤ 1970)
    (hread : readPage (linePage code seq body) = some p) (hl : afterNoise 0x96 noise (linePage code seq body) line) :
    exec (.tiePageArrive line) s = .next (s.takePage p) := by
  have he : exec (.tiePageArrive line) s = .next (s.whenAlive (pageArrive line)) := rfl
  have hgo : (s.tieSends && pageWhole (linePage code seq body)) = true := by
    rw [s.tieSends_iff.2 ⟨hoff, hop⟩, linePage_whole code seq hbody]
    rfl
  rw [he, whenAlive_running _ _ ha, pageArrive, huntPage_afterNoise hl (linePage_start code seq body)]
  rw [if_pos hgo, hread]

/-- A page that can be sent is taken (R139). -/
theorem exec_page {s : State} {p : Page} {noise line : List Byte} (ha : s.stopped = false) (hop : s.op ≠ .starting)
    (hoff : s.tie.state ≠ .off) (hr : p.body.ranged) (hl : afterNoise 0x96 noise p.bytes line) :
    exec (.tiePageArrive line) s = .next (s.takePage p) :=
  exec_line ha hop hoff p.body.bytes_length_le (readPage_bytes hr) hl

/-! ### The body taken by the state in force (R142, R154) -/

section
variable {s : State}

theorem takeBody_resolving (h : s.tie.state = .resolving) : (∀ r, s.takeBody (.role r) = s.takeRole r) ∧
    (∀ c, s.takeBody (.confirm c) = s.takeConfirm c) ∧ (∀ x, s.takeBody (.summary x) = s.takeSummary x) ∧
    (∀ b, s.takeBody (.close b) = s) ∧ s.takeBody .idle = s := by
  refine ⟨fun r => ?_, fun c => ?_, fun x => ?_, fun b => ?_, ?_⟩ <;> simp only [takeBody, h]

theorem takeBody_paired_role (h : s.tie.state = .pairedPrimary ∨ s.tie.state = .pairedSecondary) (r : RoleBody) :
    s.takeBody (.role r) = s.enterDown := by
  obtain h | h := h <;> simp only [takeBody, h]

theorem takeBody_alone_role (h : s.tie.state = .solo ∨ s.tie.state = .roleFault) (r : RoleBody) :
    s.takeBody (.role r) = (s.enterTie .resolving).followRole r := by
  obtain h | h := h <;> simp only [takeBody, h]

end

/-! ### Acceptance (R142) -/

/-- The partner toggle after a page: that of an accepted page (R142). -/
def toggleAfter (x : Tie) (p : Page) : Option Bool := if p.body = .idle then x.partnerToggle else some p.toggle

theorem acceptPage_idle {s : State} {p : Page} (h : p.body = .idle ∨ s.tie.partnerToggle = some p.toggle) :
    s.acceptPage p = s := by
  refine if_neg fun ha => ?_
  obtain ⟨hb, ht⟩ := Bool.and_eq_true_iff.1 ha
  exact h.elim (bne_iff_ne.1 hb) (bne_iff_ne.1 ht)

theorem acceptPage_taken {s : State} {p : Page} (hb : p.body ≠ .idle) (ht : s.tie.partnerToggle ≠ some p.toggle) :
    s.acceptPage p = ({ s with tie := { s.tie with partnerToggle := some p.toggle } } : State).takeBody p.body :=
  if_pos (Bool.and_eq_true_iff.2 ⟨bne_iff_ne.2 hb, bne_iff_ne.2 ht⟩)

/-- An ack field with nothing in flight, or of the other toggle, removes nothing (R141). -/
theorem takeAck_other {s : State} {ack : Option Bool} (h : s.tie.inFlight = none ∨ ack ≠ some s.tie.sendToggle) :
    s.takeAck ack = s := by
  unfold takeAck
  split
  · next a b hb =>
    obtain h | h := h
    · exact absurd (hb.symm.trans h) (Option.some_ne_none b)
    · exact if_neg fun he => h (congrArg some (beq_iff_eq.1 he))
  · rfl

/-! ### The session (R143, R144) -/

/-- The link with a valid page noted (R143 (3)). -/
def noted (x : Tie) (p : Page) : Tie := { x with sawAck := x.sawAck || p.ack.isSome }

theorem takePage_renewed {s : State} {p : Page} (hd : s.tie.state ≠ .down) (hs : s.tie.sawAck = true) (hp : p.ack = none) :
    s.takePage p = s.enterDown :=
  if_pos (by simp [renewed, hd, hs, hp])

/-- A valid page in a session: the ack field, then the body, then the page due (R141, R142). -/
theorem takePage_session' {s : State} {p : Page} (hd : s.tie.state ≠ .down) (hs : s.tie.sawAck = false ∨ p.ack ≠ none) :
    s.takePage p = ((({ s with tie := noted s.tie p } : State).takeAck p.ack).acceptPage p).transmit := by
  refine s.takePage_session p (Bool.eq_false_iff.2 fun h => ?_) hd
  simp only [renewed, Bool.and_eq_true, Option.isNone_iff_eq_none] at h
  exact hs.elim (fun hf => Bool.false_ne_true (hf.symm.trans h.1.2)) fun hn => hn h.2

/-- A valid page in a session whose ack field removes nothing. -/
theorem takePage_unacked {s : State} {p : Page} (hd : s.tie.state ≠ .down) (hs : s.tie.sawAck = false ∨ p.ack ≠ none)
    (hf : s.tie.inFlight = none ∨ p.ack ≠ some s.tie.sendToggle) :
    s.takePage p = (({ s with tie := noted s.tie p } : State).acceptPage p).transmit := by
  rw [takePage_session' hd hs, takeAck_other]
  exact hf

/-- The link with an accepted page noted and its toggle taken (R142). -/
def takenOn (x : Tie) (p : Page) : Tie := { noted x p with partnerToggle := some p.toggle }

/-- An accepted page in a session whose ack field removes nothing: its body is taken (R141, R142). -/
theorem takePage_accepted {s : State} {p : Page} (hd : s.tie.state ≠ .down) (hs : s.tie.sawAck = false ∨ p.ack ≠ none)
    (hf : s.tie.inFlight = none ∨ p.ack ≠ some s.tie.sendToggle) (hb : p.body ≠ .idle)
    (ht : s.tie.partnerToggle ≠ some p.toggle) :
    s.takePage p = (({ s with tie := takenOn s.tie p } : State).takeBody p.body).transmit := by
  rw [takePage_unacked hd hs hf]
  exact congrArg transmit (acceptPage_taken (s := { s with tie := noted s.tie p }) hb ht)

/-- The link on which a valid page in DOWN begins attempt 1 (R144). -/
def sessionOn (x : Tie) (p : Page) : Tie := { noted x p with state := .resolving, partnerToggle := toggleAfter x p }

/-- Attempt 1 begun on link `x` of a page in DOWN, the tests of the change made (R144, R149). -/
def begunIn (s : State) (p : Page) (x : Tie) : State :=
  { ({ s with tie := noted s.tie p } : State).enterTie .resolving with tie := x, draws := s.draws + 1 }

theorem attemptOn_toggled (x : Tie) (n seed : Nat) (p : Preference) (b : Option Bool) :
    ({ x.attemptOn n seed p none none with partnerToggle := b } : Tie) =
      ({ x with partnerToggle := b } : Tie).attemptOn n seed p none none := by
  unfold Tie.attemptOn Tie.beginAttempt Tie.roleDue
  cases x.inFlight <;> rfl

theorem attemptOn_session (x : Tie) (n seed : Nat) (p : Preference) (partner : Option RoleBody)
    (confirm : Option ConfirmBody) : (x.attemptOn n seed p partner confirm).state = x.state ∧
      (x.attemptOn n seed p partner confirm).partnerToggle = x.partnerToggle := by
  unfold Tie.attemptOn Tie.beginAttempt Tie.roleDue
  cases x.inFlight <;> exact ⟨rfl, rfl⟩

/-- A valid page in DOWN: attempt 1 begins, then the body is taken in RESOLVING (R144, R149). -/
theorem takePage_down {s : State} {p : Page} (hd : s.tie.state = .down)
    (ht : p.body = .idle ∨ s.tie.partnerToggle ≠ some p.toggle) : s.takePage p =
      ((s.begunIn p ((sessionOn s.tie p).attemptOn 1 s.nextSeed s.settings.preference none none)).takeBody
        p.body).transmit := by
  have hnew : s.renewed p = false := by simp [renewed, hd]
  have hdown : ((s.noteAck p).tie.state == .down) = true := beq_iff_eq.2 hd
  have hbegin : (s.noteAck p).beginResolving =
      s.begunIn p (({ noted s.tie p with state := .resolving } : Tie).attemptOn 1 s.nextSeed s.settings.preference none none) := by
    have hdraws := (s.noteAck p).enterTie_draws .resolving
    have hsettings := (s.noteAck p).enterTie_settings .resolving
    have htie := (s.noteAck p).enterTie_tie .resolving
    have hd : ({ s with tie := noted s.tie p } : State).enterTie .resolving = (s.noteAck p).enterTie .resolving := rfl
    rw [begunIn, hd, Tie.attemptOn_plain, beginResolving]
    generalize (s.noteAck p).enterTie .resolving = u at *
    unfold beginAttempt nextSeed
    rw [htie, hdraws, hsettings]
    rfl
  rw [takePage, hnew, if_neg Bool.false_ne_true]
  dsimp only
  rw [if_pos hdown, hbegin]
  obtain ⟨hstate, htoggle⟩ := attemptOn_session ({ noted s.tie p with state := .resolving } : Tie) 1 s.nextSeed
    s.settings.preference none none
  have hon := attemptOn_toggled ({ noted s.tie p with state := .resolving } : Tie) 1 s.nextSeed s.settings.preference
    (toggleAfter s.tie p)
  have hsame : ({ ({ noted s.tie p with state := .resolving } : Tie) with partnerToggle := toggleAfter s.tie p } : Tie) =
    sessionOn s.tie p := rfl
  rw [hsame] at hon
  generalize ({ noted s.tie p with state := .resolving } : Tie).attemptOn 1 s.nextSeed s.settings.preference none none = y
    at *
  rw [← hon]
  by_cases hb : p.body = .idle
  · have hy : ({ y with partnerToggle := toggleAfter s.tie p } : Tie) = y := by
      rw [toggleAfter, if_pos hb, show s.tie.partnerToggle = y.partnerToggle from htoggle.symm]
    rw [hy, acceptPage_idle (.inl hb), hb]
    exact congrArg transmit (takeBody_resolving (s := s.begunIn p y) hstate).2.2.2.2.symm
  · have ht' : (s.begunIn p y).tie.partnerToggle ≠ some p.toggle := by
      rw [show (s.begunIn p y).tie.partnerToggle = s.tie.partnerToggle from htoggle]
      exact ht.resolve_left hb
    rw [acceptPage_taken hb ht', toggleAfter, if_neg hb]
    rfl

/-! ### What the body of a page makes of an attempt (R146 to R148) -/

theorem tryResolve_waits {s : State} (h : s.tie.ownRoleAcked = false ∨ s.tie.resolved ≠ none) : s.tryResolve = s := by
  unfold tryResolve
  split
  · refine if_neg fun hc => ?_
    simp only [Bool.and_eq_true, Option.isNone_iff_eq_none] at hc
    exact h.elim (fun hf => Bool.false_ne_true (hf.symm.trans hc.1.2)) fun hn => hn hc.2
  · rfl

theorem tryPair_waits {s : State} (h : s.tie.confirmAcked = false) : s.tryPair = s := by
  unfold tryPair
  split
  · exact if_neg (by simp [h])
  · rfl

/-- The partner's ROLE kept (R146). -/
def roleKept (x : Tie) (r : RoleBody) : Tie := { x with partnerRole := some r, partnerSeed := r.seed }

theorem takeRole_kept {s : State} {r : RoleBody} (hr : r.attempt = s.tie.attempt)
    (h : s.tie.ownRoleAcked = false ∨ s.tie.resolved ≠ none) : s.takeRole r = { s with tie := roleKept s.tie r } :=
  (if_pos hr).trans (tryResolve_waits h)

theorem takeRole_lower {s : State} {r : RoleBody} (hr : r.attempt < s.tie.attempt) : s.takeRole r = s :=
  (if_neg (by omega)).trans (if_neg (by omega))

/-- A ROLE of another attempt is followed with a new seed (R146, R149). -/
theorem followRole_eq (s : State) (r : RoleBody) : s.followRole r = { s with
    tie := s.tie.attemptOn r.attempt s.nextSeed s.settings.preference (some r) none, draws := s.draws + 1 } := by
  have h : s.followRole r = { s with
      tie := roleKept (s.tie.beginAttempt r.attempt s.nextSeed s.settings.preference) r, draws := s.draws + 1 } := rfl
  rw [h, ← Tie.attemptOn_plain]
  refine congrArg (fun x : Tie => ({ s with tie := x, draws := s.draws + 1 } : State)) ?_
  unfold roleKept Tie.attemptOn Tie.beginAttempt Tie.roleDue
  cases s.tie.inFlight <;> rfl

theorem takeRole_higher {s : State} {r : RoleBody} (hr : s.tie.attempt < r.attempt) : s.takeRole r = s.followRole r :=
  (if_neg (by omega)).trans (if_pos hr)

theorem takeConfirm_kept {s : State} {c : ConfirmBody} (hc : c.attempt = s.tie.attempt) (h : s.tie.confirmAcked = false) :
    s.takeConfirm c = { s with tie := { s.tie with partnerConfirm := some c } } :=
  (if_pos hc).trans (tryPair_waits h)

theorem takeConfirm_other {s : State} {c : ConfirmBody} (hc : c.attempt ≠ s.tie.attempt) : s.takeConfirm c = s :=
  if_neg hc

/-- A SUMMARY in another state than PAIRED_PRIMARY is counted alone (R154). -/
theorem takeSummary_counted {s : State} (h : s.tie.state ≠ .pairedPrimary) (x : Summary) :
    s.takeSummary x = { s with tie := s.tie.countAccepted x } := by
  have hc : ¬ (s.tie.state == .pairedPrimary) = true := fun hc => h (beq_iff_eq.1 hc)
  rw [takeSummary, if_neg hc]
  rfl

/-! ### A page in DOWN (R144, R149) -/

theorem begunIn_follows (s : State) (p : Page) {x : Tie} (n : Nat) (hx : x.state = .resolving) :
    s.tieFollows { s.begunIn p x with draws := n } := by
  have h : s.tieFollows (({ s with tie := noted s.tie p } : State).enterTie .resolving) := s.tieChanged_follows _
  have hstate : (({ s with tie := noted s.tie p } : State).enterTie .resolving).tie.state = .resolving := by
    rw [enterTie_tie]
  have hd : ({ s.begunIn p x with draws := n } : State) =
      { ({ s with tie := noted s.tie p } : State).enterTie .resolving with tie := x, draws := n } := rfl
  rw [hd]
  generalize ({ s with tie := noted s.tie p } : State).enterTie .resolving = u at *
  exact tieFollows_congr h x n (hx.trans hstate.symm)

theorem begunIn_settings (s : State) (p : Page) (x : Tie) : (s.begunIn p x).settings = s.settings := by
  have h := ({ s with tie := noted s.tie p } : State).enterTie_settings .resolving
  unfold begunIn
  generalize ({ s with tie := noted s.tie p } : State).enterTie .resolving = u at *
  exact h

section
variable {x : Tie} (n seed : Nat) (p : Preference)

theorem attemptOn_fresh : (x.attemptOn n seed p none none).attempt = n ∧
    (x.attemptOn n seed p none none).ownRoleAcked = false ∧ (x.attemptOn n seed p none none).confirmAcked = false := by
  unfold Tie.attemptOn Tie.beginAttempt Tie.roleDue
  cases x.inFlight <;> exact ⟨rfl, rfl, rfl⟩

theorem attemptOn_role (r : RoleBody) :
    roleKept (x.attemptOn n seed p none none) r = x.attemptOn n seed p (some r) none := rfl

theorem attemptOn_confirm (c : ConfirmBody) :
    ({ x.attemptOn n seed p none none with partnerConfirm := some c } : Tie) = x.attemptOn n seed p none (some c) := rfl

/-- With nothing in flight the ROLE of an attempt begun is in flight, not sent yet (R146). -/
theorem attemptOn_flight (h : x.inFlight = none) : (x.attemptOn n seed p none none).inFlight = some (.role ⟨p, seed, n⟩) ∧
    (x.attemptOn n seed p none none).sendCount = 0 ∧ (x.attemptOn n seed p none none).roleList = x.roleList ∧
    x.keepsRest (x.attemptOn n seed p none none) := by
  unfold Tie.attemptOn Tie.beginAttempt Tie.roleDue
  dsimp only
  rw [h]
  exact ⟨rfl, rfl, rfl, rfl, rfl, rfl, rfl, rfl, rfl, rfl, rfl, rfl⟩

end

/-- The next attempt of a session begun in DOWN, the partner's ROLE being of a higher attempt (R144, R146). -/
theorem begunIn_followed (s : State) (p : Page) (x : Tie) (r : RoleBody) : (s.begunIn p x).followRole r =
    { s.begunIn p (x.attemptOn r.attempt (s.begunIn p x).nextSeed s.settings.preference (some r) none) with
      draws := s.draws + 2 } := by
  rw [followRole_eq, congrArg Settings.preference (s.begunIn_settings p x)]
  unfold begunIn
  generalize ({ s with tie := noted s.tie p } : State).enterTie .resolving = u
  rfl

/-- What a page in DOWN that begins attempt 1 on link `x`, with nothing in flight, leaves (R144). -/
theorem begunIn_attempt {s : State} {p : Page} {x : Tie} (hx : x.state = .resolving) (hf : x.inFlight = none)
    (hl : x.roleList = []) (partner : Option RoleBody) (confirm : Option ConfirmBody) {t : State}
    (ht : t = s.begunIn p (x.attemptOn 1 s.nextSeed s.settings.preference partner confirm).transmit) :
    s.tieFollows t ∧ t.tie.sendCount = 1 ∧ t.tie.partnerToggle = x.partnerToggle ∧ x.keepsRest t.tie ∧
      s.attemptBegan t 1 partner confirm none [] ∧ t.draws = s.draws + 1 := by
  have htie : t.tie = (x.attemptOn 1 s.nextSeed s.settings.preference partner confirm).transmit := by
    rw [ht]
    rfl
  obtain ⟨hbegan, hkeeps, hstate, htoggle, -⟩ := attemptBegan_of (s := s) htie hx s.nextSeed_range
  rw [hf, hl] at hbegan
  refine ⟨?_, ?_, htoggle, hkeeps, hbegan, by rw [ht]; rfl⟩
  · rw [htie] at hstate
    rw [ht]
    exact s.begunIn_follows p _ hstate
  · rw [htie, Tie.attemptOn_idle hf]

theorem countAccepted_attemptOn (x : Tie) (n seed : Nat) (p : Preference) (m : Summary) :
    (x.attemptOn n seed p none none).countAccepted m = (x.countAccepted m).attemptOn n seed p none none := by
  unfold Tie.countAccepted Tie.attemptOn Tie.beginAttempt Tie.roleDue
  cases x.inFlight <;> rfl

/-- A page in DOWN whose body is no ROLE of a higher attempt (R144, R146, R149). -/
theorem takePage_down_first {s : State} {p : Page} (hd : s.tie.state = .down)
    (ht : p.body = .idle ∨ s.tie.partnerToggle ≠ some p.toggle) :
    ((p.body = .idle ∨ ∃ b, p.body = .close b) → s.takePage p =
      s.begunIn p ((sessionOn s.tie p).attemptOn 1 s.nextSeed s.settings.preference none none).transmit) ∧
    (∀ r, p.body = .role r → r.attempt = 1 → s.takePage p =
      s.begunIn p ((sessionOn s.tie p).attemptOn 1 s.nextSeed s.settings.preference (some r) none).transmit) ∧
    (∀ c, p.body = .confirm c → s.takePage p = s.begunIn p ((sessionOn s.tie p).attemptOn 1 s.nextSeed
      s.settings.preference none (if c.attempt = 1 then some c else none)).transmit) := by
  have htake := takePage_down hd ht
  obtain ⟨hstate, -⟩ := attemptOn_session (sessionOn s.tie p) 1 s.nextSeed s.settings.preference none none
  obtain ⟨hone, hacked, hconfirmed⟩ := attemptOn_fresh (x := sessionOn s.tie p) 1 s.nextSeed s.settings.preference
  have hrole := attemptOn_role (x := sessionOn s.tie p) 1 s.nextSeed s.settings.preference
  have hconfirm := attemptOn_confirm (x := sessionOn s.tie p) 1 s.nextSeed s.settings.preference
  generalize hy : (sessionOn s.tie p).attemptOn 1 s.nextSeed s.settings.preference none none = y at *
  obtain ⟨htr, htc, -, htx, hti⟩ := takeBody_resolving (s := s.begunIn p y) hstate
  refine ⟨fun h => ?_, fun r hb hr => ?_, fun c hb => ?_⟩
  · obtain hb | ⟨b, hb⟩ := h
    · rw [htake, hb, hti]
      rfl
    · rw [htake, hb, htx]
      rfl
  · rw [htake, hb, htr, takeRole_kept (hr.trans hone.symm) (.inl hacked), ← hrole]
    rfl
  · rw [htake, hb, htc]
    by_cases hc : c.attempt = 1
    · rw [takeConfirm_kept (hc.trans hone.symm) hconfirmed, if_pos hc, ← hconfirm]
      rfl
    · rw [takeConfirm_other fun h => hc (h.trans hone), if_neg hc, hy]
      rfl

/-- A SUMMARY page in DOWN begins attempt 1 and is counted (R144, R154). -/
theorem takePage_down_summary {s : State} {p : Page} {m : Summary} (hd : s.tie.state = .down)
    (ht : s.tie.partnerToggle ≠ some p.toggle) (hb : p.body = .summary m) : s.takePage p = s.begunIn p
      (((sessionOn s.tie p).countAccepted m).attemptOn 1 s.nextSeed s.settings.preference none none).transmit := by
  have htake := takePage_down hd (.inr ht)
  have hcount := countAccepted_attemptOn (sessionOn s.tie p) 1 s.nextSeed s.settings.preference m
  obtain ⟨hstate, -⟩ := attemptOn_session (sessionOn s.tie p) 1 s.nextSeed s.settings.preference none none
  generalize (sessionOn s.tie p).attemptOn 1 s.nextSeed s.settings.preference none none = y at *
  obtain ⟨-, -, hts, -⟩ := takeBody_resolving (s := s.begunIn p y) hstate
  have hnp : (s.begunIn p y).tie.state ≠ .pairedPrimary := fun h => TieState.noConfusion (hstate.symm.trans h)
  rw [htake, hb, hts, takeSummary_counted hnp, ← hcount]
  rfl

theorem begunIn_transmit (s : State) (p : Page) (x : Tie) (n : Nat) :
    ({ s.begunIn p x with draws := n } : State).transmit = { s.begunIn p x.transmit with draws := n } := rfl

/-- A ROLE of a higher attempt in DOWN is followed behind the ROLE of attempt 1 (R144, R146, R149). -/
theorem takePage_down_higher {s : State} {p : Page} {r : RoleBody} (hd : s.tie.state = .down)
    (ht : s.tie.partnerToggle ≠ some p.toggle) (hf : s.tie.inFlight = none) (hl : s.tie.roleList = [])
    (hb : p.body = .role r) (hr : 1 < r.attempt) : ∃ t, s.takePage p = t ∧ s.tieFollows t ∧ t.tie.sendCount = 1 ∧
      t.tie.partnerToggle = some p.toggle ∧ s.tie.keepsRest t.tie ∧ t.draws = s.draws + 2 ∧ ∃ first, 1 ≤ first ∧
        first ≤ 65535 ∧ s.attemptBegan t r.attempt (some r) none (some (.role ⟨s.settings.preference, first, 1⟩)) [] := by
  have htake := takePage_down hd (.inr ht)
  have hon : (sessionOn s.tie p).partnerToggle = some p.toggle := by
    show toggleAfter s.tie p = _
    rw [toggleAfter, hb]
    rfl
  obtain ⟨hstate, htoggle⟩ := attemptOn_session (sessionOn s.tie p) 1 s.nextSeed s.settings.preference none none
  obtain ⟨hone, -⟩ := attemptOn_fresh (x := sessionOn s.tie p) 1 s.nextSeed s.settings.preference
  obtain ⟨hflight, hcount, hlist, hrest⟩ := attemptOn_flight (x := sessionOn s.tie p) 1 s.nextSeed s.settings.preference hf
  generalize (sessionOn s.tie p).attemptOn 1 s.nextSeed s.settings.preference none none = y at *
  obtain ⟨htr, -⟩ := takeBody_resolving (s := s.begunIn p y) hstate
  rw [hb, htr, takeRole_higher (by rw [show (s.begunIn p y).tie.attempt = 1 from hone]; exact hr), begunIn_followed,
    begunIn_transmit] at htake
  obtain ⟨hbegan, hkeeps, hstate', htoggle', -⟩ := attemptBegan_of (s := s) (x := y) (partner := some r) (confirm := none)
    (t := { s.begunIn p (y.attemptOn r.attempt (s.begunIn p y).nextSeed s.settings.preference (some r) none).transmit with
      draws := s.draws + 2 }) rfl hstate (s.begunIn p y).nextSeed_range
  rw [hflight, show y.roleList = [] from hlist.trans hl] at hbegan
  have hsent := Tie.attemptOn_flying hflight r.attempt (s.begunIn p y).nextSeed s.settings.preference (some r) none
  generalize (y.attemptOn r.attempt (s.begunIn p y).nextSeed s.settings.preference (some r) none).transmit = z at *
  refine ⟨_, htake, s.begunIn_follows p _ hstate', ?_, ?_, ?_, rfl, s.nextSeed, s.nextSeed_range.1, s.nextSeed_range.2, hbegan⟩
  · show z.sendCount = 1
    rw [hsent]
    exact if_pos hcount
  · exact htoggle'.trans (htoggle.trans hon)
  · obtain ⟨h1, h2, h3, h4, h5, h6, h7, h8, h9⟩ := hrest
    obtain ⟨k1, k2, k3, k4, k5, k6, k7, k8, k9⟩ := hkeeps
    exact ⟨k1.trans h1, k2.trans h2, k3.trans h3, k4.trans h4, k5.trans h5, k6.trans h6, k7.trans h7, k8.trans h8, k9.trans h9⟩

/-! ### Pages in a session (R141 to R143, R149) -/

/-- A ROLE in SOLO or ROLE_FAULT begins its attempt (R149). -/
theorem takePage_alone {s : State} {p : Page} {r : RoleBody} (hs : s.tie.state = .solo ∨ s.tie.state = .roleFault)
    (hb : p.body = .role r) (ht : s.tie.partnerToggle ≠ some p.toggle)
    (hf : s.tie.inFlight = none ∨ p.ack ≠ some s.tie.sendToggle) (ha : s.tie.sawAck = false ∨ p.ack ≠ none) :
    ∃ t, s.takePage p = t ∧ s.tieFollows t ∧ t.tie.partnerToggle = some p.toggle ∧
      s.attemptBegan t r.attempt (some r) none s.tie.inFlight s.tie.roleList ∧ t.draws = s.draws + 1 ∧
      s.tie.keepsRest t.tie := by
  have hd : s.tie.state ≠ .down := by obtain h | h := hs <;> rw [h] <;> exact TieState.noConfusion
  have htake := takePage_accepted hd ha hf (by rw [hb]; exact PageBody.noConfusion) ht
  rw [hb, takeBody_alone_role (s := { s with tie := takenOn s.tie p }) hs r] at htake
  have hfollows : s.tieFollows (({ s with tie := takenOn s.tie p } : State).enterTie .resolving) := s.tieChanged_follows _
  have htie := ({ s with tie := takenOn s.tie p } : State).enterTie_tie .resolving
  have hsettings := ({ s with tie := takenOn s.tie p } : State).enterTie_settings .resolving
  have hdraws := ({ s with tie := takenOn s.tie p } : State).enterTie_draws .resolving
  rw [followRole_eq] at htake
  generalize ({ s with tie := takenOn s.tie p } : State).enterTie .resolving = u at *
  have hstate : u.tie.state = .resolving := by rw [htie]
  obtain ⟨hbegan, hkeeps, hstate', htoggle, -⟩ := attemptBegan_of (s := s) (x := u.tie) (partner := some r) (confirm := none)
    (t := ({ u with
      tie := u.tie.attemptOn r.attempt u.nextSeed u.settings.preference (some r) none, draws := u.draws + 1 } : State).transmit)
    (by rw [hsettings]; rfl) hstate u.nextSeed_range
  refine ⟨_, htake, ?_, ?_, ?_, ?_, ?_⟩
  · exact tieFollows_congr hfollows _ _ (hstate'.trans hstate.symm)
  · rw [htoggle, htie]
    rfl
  · have hflight : u.tie.inFlight = s.tie.inFlight := by rw [htie]; rfl
    have hlist : u.tie.roleList = s.tie.roleList := by rw [htie]; rfl
    rw [hflight, hlist] at hbegan
    exact hbegan
  · exact congrArg (· + 1) hdraws
  · have hrest (y : Tie) : u.tie.keepsRest y → s.tie.keepsRest y := by
      rw [htie]
      exact id
    exact hrest _ hkeeps

/-- A ROLE at a paired unit enters DOWN (R149). -/
theorem takePage_paired_role {s : State} {p : Page} {r : RoleBody}
    (hs : s.tie.state = .pairedPrimary ∨ s.tie.state = .pairedSecondary) (hb : p.body = .role r)
    (ht : s.tie.partnerToggle ≠ some p.toggle) (hf : s.tie.inFlight = none ∨ p.ack ≠ some s.tie.sendToggle)
    (ha : s.tie.sawAck = false ∨ p.ack ≠ none) :
    ∃ t, s.takePage p = t ∧ s.tie.dropped t.tie .down ∧ s.tieFollows t := by
  have hd : s.tie.state ≠ .down := by obtain h | h := hs <;> rw [h] <;> exact TieState.noConfusion
  have htake := takePage_accepted hd ha hf (by rw [hb]; exact PageBody.noConfusion) ht
  rw [hb, takeBody_paired_role (s := { s with tie := takenOn s.tie p }) hs r] at htake
  have hfollows : s.tieFollows ({ s with tie := takenOn s.tie p } : State).enterDown := s.tieChanged_follows _
  have htie : ({ s with tie := takenOn s.tie p } : State).enterDown.tie = s.tie.abandon .down := by
    rw [enterDown_tie]
    rfl
  have hidle : ({ s with tie := takenOn s.tie p } : State).enterDown.transmit = ({ s with tie := takenOn s.tie p } : State).enterDown := by
    have hno : ({ s with tie := takenOn s.tie p } : State).enterDown.tie.transmit = ({ s with tie := takenOn s.tie p } : State).enterDown.tie := by
      rw [htie]
      rfl
    generalize ({ s with tie := takenOn s.tie p } : State).enterDown = u at *
    exact congrArg (fun y : Tie => ({ u with tie := y } : State)) hno
  refine ⟨_, htake.trans hidle, ?_, hfollows⟩
  rw [htie]
  exact s.tie.abandon_dropped .down

/-! ### The acknowledgement (R141, R153) -/

theorem takeAck_match {s : State} {b : PageBody} (hf : s.tie.inFlight = some b) :
    s.takeAck (some s.tie.sendToggle) = ({ s with tie := s.tie.acknowledged } : State).acked b := by
  unfold takeAck
  rw [hf]
  exact if_pos (beq_self_eq_true _)

/-- A page that is no ROLE and no ROLE_CONFIRM resolves nothing by its acknowledgement (R146, R148). -/
theorem acked_other {s : State} {b : PageBody} (hr : ∀ x, b ≠ .role x) (hc : ∀ x, b ≠ .confirm x) : s.acked b = s := by
  cases b with
  | role r => exact absurd rfl (hr r)
  | confirm c => exact absurd rfl (hc c)
  | idle => rfl
  | summary x => rfl
  | close x => rfl
  | closeOther => rfl

/-- The link with the page in flight removed by its acknowledgement, the next page still to come (R141). -/
def ackTaken (x : Tie) : Tie := { x with
  inFlight := none, sendCount := 0, sendToggle := !x.sendToggle
  sent := satAdd Config.max16 x.sent (flightWindows x.inFlight)
  restartOpen := x.restartOpen && !isRestartClose x.inFlight }

theorem acknowledged_eq (x : Tie) : x.acknowledged = (ackTaken x).nextPage := rfl

section
variable {x : Tie} (hr : x.roleList = [])
include hr

theorem nextPage_close {c : CloseBody} {cs : List CloseBody} (hc : x.closeList = c :: cs) :
    x.nextPage = { x with inFlight := some (.close c), sendCount := 0, closeList := cs } := by
  simp only [Tie.nextPage, hr, hc]

theorem nextPage_held {m : Summary} (hc : x.closeList = []) (hh : x.holding = some m) :
    x.nextPage = { x with inFlight := some (.summary m), sendCount := 0, holding := none } := by
  simp only [Tie.nextPage, hr, hc, hh]

theorem nextPage_none (hc : x.closeList = []) (hh : x.holding = none) : x.nextPage = x := by
  simp only [Tie.nextPage, hr, hc, hh]

/-- The next page in flight is the oldest CLOSE page, then the summary held, and it is sent (R153). -/
theorem nextPage_sent (hf : x.inFlight = none) :
    (∀ c cs, x.closeList = c :: cs → x.nextPage.transmit.inFlight = some (.close c) ∧
      x.nextPage.transmit.closeList = cs ∧ x.nextPage.transmit.holding = x.holding ∧ x.nextPage.transmit.sendCount = 1) ∧
    (∀ m, x.closeList = [] → x.holding = some m → x.nextPage.transmit.inFlight = some (.summary m) ∧
      x.nextPage.transmit.holding = none ∧ x.nextPage.transmit.sendCount = 1) ∧
    (x.closeList = [] → x.holding = none → x.nextPage.transmit = x) := by
  refine ⟨fun c cs hc => ?_, fun m hc hh => ?_, fun hc hh => ?_⟩
  · rw [nextPage_close hr hc]
    exact ⟨rfl, rfl, rfl, rfl⟩
  · rw [nextPage_held hr hc hh]
    exact ⟨rfl, rfl, rfl⟩
  · rw [nextPage_none hr hc hh, Tie.transmit, hf]

theorem nextPage_kept : x.nextPage.transmit.sendToggle = x.sendToggle ∧ x.nextPage.transmit.sent = x.sent ∧
    x.nextPage.transmit.restartOpen = x.restartOpen := by
  have hkept : ∀ y : Tie, y.transmit.sendToggle = y.sendToggle ∧ y.transmit.sent = y.sent ∧
      y.transmit.restartOpen = y.restartOpen := fun y => by
    obtain h | ⟨b, -, -, h⟩ := y.transmit_cases <;> rw [h] <;> exact ⟨rfl, rfl, rfl⟩
  obtain ⟨h1, h2, h3⟩ := hkept x.nextPage
  rw [h1, h2, h3]
  cases hc : x.closeList with
  | cons c cs =>
    rw [nextPage_close hr hc]
    exact ⟨rfl, rfl, rfl⟩
  | nil =>
    cases hh : x.holding with
    | none =>
      rw [nextPage_none hr hc hh]
      exact ⟨rfl, rfl, rfl⟩
    | some m =>
      rw [nextPage_held hr hc hh]
      exact ⟨rfl, rfl, rfl⟩

end

/-- An IDLE page in a session: its ack field alone is taken (R141). -/
theorem takePage_idle {s : State} {p : Page} (hd : s.tie.state ≠ .down) (hb : p.body = .idle) {a : Bool}
    (ha : p.ack = some a) : s.takePage p = (({ s with tie := { s.tie with sawAck := true } } : State).takeAck (some a)).transmit := by
  have hnoted : noted s.tie p = { s.tie with sawAck := true } := by
    unfold noted
    rw [ha, Option.isSome_some, Bool.or_true]
  rw [takePage_session' hd (.inr (by rw [ha]; exact Option.some_ne_none a)), acceptPage_idle (.inl hb), hnoted, ha]

/-- What the acknowledgement counts and closes (R141, R185). -/
theorem ackTaken_counts {x : Tie} {b : PageBody} (hf : x.inFlight = some b) :
    (∀ m, b = .summary m → (ackTaken x).sent = min 65535 (x.sent + m.count)) ∧
    (∀ c, b = .close c → x.sent ≤ 65535 → (ackTaken x).sent = x.sent ∧
      (ackTaken x).restartOpen = (x.restartOpen && decide (c.reason ≠ some .restart))) := by
  refine ⟨fun m hb => ?_, fun c hb hs => ⟨?_, ?_⟩⟩
  · show satAdd Config.max16 x.sent (flightWindows x.inFlight) = _
    rw [hf, hb]
    simp only [satAdd, Config.max16, flightWindows]
  · show satAdd Config.max16 x.sent (flightWindows x.inFlight) = _
    rw [hf, hb]
    simp only [satAdd, Config.max16, flightWindows]
    omega
  · show (x.restartOpen && !isRestartClose x.inFlight) = _
    rw [hf, hb]
    refine congrArg (x.restartOpen && ·) ?_
    by_cases hc : c.reason = some .restart <;> simp [isRestartClose, hc]

end State

/-- Settles O53: the page in DOWN by its body, the other sessions, and the acknowledgement. -/
theorem validPagesAreTaken : Obligations.ValidPagesAreTaken := by
  intro s p noise line ha hop hr hl
  refine ⟨fun hd hf hrl ht => ?_, fun r hs hb ht hf hack => ?_, fun hoff hd hs hack => ?_, fun r hs hb ht hf hack => ?_,
    fun a b hs hb hack hf hnr hnc hrl hcount => ?_⟩
  · have hoff : s.tie.state ≠ .off := by rw [hd]; exact TieState.noConfusion
    rw [State.exec_page ha hop hoff hr hl]
    obtain ⟨hplain, hrole, hconfirm⟩ := State.takePage_down_first hd ht
    have hbegun (partner : Option RoleBody) (confirm : Option ConfirmBody) := State.begunIn_attempt (s := s) (p := p)
      (x := State.sessionOn s.tie p) rfl hf hrl partner confirm rfl
    have htoggle : State.toggleAfter s.tie p = if p.body = .idle then s.tie.partnerToggle else some p.toggle := rfl
    cases hb : p.body with
    | idle =>
      obtain ⟨hfollows, hsent, htog, hkeeps, hbegan, hdraws⟩ := hbegun none none
      refine ⟨_, congrArg Host.Outcome.next (hplain (.inl hb)), hfollows, hsent, htog.trans (htoggle.trans (by rw [hb])),
        fun _ => hkeeps, fun _ _ => ⟨hbegan, hdraws⟩, nofun, nofun, nofun⟩
    | close b =>
      obtain ⟨hfollows, hsent, htog, hkeeps, hbegan, hdraws⟩ := hbegun none none
      refine ⟨_, congrArg Host.Outcome.next (hplain (.inr ⟨b, hb⟩)), hfollows, hsent, htog.trans (htoggle.trans (by rw [hb])),
        fun _ => hkeeps, fun _ _ => ⟨hbegan, hdraws⟩, nofun, nofun, nofun⟩
    | closeOther =>
      rw [hb] at hr
      exact hr.elim
    | summary m =>
      have htake := State.takePage_down_summary hd (ht.resolve_left (by rw [hb]; exact PageBody.noConfusion)) hb
      obtain ⟨hfollows, hsent, htog, -, hbegan, hdraws⟩ := State.begunIn_attempt (s := s) (p := p)
        (x := (State.sessionOn s.tie p).countAccepted m) rfl hf hrl none none rfl
      refine ⟨_, congrArg Host.Outcome.next htake, hfollows, hsent, htog.trans (htoggle.trans (by rw [hb])),
        fun h => absurd rfl (h m), fun _ _ => ⟨hbegan, hdraws⟩, nofun, nofun, nofun⟩
    | confirm c =>
      obtain ⟨hfollows, hsent, htog, hkeeps, hbegan, hdraws⟩ := hbegun none (if c.attempt = 1 then some c else none)
      refine ⟨_, congrArg Host.Outcome.next (hconfirm c hb), hfollows, hsent, htog.trans (htoggle.trans (by rw [hb])),
        fun _ => hkeeps, fun _ h => absurd rfl (h c), nofun, nofun, fun c' hc => ?_⟩
      obtain rfl := PageBody.confirm.inj hc
      exact ⟨hbegan, hdraws⟩
    | role r =>
      by_cases h1 : r.attempt = 1
      · obtain ⟨hfollows, hsent, htog, hkeeps, hbegan, hdraws⟩ := hbegun (some r) none
        refine ⟨_, congrArg Host.Outcome.next (hrole r hb h1), hfollows, hsent, htog.trans (htoggle.trans (by rw [hb])),
          fun _ => hkeeps, fun h => absurd rfl (h r), fun r' hr' _ => ?_, fun r' hr' hlt => ?_, nofun⟩
        · obtain rfl := PageBody.role.inj hr'
          exact ⟨hbegan, hdraws⟩
        · obtain rfl := PageBody.role.inj hr'
          omega
      · rw [hb] at hr
        have hlt : 1 < r.attempt := by
          obtain ⟨-, -, hge, -⟩ := hr
          omega
        obtain ⟨t, htake, hfollows, hsent, htog, hkeeps, hdraws, hbegan⟩ := State.takePage_down_higher hd
          (ht.resolve_left (by rw [hb]; exact PageBody.noConfusion)) hf hrl hb hlt
        refine ⟨t, congrArg Host.Outcome.next htake, hfollows, hsent, htog,
          fun _ => hkeeps, fun h => absurd rfl (h r), fun r' hr' hone => ?_, fun r' hr' _ => ?_, nofun⟩
        · obtain rfl := PageBody.role.inj hr'
          exact absurd hone h1
        · obtain rfl := PageBody.role.inj hr'
          exact ⟨hdraws, hbegan⟩
  · have hd : s.tie.state ≠ .off := by obtain h | h := hs <;> rw [h] <;> exact TieState.noConfusion
    obtain ⟨t, htake, hfollows, htoggle, hbegan, hdraws, hkeeps⟩ := State.takePage_alone hs hb ht hf hack
    exact ⟨t, by rw [State.exec_page ha hop hd hr hl, htake], hfollows, htoggle, hbegan, hdraws, hkeeps⟩
  · refine ⟨s.enterDown, by rw [State.exec_page ha hop hoff hr hl, State.takePage_renewed hd hs hack], ?_, s.enterDown_follows⟩
    rw [State.enterDown_tie]
    exact s.tie.abandon_dropped .down
  · have hd : s.tie.state ≠ .off := by obtain h | h := hs <;> rw [h] <;> exact TieState.noConfusion
    obtain ⟨t, htake, hdropped, hfollows⟩ := State.takePage_paired_role hs hb ht hf hack
    exact ⟨t, by rw [State.exec_page ha hop hd hr hl, htake], hdropped, hfollows⟩
  · have hd : s.tie.state ≠ .off ∧ s.tie.state ≠ .down := by
      obtain h | h := hs <;> rw [h] <;> exact ⟨TieState.noConfusion, TieState.noConfusion⟩
    rw [State.exec_page ha hop hd.1 hr hl, State.takePage_idle hd.2 hb hack]
    by_cases hmatch : a = s.tie.sendToggle
    · have hack' : ({ s with tie := { s.tie with sawAck := true } } : State).takeAck (some a) = { s with
          tie := (State.ackTaken { s.tie with sawAck := true }).nextPage } := by
        rw [hmatch]
        exact (State.takeAck_match (s := { s with tie := { s.tie with sawAck := true } }) hf).trans (State.acked_other hnr hnc)
      obtain ⟨htoggle, hsent, hopen⟩ := State.nextPage_kept (x := State.ackTaken { s.tie with sawAck := true }) hrl
      obtain ⟨hclose, hheld, hnone⟩ := State.nextPage_sent (x := State.ackTaken { s.tie with sawAck := true }) hrl rfl
      obtain ⟨hsummary, hclosed⟩ := State.ackTaken_counts (x := { s.tie with sawAck := true }) hf
      rw [hack']
      refine ⟨_, rfl, fun h => absurd hmatch h, fun _ => ⟨htoggle, fun m hm => hsent.trans (hsummary m hm),
        fun c hc hs => ⟨hsent.trans (hclosed c hc hs).1, hopen.trans (hclosed c hc hs).2⟩, hclose, hheld, fun hcl hh => ?_,
        rfl⟩⟩
      exact ⟨congrArg Tie.inFlight (hnone hcl hh), congrArg Tie.sendCount (hnone hcl hh)⟩
    · have hother : (some a) ≠ some s.tie.sendToggle := fun h => hmatch (Option.some.inj h)
      have hsame : ({ s.tie with sawAck := true } : Tie).transmit = { s.tie with sawAck := true } := by
        rw [Tie.transmit]
        simp only [hf]
        exact if_neg (by omega)
      rw [State.takeAck_other (s := { s with tie := { s.tie with sawAck := true } }) (.inr hother)]
      refine ⟨_, rfl, fun _ => ?_, fun h => absurd h hmatch⟩
      exact congrArg (fun x : Tie => ({ s with tie := x } : State)) hsame

end Sys2Proof.Machine
end

section
/-! PROOFS. Role resolution (O54): the attempt resolved or failed, the pairing judged, and the pages that are kept or dropped. -/

/- The whole text is compiled as one file: these proofs are elaborated one after another, to stay within its memory. -/
set_option Elab.async false

namespace Sys2Proof.Machine
namespace State

/-- Nothing changed but link, accounts, notices and draws. -/
def linkOnly (s t : State) : Prop :=
  { t with tie := s.tie, accounts := s.accounts, notices := s.notices, draws := s.draws } = s

theorem transmit_still {x : Tie} (h : x.inFlight = none ∨ 0 < x.sendCount) : x.transmit = x := by
  obtain hx | ⟨b, hb, h0, -⟩ := x.transmit_cases
  · exact hx
  · exact h.elim (fun hn => absurd (hb.symm.trans hn) (Option.some_ne_none b)) fun hp => by omega

theorem transmit_session (x : Tie) : x.transmit.sendToggle = x.sendToggle ∧ x.transmit.partnerToggle = x.partnerToggle ∧
    x.transmit.resolved = x.resolved := by
  obtain h | ⟨b, -, -, h⟩ := x.transmit_cases <;> rw [h] <;> exact ⟨rfl, rfl, rfl⟩

theorem transmit_linkOnly {s t : State} (h : s.linkOnly t) : s.linkOnly t.transmit := h

/-! ### States of the link entered with a notice (R147, R148) -/

theorem enterTie_linkOnly {s v : State} (hv : v = { s with tie := v.tie }) (x : TieState) : s.linkOnly (v.enterTie x) := by
  have h := v.enterTie_rest x
  generalize v.enterTie x = t at h
  generalize v.tie = y at hv h
  rw [linkOnly, h, hv]

theorem enterTie_bad {s : State} {x : TieState} (h : x = .down ∨ x = .solo ∨ x = .roleFault) :
    (s.enterTie x).notices.lows.getLsbD 3 = true := by
  obtain ⟨-, hlink, -⟩ := s.enterTie_follows x
  exact hlink (by rw [enterTie_tie]; exact h)

/-- The link enters ROLE_FAULT with its notice (R147). -/
theorem enterRoleFault_spec {s v : State} (hv : v = { s with tie := v.tie }) : s.linkOnly v.enterRoleFault ∧
    v.enterRoleFault.tie = { v.tie with state := .roleFault } ∧
    v.enterRoleFault.notices.latched.getLsbD 13 = true ∧ v.enterRoleFault.notices.lows.getLsbD 3 = true := by
  have honly := enterTie_linkOnly hv .roleFault
  have hbad := enterTie_bad (s := v) (x := .roleFault) (.inr (.inr rfl))
  have htie := v.enterTie_tie .roleFault
  rw [enterRoleFault]
  generalize v.enterTie .roleFault = u at *
  refine ⟨honly, htie, ?_, hbad⟩
  rw [latch_getLsbD]
  simp [Notice.bit]

/-- The link enters the paired state of a role with its notice (R148). -/
theorem enterPaired_spec {s v : State} (hv : v = { s with tie := v.tie }) (r : Role) : s.linkOnly (v.enterPaired r) ∧
    (v.enterPaired r).tie = { v.tie with state := r.pairedState } ∧
    (v.enterPaired r).notices.latched.getLsbD 12 = true := by
  have honly := enterTie_linkOnly hv r.pairedState
  have htie := v.enterTie_tie r.pairedState
  rw [enterPaired]
  generalize v.enterTie r.pairedState = u at *
  refine ⟨honly, htie, ?_⟩
  rw [latch_getLsbD]
  simp [Notice.bit]

/-! ### An attempt failed (R146, R147) -/

section
variable {s v : State} (hv : v = { s with tie := v.tie })
include hv

/-- What a failed attempt leaves: the next one begun, or SOLO, its page sent (R147). -/
theorem failAttempt_spec (hs : v.tie.state = .resolving) (hf : v.tie.inFlight = none) (hl : v.tie.roleList = [])
    (ha : v.tie.attempt = s.tie.attempt) : s.linkOnly v.failAttempt ∧ s.attemptFailed v.failAttempt.transmit ∧
      v.failAttempt.tie.sendToggle = v.tie.sendToggle ∧ v.failAttempt.tie.partnerToggle = v.tie.partnerToggle := by
  by_cases hlt : v.tie.attempt < 3
  · have hfail : v.failAttempt = v.beginAttempt (v.tie.attempt + 1) := if_pos hlt
    have hsent := v.beginAttempt_sent (v.tie.attempt + 1)
    have hset : v.settings = s.settings := by rw [hv]
    have hdraws : v.draws = s.draws := by rw [hv]
    obtain ⟨hbegan, -⟩ := attemptBegan_of (s := s) (x := v.tie) (t := (v.beginAttempt (v.tie.attempt + 1)).transmit)
      (n := v.tie.attempt + 1) (seed := v.nextSeed) (partner := none) (confirm := none)
      (by rw [hsent, ← hset]) hs v.nextSeed_range
    rw [hf, hl, ha] at hbegan
    rw [hfail, ha]
    refine ⟨?_, ⟨fun _ => ⟨hbegan, ?_⟩, fun h3 => ?_⟩, ?_⟩
    · generalize v.tie = y at hv
      rw [hv]
      rfl
    · rw [← hdraws]
      rfl
    · omega
    · show ((v.tie.beginAttempt _ _ _).sendToggle = _) ∧ (v.tie.beginAttempt _ _ _).partnerToggle = _
      unfold Tie.beginAttempt Tie.roleDue
      dsimp only
      rw [hf]
      exact ⟨rfl, rfl⟩
  · have hfail : v.failAttempt = v.enterSolo := if_neg hlt
    have hv' : (v.onTie fun t => { t with roleList := [] }) =
        { s with tie := (v.onTie fun t => { t with roleList := [] }).tie } := by
      generalize v.tie = y at hv
      rw [hv]
      rfl
    have honly := enterTie_linkOnly hv' .solo
    have hbad := enterTie_bad (s := v.onTie fun t => { t with roleList := [] }) (x := .solo) (.inr (.inl rfl))
    have htie := (v.onTie fun t => { t with roleList := [] }).enterTie_tie .solo
    have hdraws := (v.onTie fun t => { t with roleList := [] }).enterTie_draws .solo
    rw [hfail, enterSolo]
    generalize (v.onTie fun t => { t with roleList := [] }).enterTie .solo = u at *
    refine ⟨honly, ⟨fun h => by omega, fun _ => ⟨?_, ?_, hbad⟩⟩, by rw [htie]; rfl, by rw [htie]; rfl⟩
    · rw [transmit_tie, Tie.transmit_state, htie]
    · refine hdraws.trans ?_
      rw [hv]
      rfl

end

/-- The role that the table of R147 gives two ROLE pages. -/
theorem resolveRoles_eq (own r : RoleBody) :
    (((own.preference = .primary ∧ r.preference ≠ .primary) ∨ (own.preference = .either ∧ r.preference = .secondary) ∨
      (own.preference = .either ∧ r.preference = .either ∧ r.seed < own.seed)) →
      resolveRoles own r = .role .primary) ∧
    (((own.preference ≠ .primary ∧ r.preference = .primary) ∨ (own.preference = .secondary ∧ r.preference = .either) ∨
      (own.preference = .either ∧ r.preference = .either ∧ own.seed < r.seed)) →
      resolveRoles own r = .role .secondary) ∧
    (((own.preference = .primary ∧ r.preference = .primary) ∨ (own.preference = .secondary ∧ r.preference = .secondary)) →
      resolveRoles own r = .fault) ∧
    (own.preference = .either → r.preference = .either → own.seed = r.seed → resolveRoles own r = .noResult) := by
  unfold resolveRoles
  cases own.preference <;> cases r.preference <;> simp
  refine ⟨fun h => by omega, fun h => ?_, fun h => ?_⟩
  · rw [if_neg (by omega), if_pos h]
  · rw [if_neg (by omega), if_neg (by omega)]

/-- The ROLE_CONFIRM of a role resolved is in flight and sent (R147). -/
theorem confirmDue_sent {x : Tie} (hf : x.inFlight = none) (r : Role) : (x.confirmDue r).transmit =
    { x with
      resolved := some r, inFlight := some (.confirm ⟨x.attempt, r, x.ownSeed, x.partnerSeed⟩), sendCount := 1
      lastSent := (x.confirmDue r).transmit.lastSent } := by
  unfold Tie.confirmDue Tie.roleDue
  dsimp only
  rw [hf]
  rfl

theorem confirmDue_session {x : Tie} (hf : x.inFlight = none) (r : Role) : (x.confirmDue r).sendToggle = x.sendToggle ∧
    (x.confirmDue r).partnerToggle = x.partnerToggle := by
  unfold Tie.confirmDue Tie.roleDue
  dsimp only
  rw [hf]
  exact ⟨rfl, rfl⟩

section
variable {s v : State} (hv : v = { s with tie := v.tie }) (hs : v.tie.state = .resolving) (hf : v.tie.inFlight = none)
  (hl : v.tie.roleList = []) (ha : v.tie.attempt = s.tie.attempt)
include hv hs hf hl ha

/-- The attempt is resolved by the table of R147. -/
theorem tryResolve_spec {own r : RoleBody} (hown : v.tie.ownRole = some own) (hr : v.tie.partnerRole = some r)
    (hack : v.tie.ownRoleAcked = true) (hno : v.tie.resolved = none) (hseed : v.tie.ownSeed = s.tie.ownSeed)
    (hpartner : v.tie.partnerSeed = r.seed) : s.linkOnly v.tryResolve ∧ s.attemptResolved v.tryResolve.transmit own r ∧
      v.tryResolve.tie.sendToggle = v.tie.sendToggle ∧ v.tryResolve.tie.partnerToggle = v.tie.partnerToggle := by
  have hcond : (v.tie.state == .resolving && v.tie.ownRoleAcked && v.tie.resolved.isNone) = true := by
    simp [hs, hack, hno]
  obtain ⟨hprimary, hsecondary, hfault, hnone⟩ := resolveRoles_eq own r
  cases hres : resolveRoles own r with
  | role x =>
    have hstep : v.tryResolve = v.onTie (·.confirmDue x) := by
      simp only [tryResolve, hown, hr, hcond, if_true, hres]
    have hsent := confirmDue_sent hf x
    obtain ⟨htoggle, hpart⟩ := confirmDue_session hf x
    rw [hstep]
    refine ⟨?_, ⟨fun h => ?_, fun h => ?_, fun h => ?_, fun h1 h2 h3 => ?_⟩, htoggle, hpart⟩
    · generalize v.tie = y at hv
      rw [hv]
      rfl
    · obtain rfl : x = .primary := Resolution.role.inj (hres.symm.trans (hprimary h))
      show (v.tie.confirmDue .primary).transmit.state = _ ∧ (v.tie.confirmDue .primary).transmit.resolved = _ ∧
        (v.tie.confirmDue .primary).transmit.sendCount = _ ∧ (v.tie.confirmDue .primary).transmit.inFlight = _
      rw [hsent, ← ha, ← hseed, ← hpartner]
      exact ⟨hs, rfl, rfl, rfl⟩
    · obtain rfl : x = .secondary := Resolution.role.inj (hres.symm.trans (hsecondary h))
      show (v.tie.confirmDue .secondary).transmit.state = _ ∧ (v.tie.confirmDue .secondary).transmit.resolved = _ ∧
        (v.tie.confirmDue .secondary).transmit.sendCount = _ ∧ (v.tie.confirmDue .secondary).transmit.inFlight = _
      rw [hsent, ← ha, ← hseed, ← hpartner]
      exact ⟨hs, rfl, rfl, rfl⟩
    · exact Resolution.noConfusion (hres.symm.trans (hfault h))
    · exact Resolution.noConfusion (hres.symm.trans (hnone h1 h2 h3))
  | noResult =>
    have hstep : v.tryResolve = v.failAttempt := by
      simp only [tryResolve, hown, hr, hcond, if_true, hres]
    obtain ⟨honly, hfailed, htoggle, hpart⟩ := failAttempt_spec hv hs hf hl ha
    rw [hstep]
    exact ⟨honly, ⟨fun h => Resolution.noConfusion (hres.symm.trans (hprimary h)),
      fun h => Resolution.noConfusion (hres.symm.trans (hsecondary h)),
      fun h => Resolution.noConfusion (hres.symm.trans (hfault h)), fun _ _ _ => hfailed⟩, htoggle, hpart⟩
  | fault =>
    have hstep : v.tryResolve = v.enterRoleFault := by
      simp only [tryResolve, hown, hr, hcond, if_true, hres]
    obtain ⟨honly, htie, hlatched, hbad⟩ := enterRoleFault_spec hv
    rw [hstep]
    refine ⟨honly, ⟨fun h => Resolution.noConfusion (hres.symm.trans (hprimary h)),
      fun h => Resolution.noConfusion (hres.symm.trans (hsecondary h)), fun _ => ⟨?_, hlatched, hbad⟩,
      fun h1 h2 h3 => Resolution.noConfusion (hres.symm.trans (hnone h1 h2 h3))⟩, by rw [htie], by rw [htie]⟩
    rw [transmit_tie, Tie.transmit_state, htie]

/-- The pairing is judged by the two confirms (R148). -/
theorem tryPair_spec {r : Role} {c : ConfirmBody} (hres : v.tie.resolved = some r) (hc : v.tie.partnerConfirm = some c)
    (hack : v.tie.confirmAcked = true) : s.linkOnly v.tryPair ∧ s.pairingJudged v.tryPair.transmit r c ∧
      v.tryPair.tie.sendToggle = v.tie.sendToggle ∧ v.tryPair.tie.partnerToggle = v.tie.partnerToggle := by
  have hcond : (v.tie.state == .resolving && v.tie.confirmAcked) = true := by simp [hs, hack]
  have htry : v.tryPair = if c.role == r then v.failAttempt else v.enterPaired r := by
    simp only [tryPair, hres, hc, hcond, if_true]
  by_cases hsame : c.role = r
  · have hstep : v.tryPair = v.failAttempt := htry.trans (if_pos (beq_iff_eq.2 hsame))
    obtain ⟨honly, hfailed, htoggle, hpart⟩ := failAttempt_spec hv hs hf hl ha
    rw [hstep]
    exact ⟨honly, ⟨fun h => absurd hsame h, fun _ => hfailed⟩, htoggle, hpart⟩
  · have hstep : v.tryPair = v.enterPaired r := htry.trans (if_neg fun h => hsame (beq_iff_eq.1 h))
    obtain ⟨honly, htie, hlatched⟩ := enterPaired_spec hv r
    rw [hstep]
    refine ⟨honly, ⟨fun _ => ⟨?_, hlatched⟩, fun h => absurd h hsame⟩, by rw [htie], by rw [htie]⟩
    rw [transmit_tie, Tie.transmit_state, htie]
    cases r <;> rfl

end

/-! ### Pages that come second (R146 to R148) -/

/-- The state with an accepted page noted in its link. -/
def takenIn (s : State) (p : Page) : State := { s with tie := takenOn s.tie p }

theorem takePage_resolving {s : State} {p : Page} (hs : s.tie.state = .resolving) (ha : s.tie.sawAck = false ∨ p.ack ≠ none)
    (hf : s.tie.inFlight = none ∨ p.ack ≠ some s.tie.sendToggle) (ht : s.tie.partnerToggle ≠ some p.toggle) :
    (∀ r, p.body = .role r → s.takePage p = ((s.takenIn p).takeRole r).transmit) ∧
    (∀ c, p.body = .confirm c → s.takePage p = ((s.takenIn p).takeConfirm c).transmit) ∧
    (∀ b, p.body = .close b → s.takePage p = (s.takenIn p).transmit) := by
  have hd : s.tie.state ≠ .down := by rw [hs]; exact TieState.noConfusion
  obtain ⟨hrole, hconfirm, -, hclose, -⟩ := takeBody_resolving (s := s.takenIn p) hs
  refine ⟨fun r hb => ?_, fun c hb => ?_, fun b hb => ?_⟩ <;>
    refine (takePage_accepted hd ha hf (by rw [hb]; exact PageBody.noConfusion) ht).trans ?_
  · rw [hb]
    exact congrArg transmit (hrole r)
  · rw [hb]
    exact congrArg transmit (hconfirm c)
  · rw [hb]
    exact congrArg transmit (hclose b)

/-- The partner's ROLE resolves the attempt whose own ROLE is acknowledged (R147). -/
theorem takeRole_second {s : State} {p : Page} {own r : RoleBody} (hs : s.tie.state = .resolving) (hf : s.tie.inFlight = none)
    (hl : s.tie.roleList = []) (hown : s.tie.ownRole = some own) (hack : s.tie.ownRoleAcked = true)
    (hno : s.tie.resolved = none) (hr : r.attempt = s.tie.attempt) :
    s.linkOnly ((s.takenIn p).takeRole r).transmit ∧ s.attemptResolved ((s.takenIn p).takeRole r).transmit own r := by
  have htake : (s.takenIn p).takeRole r = ({ s with tie := roleKept (takenOn s.tie p) r } : State).tryResolve := if_pos hr
  obtain ⟨honly, hresolved, -⟩ := tryResolve_spec (s := s) (v := { s with tie := roleKept (takenOn s.tie p) r }) rfl hs hf hl rfl
    hown rfl hack hno rfl rfl
  rw [htake]
  exact ⟨transmit_linkOnly honly, hresolved⟩

/-- The partner's confirm pairs the unit whose own confirm is acknowledged (R148). -/
theorem takeConfirm_second {s : State} {p : Page} {r : Role} {c : ConfirmBody} (hs : s.tie.state = .resolving)
    (hf : s.tie.inFlight = none) (hl : s.tie.roleList = []) (hres : s.tie.resolved = some r)
    (hack : s.tie.confirmAcked = true) (hc : c.attempt = s.tie.attempt) :
    s.linkOnly ((s.takenIn p).takeConfirm c).transmit ∧ s.pairingJudged ((s.takenIn p).takeConfirm c).transmit r c := by
  have htake : (s.takenIn p).takeConfirm c =
      ({ s with tie := { takenOn s.tie p with partnerConfirm := some c } } : State).tryPair := if_pos hc
  obtain ⟨honly, hjudged, -⟩ := tryPair_spec (s := s) (v := { s with tie := { takenOn s.tie p with partnerConfirm := some c } })
    rfl hs hf hl rfl hres rfl hack
  rw [htake]
  exact ⟨transmit_linkOnly honly, hjudged⟩

/-! ### Acknowledgements that come second (R146 to R148) -/

section
variable {s : State} {p : Page} (hs : s.tie.state = .resolving)
  (hi : p.body = .idle ∨ s.tie.partnerToggle = some p.toggle) (ha : p.ack = some s.tie.sendToggle)
  (hl : s.tie.roleList = []) (hc : s.tie.closeList = []) (hh : s.tie.holding = none)
include hs hi ha hl hc hh

/-- A page not accepted whose ack field removes the page in flight: what its acknowledgement brings about (R141). -/
theorem takePage_acks {b : PageBody} (hf : s.tie.inFlight = some b)
    (hkept : (({ s with tie := ackTaken (noted s.tie p) } : State).acked b).tie.partnerToggle = s.tie.partnerToggle) :
    s.takePage p = (({ s with tie := ackTaken (noted s.tie p) } : State).acked b).transmit := by
  have hd : s.tie.state ≠ .down := by rw [hs]; exact TieState.noConfusion
  have hack : (noted s.tie p).acknowledged = ackTaken (noted s.tie p) := nextPage_none hl hc hh
  have htake : ({ s with tie := noted s.tie p } : State).takeAck p.ack =
      ({ s with tie := ackTaken (noted s.tie p) } : State).acked b := by
    rw [ha, ← hack]
    exact takeAck_match (s := { s with tie := noted s.tie p }) hf
  rw [takePage_session' hd (.inr (by rw [ha]; exact Option.some_ne_none _)), htake]
  exact congrArg transmit (acceptPage_idle (hi.imp_right hkept.trans))

/-- The acknowledgement of the unit's own ROLE resolves the attempt whose partner's ROLE is accepted (R146, R147). -/
theorem ackRole_second {own r : RoleBody} (hheld : s.rolesHeld) (hf : s.tie.inFlight = some (.role own))
    (hown : s.tie.ownRole = some own) (hr : s.tie.partnerRole = some r) (hno : s.tie.resolved = none) :
    s.linkOnly (s.takePage p) ∧ (s.takePage p).tie.sendToggle = (!s.tie.sendToggle) ∧
      s.attemptResolved (s.takePage p) own r := by
  have hacked : ({ s with tie := ackTaken (noted s.tie p) } : State).acked (.role own) =
      ({ s with tie := { ackTaken (noted s.tie p) with ownRoleAcked := true } } : State).tryResolve :=
    if_pos (beq_iff_eq.2 hown)
  obtain ⟨honly, hresolved, htoggle, hpart⟩ := tryResolve_spec (s := s)
    (v := { s with tie := { ackTaken (noted s.tie p) with ownRoleAcked := true } }) rfl hs rfl hl rfl hown hr rfl hno rfl
    (hheld.2 r hr).1.symm
  rw [takePage_acks hs hi ha hl hc hh hf (by rw [hacked]; exact hpart), hacked]
  refine ⟨transmit_linkOnly honly, ?_, hresolved⟩
  rw [transmit_tie, (transmit_session _).1, htoggle]
  rfl

/-- The acknowledgement of the unit's own confirm judges the pairing with the confirm kept (R148). -/
theorem ackConfirm_second {r : Role} {c : ConfirmBody} {seed : Nat} (hres : s.tie.resolved = some r)
    (hcon : s.tie.partnerConfirm = some c)
    (hf : s.tie.inFlight = some (.confirm ⟨s.tie.attempt, r, s.tie.ownSeed, seed⟩)) :
    s.linkOnly (s.takePage p) ∧ (s.takePage p).tie.sendToggle = (!s.tie.sendToggle) ∧
      s.pairingJudged (s.takePage p) r c := by
  have hmine : (ackTaken (noted s.tie p)).isOwnConfirm (.confirm ⟨s.tie.attempt, r, s.tie.ownSeed, seed⟩) = true := by
    simp [Tie.isOwnConfirm, ackTaken, noted, hres]
  have hacked : ({ s with tie := ackTaken (noted s.tie p) } : State).acked
      (.confirm ⟨s.tie.attempt, r, s.tie.ownSeed, seed⟩) =
      ({ s with tie := { ackTaken (noted s.tie p) with confirmAcked := true } } : State).tryPair :=
    (if_neg Bool.false_ne_true).trans (if_pos hmine)
  obtain ⟨honly, hjudged, htoggle, hpart⟩ := tryPair_spec (s := s)
    (v := { s with tie := { ackTaken (noted s.tie p) with confirmAcked := true } }) rfl hs rfl hl rfl hres hcon rfl
  rw [takePage_acks hs hi ha hl hc hh hf (by rw [hacked]; exact hpart), hacked]
  refine ⟨transmit_linkOnly honly, ?_, hjudged⟩
  rw [transmit_tie, (transmit_session _).1, htoggle]
  rfl

end

/-! ### Pages kept, followed or dropped (R146) -/

theorem transmit_takenIn {s : State} {x : Tie} (h : x.inFlight = none ∨ 0 < x.sendCount) :
    ({ s with tie := x } : State).transmit = { s with tie := x } :=
  congrArg (fun y : Tie => ({ s with tie := y } : State)) (transmit_still h)

/-- A ROLE of a higher attempt is followed with a new seed (R146). -/
theorem takeRole_followed {s : State} {p : Page} {r : RoleBody} (hs : s.tie.state = .resolving)
    (hr : s.tie.attempt < r.attempt) : ∃ t, ((s.takenIn p).takeRole r).transmit = t ∧
      s.attemptBegan t r.attempt (some r) none s.tie.inFlight s.tie.roleList ∧ t.draws = s.draws + 1 ∧
      t.tie.partnerToggle = some p.toggle ∧ s.tie.keepsRest t.tie ∧ { t with tie := s.tie, draws := s.draws } = s := by
  obtain ⟨hbegan, hkeeps, -, htoggle, -⟩ := attemptBegan_of (s := s) (x := takenOn s.tie p) (partner := some r)
    (confirm := none) (t := ((s.takenIn p).followRole r).transmit) (by rw [followRole_eq]; rfl) hs s.nextSeed_range
  rw [takeRole_higher (s := s.takenIn p) hr]
  refine ⟨_, rfl, hbegan, ?_, htoggle, hkeeps, ?_⟩ <;> rw [followRole_eq] <;> rfl

end State

/-- Settles O54: what comes second by page, what comes second by acknowledgement, and the pages kept or dropped. -/
theorem rolesAreResolved : Obligations.RolesAreResolved := by
  intro s p line ha hop hs hr hl hack linkOnly
  have hoff : s.tie.state ≠ .off := by rw [hs]; exact TieState.noConfusion
  rw [State.exec_page ha hop hoff hr hl]
  refine ⟨fun ht hf hrl => ?_, fun hi hmatch hrl hcl hh hheld => ?_, fun ht hf => ?_⟩
  · obtain ⟨hrole, hconfirm, -⟩ := State.takePage_resolving hs hack (.inl hf) ht
    refine ⟨fun own r hb hown hacked hno hra => ⟨_, congrArg _ (hrole r hb), ?_⟩,
      fun r c hb hres hacked hca => ⟨_, congrArg _ (hconfirm c hb), ?_⟩⟩
    · exact State.takeRole_second hs hf hrl hown hacked hno hra
    · exact State.takeConfirm_second hs hf hrl hres hacked hca
  · exact ⟨fun own r hf hown hpr hno => ⟨_, rfl, State.ackRole_second hs hi hmatch hrl hcl hh hheld hf hown hpr hno⟩,
      fun r c seed hres hcon hf => ⟨_, rfl, State.ackConfirm_second hs hi hmatch hrl hcl hh hres hcon hf⟩⟩
  · obtain ⟨hrole, hconfirm, hclose⟩ := State.takePage_resolving hs hack (hf.imp_right And.left) ht
    have hstill : s.tie.inFlight = none ∨ 0 < s.tie.sendCount := hf.imp_right And.right
    intro taken
    refine ⟨fun r hb hlt => ?_, fun r hb hlt => congrArg _ ((hrole r hb).trans ?_),
      fun r hb hra hno => congrArg _ ((hrole r hb).trans ?_), fun c hb hca => congrArg _ ((hconfirm c hb).trans ?_),
      fun c hb hca hno => congrArg _ ((hconfirm c hb).trans ?_), fun b hb => congrArg _ ((hclose b hb).trans ?_)⟩
    · obtain ⟨t, htake, hrest⟩ := State.takeRole_followed (p := p) hs hlt
      exact ⟨t, congrArg _ ((hrole r hb).trans htake), hrest⟩
    · rw [State.takeRole_lower (s := s.takenIn p) hlt]
      exact State.transmit_takenIn hstill
    · rw [State.takeRole_kept (s := s.takenIn p) hra hno]
      exact State.transmit_takenIn hstill
    · rw [State.takeConfirm_other (s := s.takenIn p) hca]
      exact State.transmit_takenIn hstill
    · rw [State.takeConfirm_kept (s := s.takenIn p) hca hno]
      exact State.transmit_takenIn hstill
    · exact State.transmit_takenIn hstill

end Sys2Proof.Machine
end

section
/-! PROOFS. An accepted SUMMARY page (O56): counted in every state, accounted at a primary unit. -/

/- The whole text is compiled as one file: these proofs are elaborated one after another, to stay within its memory. -/
set_option Elab.async false

namespace Sys2Proof.Machine

/-! ### The contribution of a summary (R63, R74, R154) -/

theorem foldl_max_spec (l : List Nat) (b : Nat) : b ≤ l.foldl max b ∧ (∀ z ∈ l, z ≤ l.foldl max b) ∧
    (l.foldl max b = b ∨ l.foldl max b ∈ l) := by
  induction l generalizing b with
  | nil => exact ⟨le_rfl, nofun, .inl rfl⟩
  | cons x xs ih =>
    obtain ⟨hstart, hall, hone⟩ := ih (max b x)
    rw [List.foldl_cons]
    refine ⟨(Nat.le_max_left b x).trans hstart, fun z hz => ?_, ?_⟩
    · obtain rfl | hz := List.mem_cons.1 hz
      · exact (Nat.le_max_right b z).trans hstart
      · exact hall z hz
    · obtain hone | hone := hone
      · obtain hm | hm := Nat.le_total b x |>.imp Nat.max_eq_right Nat.max_eq_left
        · exact .inr (List.mem_cons.2 (.inl (hone.trans hm)))
        · exact .inl (hone.trans hm)
      · exact .inr (List.mem_cons_of_mem _ hone)

/-- A quantity with the sign of a member (R52, R53). -/
def signed (plus : Bool) (z : Int) : Int := (if plus then 1 else -1) * z

theorem signed_eq (plus : Bool) (z : Int) : signed plus z = if plus then z else -z := by
  cases plus
  · exact neg_one_mul z
  · exact one_mul z

section
variable (x : Summary) (peers : List PeerMember)

theorem Summary.netOver_eq (f : SlotSummary → Int) : x.netOver peers f =
    (peers.map fun m => (x.slots.get m.slot).elim 0 fun sl => signed m.plus (f sl)).sum := by
  unfold Summary.netOver
  refine congrArg List.sum (List.map_congr_left fun m _ => ?_)
  cases x.slots.get m.slot with
  | none => rfl
  | some sl => exact (signed_eq m.plus (f sl)).symm

theorem Summary.contribution_currents (i : Fin 40) :
    (∀ m ∈ peers, ∀ sl, x.slots.get m.slot = some sl → sl.currents.get i ≤ (x.contribution peers).currents.get i) ∧
    ((x.contribution peers).currents.get i = 0 ∨ ∃ m ∈ peers, ∃ sl, x.slots.get m.slot = some sl ∧
      sl.currents.get i = (x.contribution peers).currents.get i) := by
  have hget : (x.contribution peers).currents.get i =
      (peers.map fun m => (x.slots.get m.slot).elim 0 fun sl => sl.currents.get i).foldl max 0 := by
    refine (Table.get_make ..).trans (congrArg (List.foldl max 0) (List.map_congr_left fun m _ => ?_))
    cases x.slots.get m.slot <;> rfl
  obtain ⟨-, hall, hone⟩ := foldl_max_spec (peers.map fun m => (x.slots.get m.slot).elim 0 fun sl => sl.currents.get i) 0
  rw [hget]
  refine ⟨fun m hm sl hsl => ?_, hone.elim .inl fun hmem => ?_⟩
  · refine hall _ (List.mem_map.2 ⟨m, hm, ?_⟩)
    rw [hsl]
    rfl
  · obtain ⟨m, hm, hval⟩ := List.mem_map.1 hmem
    cases hs : x.slots.get m.slot with
    | none =>
      rw [hs] at hval
      exact .inl hval.symm
    | some sl =>
      rw [hs] at hval
      exact .inr ⟨m, hm, sl, hs, hval⟩

theorem Summary.slotShort_iff (j : Fin 4) :
    x.slotShort j = true ↔ ∀ sl, x.slots.get j = some sl → sl.absent = true ∨ sl.saturated = true := by
  unfold Summary.slotShort
  cases x.slots.get j with
  | none => exact iff_of_true rfl nofun
  | some sl => simp

theorem Summary.contribution_incomplete : (x.contribution peers).incomplete = true ↔ x.countSaturated = true ∨
    ∃ m ∈ peers, ∀ sl, x.slots.get m.slot = some sl → sl.absent = true ∨ sl.saturated = true := by
  simp only [Summary.contribution, Bool.or_eq_true, List.any_eq_true, Summary.slotShort_iff]

theorem overProduct_iff (z : Int) : overProduct z = true ↔ 6024000000000000000 < z.natAbs := decide_eq_true_iff

theorem Summary.contribution_clamped : (x.contribution peers).clamped = true ↔
    6024000000000000000 < (x.netOver peers (·.p1n)).natAbs ∨ 6024000000000000000 < (x.netOver peers (·.q1n)).natAbs ∨
    ∃ i : Fin 39, 6024000000000000000 < (x.netOver peers fun sl => sl.phn.get i).natAbs := by
  simp only [Summary.contribution, Bool.or_eq_true, List.any_eq_true, overProduct_iff, Table.get_make, or_assoc,
    List.mem_finRange, true_and]

theorem Summary.contribution_phn (i : Fin 39) : (x.contribution peers).phn.get i =
    max (-6024000000000000000) (min 6024000000000000000 (x.netOver peers fun sl => sl.phn.get i)) := by
  simp only [Summary.contribution, Table.get_each, Table.get_make, clampInt, Config.peerClamp]
  rfl

end

namespace State

/-! ### A summary accounted (R53, R56, R154) -/

theorem accountSummary_none {s : State} (x : Summary) (h : s.selector.active = none) : s.accountSummary x = s := by
  simp [accountSummary, h]

theorem accountSummary_plan {s : State} (x : Summary) {p : Fin 8} {c : PlanContent}
    (hp : s.selector.active = some p) (hc : s.selector.content = some c) : s.accountSummary x =
      s.contributeAll (fun a => s.isEnabled a && !(c.peersOf a).isEmpty) (fun a => x.contribution (c.peersOf a)) p
        (List.finRange 16) := by
  simp only [accountSummary, hp, hc, contributeAll]

theorem accountSummary_get {s : State} (x : Summary) {p : Fin 8} {c : PlanContent}
    (hp : s.selector.active = some p) (hc : s.selector.content = some c) (a : Fin 16) :
    (s.accountSummary x).accounts.get a =
      if s.isEnabled a = true ∧ c.memberPeers a ≠ [] then
        (s.accounts.get a).contribute (x.contribution (c.memberPeers a)) p
      else s.accounts.get a := by
  rw [accountSummary_plan x hp hc, contributeAll_get_all]
  simp only [PlanContent.peersOf_eq, Bool.and_eq_true, Bool.not_eq_true', List.isEmpty_eq_false_iff]

theorem accountSummary_eq (s : State) (x : Summary) : s.accountSummary x =
    { s with accounts := (s.accountSummary x).accounts, notices := (s.accountSummary x).notices } := by
  cases hp : s.selector.active with
  | none => rw [accountSummary_none x hp]
  | some p =>
    cases hc : s.selector.content with
    | none => simp only [accountSummary, hp, hc]
    | some c =>
      rw [accountSummary_plan x hp hc]
      exact contributeAll_eq ..

theorem takeBody_summary {s : State} (x : Summary) : s.takeBody (.summary x) = s.takeSummary x := by
  unfold takeBody
  cases s.tie.state <;> rfl

/-- A SUMMARY taken: in PAIRED_PRIMARY it is accounted, in any other state it is counted alone (R154). -/
theorem takeSummary_spec (s : State) (x : Summary) :
    s.takeSummary x = { s with
      tie := s.tie.countAccepted x, accounts := (s.takeSummary x).accounts, notices := (s.takeSummary x).notices } ∧
    (s.tie.state ≠ .pairedPrimary → (s.takeSummary x).accounts = s.accounts) ∧
    (s.tie.state = .pairedPrimary → (s.takeSummary x).accounts = (s.accountSummary x).accounts) := by
  by_cases h : s.tie.state = .pairedPrimary
  · have htake : s.takeSummary x = (s.accountSummary x).onTie (·.countAccepted x) := by
      rw [takeSummary, if_pos (beq_iff_eq.2 h)]
    have heq := s.accountSummary_eq x
    rw [htake]
    generalize s.accountSummary x = u at *
    refine ⟨?_, fun hn => absurd h hn, fun _ => rfl⟩
    rw [heq]
    rfl
  · rw [takeSummary_counted h]
    exact ⟨rfl, fun _ => rfl, fun hp => absurd hp h⟩

/-! ### The page in a session and in DOWN (R141 to R144, R154) -/

/-- `y` is link `x` in all that an acknowledgement outside RESOLVING leaves (R141). -/
structure AckKeeps (x y : Tie) : Prop where
  state : y.state = x.state
  accepted : y.accepted = x.accepted
  partnerToggle : y.partnerToggle = x.partnerToggle
  lastPair : y.lastPair = x.lastPair

theorem AckKeeps.rfl {x : Tie} : AckKeeps x x := ⟨.refl _, .refl _, .refl _, .refl _⟩

theorem nextPage_ackKeeps (x : Tie) : AckKeeps x x.nextPage := by
  unfold Tie.nextPage
  cases x.roleList with
  | cons b bs => exact ⟨rfl, rfl, rfl, rfl⟩
  | nil =>
    cases x.closeList with
    | cons c cs => exact ⟨rfl, rfl, rfl, rfl⟩
    | nil => cases x.holding <;> exact ⟨rfl, rfl, rfl, rfl⟩

theorem transmit_ackKeeps (x : Tie) : AckKeeps x x.transmit := by
  obtain h | ⟨b, -, -, h⟩ := x.transmit_cases <;> rw [h] <;> exact ⟨rfl, rfl, rfl, rfl⟩

/-- Outside RESOLVING an acknowledgement changes the link alone, and resolves nothing (R146, R148). -/
theorem acked_alone {s : State} (h : s.tie.state ≠ .resolving) (b : PageBody) : ∃ y : Tie, s.acked b = { s with tie := y } ∧
    AckKeeps s.tie y := by
  have hno : (s.tie.state == .resolving) = false := beq_eq_false_iff_ne.2 h
  have hresolve : (s.onTie fun t => { t with ownRoleAcked := true }).tryResolve =
      s.onTie fun t => { t with ownRoleAcked := true } := by
    unfold tryResolve
    split
    · exact if_neg (by simp [onTie, hno])
    · rfl
  have hpair : (s.onTie fun t => { t with confirmAcked := true }).tryPair = s.onTie fun t => { t with confirmAcked := true } := by
    unfold tryPair
    split
    · exact if_neg (by simp [onTie, hno])
    · rfl
  rw [acked, hresolve, hpair]
  split
  · exact ⟨_, rfl, rfl, rfl, rfl, rfl⟩
  · split
    · exact ⟨_, rfl, rfl, rfl, rfl, rfl⟩
    · exact ⟨_, rfl, .rfl⟩

/-- An ack field that resolves no attempt changes the link alone (R141). -/
theorem takeAck_alone {s : State} {ack : Option Bool}
    (h : s.tie.state ≠ .resolving ∨ s.tie.inFlight = none ∨ ack ≠ some s.tie.sendToggle) :
    ∃ y : Tie, s.takeAck ack = { s with tie := y } ∧ AckKeeps s.tie y := by
  by_cases hother : s.tie.inFlight = none ∨ ack ≠ some s.tie.sendToggle
  · exact ⟨s.tie, takeAck_other hother, .rfl⟩
  · obtain ⟨hflight, hack⟩ := not_or.1 hother
    obtain ⟨b, hb⟩ := Option.ne_none_iff_exists'.1 hflight
    obtain ⟨hstate, haccepted, htoggle, hpair⟩ := nextPage_ackKeeps (ackTaken s.tie)
    have hon : ({ s with tie := s.tie.acknowledged } : State).tie.state ≠ .resolving := by
      rw [acknowledged_eq]
      exact fun hr => h.resolve_right hother (hstate.symm.trans hr)
    obtain ⟨y, hy, hys, hya, hyt, hyp⟩ := acked_alone hon b
    rw [not_not.1 hack, takeAck_match hb, hy]
    exact ⟨y, rfl, hys.trans hstate, hya.trans haccepted, hyt.trans htoggle, hyp.trans hpair⟩

/-- A page with a body in a session, its ack field resolving no attempt (R141, R142). -/
theorem takePage_alone_ack {s : State} {p : Page} (hb : p.body ≠ .idle) (hd : s.tie.state ≠ .down)
    (hs : s.tie.sawAck = false ∨ p.ack ≠ none)
    (hf : s.tie.state ≠ .resolving ∨ s.tie.inFlight = none ∨ p.ack ≠ some s.tie.sendToggle) :
    ∃ y : Tie, AckKeeps s.tie y ∧
      (s.tie.partnerToggle = some p.toggle → s.takePage p = ({ s with tie := y } : State).transmit) ∧
      (s.tie.partnerToggle ≠ some p.toggle → s.takePage p =
        (({ s with tie := { y with partnerToggle := some p.toggle } } : State).takeBody p.body).transmit) := by
  obtain ⟨y, hack, hstate, haccepted, htoggle, hpair⟩ := takeAck_alone (s := { s with tie := noted s.tie p }) (ack := p.ack) hf
  have htake := takePage_session' hd hs
  rw [hack] at htake
  refine ⟨y, ⟨hstate, haccepted, htoggle, hpair⟩, fun ht => htake.trans (congrArg transmit (acceptPage_idle (.inr ?_))),
    fun ht => htake.trans (congrArg transmit ?_)⟩
  · exact htoggle.trans ht
  · exact acceptPage_taken hb fun h => ht (htoggle.symm.trans h)

/-- A SUMMARY page in DOWN begins attempt 1 and is counted (R144, R154). -/
theorem takePage_down_counts {s : State} {p : Page} {x : Summary} (hb : p.body = .summary x) (hd : s.tie.state = .down)
    (ht : s.tie.partnerToggle ≠ some p.toggle) : ∃ t, s.takePage p = t ∧ t.tie.state = .resolving ∧
      t.tie.accepted = min 65535 (s.tie.accepted + x.count) ∧ s.tieFollows t := by
  have htake := takePage_down_summary hd ht hb
  obtain ⟨-, hkeeps, hstate, -⟩ := attemptBegan_of (s := s) (x := (sessionOn s.tie p).countAccepted x) (partner := none)
    (confirm := none)
    (t := s.begunIn p (((sessionOn s.tie p).countAccepted x).attemptOn 1 s.nextSeed s.settings.preference none none).transmit)
    rfl rfl s.nextSeed_range
  obtain ⟨-, -, -, -, haccepted, -⟩ := hkeeps
  exact ⟨_, htake, hstate, haccepted, s.begunIn_follows p _ hstate⟩

end State

/-- Settles O56: the page in DOWN, and the page in a session as a duplicate, at a primary unit and in another state. -/
theorem summariesAreAccounted : Obligations.SummariesAreAccounted := by
  intro s x toggle ack line ha hop hr hl
  refine ⟨fun hd ht => ?_, fun hs hf hoff hd => ?_⟩
  · have hoff : s.tie.state ≠ .off := by rw [hd]; exact TieState.noConfusion
    obtain ⟨t, htake, hrest⟩ := State.takePage_down_counts (p := ⟨.summary x, toggle, ack⟩) rfl hd ht
    exact ⟨t, by rw [State.exec_page ha hop hoff hr hl, htake], hrest⟩
  · obtain ⟨y, ⟨hstate, haccepted, -⟩, hdup, hnew⟩ := State.takePage_alone_ack (p := ⟨.summary x, toggle, ack⟩)
      PageBody.noConfusion hd hs hf
    rw [State.exec_page ha hop hoff hr hl]
    by_cases ht : s.tie.partnerToggle = some toggle
    · rw [hdup ht]
      refine ⟨_, rfl, (Tie.transmit_state _).trans hstate, rfl, fun _ => rfl, fun _ => (State.transmit_ackKeeps _).accepted.trans haccepted,
        fun h => absurd ht h, fun _ h => absurd ht h⟩
    · have htake := hnew ht
      rw [State.takeBody_summary] at htake
      obtain ⟨heq, hother, hprimary⟩ :=
        ({ s with tie := { y with partnerToggle := some toggle } } : State).takeSummary_spec x
      have hplan (p : Fin 8) (c : PlanContent) := State.accountSummary_get (s := { s with tie := { y with partnerToggle := some toggle } })
        x (p := p) (c := c)
      have hnone := State.accountSummary_none (s := { s with tie := { y with partnerToggle := some toggle } }) x
      generalize ({ s with tie := { y with partnerToggle := some toggle } } : State).takeSummary x = u at *
      generalize ({ s with tie := { y with partnerToggle := some toggle } } : State).accountSummary x = v at *
      have htie : u.tie = ({ y with partnerToggle := some toggle } : Tie).countAccepted x := by rw [heq]
      rw [htake]
      refine ⟨u.transmit, rfl, ?_, ?_, fun h => hother fun hp => ?_, fun h => absurd h ht, fun _ => ⟨?_, ?_⟩, fun hp _ => ?_⟩
      · rw [State.transmit_tie, Tie.transmit_state, htie]
        exact hstate
      · rw [heq]
        rfl
      · exact (h.resolve_right ht) (hstate.symm.trans hp)
      · rw [State.transmit_tie, (State.transmit_session _).2.1, htie]
        rfl
      · rw [State.transmit_tie, (State.transmit_ackKeeps _).accepted, htie]
        exact congrArg (fun n => min 65535 (n + x.count)) haccepted
      · have haccounts : u.transmit.accounts = v.accounts := hprimary (hstate.trans hp)
        refine ⟨fun hactive => by rw [haccounts, hnone hactive], fun p c hactive hcontent a => ?_⟩
        intro peers net
        have hget := hplan p c hactive hcontent a
        have hnet (f : SlotSummary → Int) : x.netOver peers f = net f := by
          rw [Summary.netOver_eq]
          refine congrArg List.sum (List.map_congr_left fun m _ => ?_)
          cases x.slots.get m.slot <;> rfl
        rw [haccounts, hget]
        refine ⟨fun hen hne => ?_, fun hno => ?_⟩
        · rw [if_pos ⟨hen, hne⟩]
          refine ⟨rfl, rfl, ?_, ?_, fun i => ?_, x.contribution_currents peers, x.contribution_incomplete peers, rfl, rfl,
            rfl, rfl, ?_⟩
          · rw [← hnet]
            rfl
          · rw [← hnet]
            rfl
          · rw [← hnet]
            exact x.contribution_phn peers i
          · simp only [← hnet]
            exact x.contribution_clamped peers
        · exact if_neg fun ⟨hen, hne⟩ => hno.elim (fun h => Bool.false_ne_true (h.symm.trans hen)) hne

end Sys2Proof.Machine
end

section
/-! PROOFS. An accepted CLOSE page at a paired secondary (O57): the page read, the pair taken, the close at that pair. -/

/- The whole text is compiled as one file: these proofs are elaborated one after another, to stay within its memory. -/
set_option Elab.async false

namespace Sys2Proof.Machine

/-! ### The page read (8.1) -/

/-- The body of a CLOSE page with the given kind and reason bytes (8.1). -/
def closeBytes (index part : Nat) (kind reason : Byte) : List Byte :=
  leBytes 4 index ++ (leBytes 1 part ++ (leBytes 1 kind.toNat ++ leBytes 1 reason.toNat))

theorem closeBytes_length (index part : Nat) (kind reason : Byte) : (closeBytes index part kind reason).length = 7 := by
  simp [closeBytes]

theorem leBytes_one (b : Byte) : leBytes 1 b.toNat = [b] := by
  simp [leBytes]

/-- The sequence byte of a page (8.1). -/
def seqByte (toggle : Bool) (ack : Option Bool) : Nat := bitsOf [toggle, ack.getD false, ack.isSome]

theorem closePage_line (index part : Nat) (kind reason : Byte) (toggle : Bool) (ack : Option Bool) :
    closePage index part kind reason toggle ack = linePage 0x20 (seqByte toggle ack) (closeBytes index part kind reason) := by
  have hseq : toggle.toNat + 2 * (ack.getD false).toNat + 4 * ack.isSome.toNat = seqByte toggle ack := by
    cases ack with
    | none => cases toggle <;> rfl
    | some b => cases toggle <;> cases b <;> rfl
  rw [closePage, hseq, linePage, closeBytes_length]
  simp only [closeBytes, leBytes_one, List.append_assoc]
  rfl

/-- A CLOSE page reads by its kind: a close, or the page of a kind that 8.1 does not list (log 35). -/
theorem readPage_closePage {index part : Nat} (kind reason : Byte) (toggle : Bool) (ack : Option Bool)
    (hi : index < 256 ^ 4) (hp : part ≤ 255) :
    readPage (linePage 0x20 (seqByte toggle ack) (closeBytes index part kind reason)) =
      some ⟨(readCloseKind kind.toNat reason.toNat).elim .closeOther fun r => .close ⟨index, part, r⟩, toggle, ack⟩ := by
  have hlen := closeBytes_length index part kind reason
  have hseq : seqByte toggle ack < 8 := bitsOf_lt _
  rw [readPage_line (by decide) hseq (by omega)]
  have h0 := EndsWith.start (show closeBytes index part kind reason = leBytes 4 index ++ (leBytes 1 part ++
    (leBytes 1 kind.toNat ++ leBytes 1 reason.toNat)) from rfl)
  have h4 := h0.next (leBytes_length 4 _)
  have h5 := h4.next (leBytes_length 1 _)
  have h6 := h5.next (leBytes_length 1 _)
  have hread : readPageBody 0x20 (closeBytes index part kind reason) =
      some ((readCloseKind kind.toNat reason.toNat).elim .closeOther fun r => .close ⟨index, part, r⟩) := by
    have hcode (bs : List Byte) : readPageBody 0x20 bs = readClosePage bs := rfl
    rw [hcode]
    generalize closeBytes index part kind reason = bs at *
    rw [readClosePage, hlen, h0.stands.read hi, h4.stands.read (by omega), h5.stands.read kind.isLt, h6.last.read reason.isLt]
    cases readCloseKind kind.toNat reason.toNat <;> rfl
  rw [hread, Option.map_some, seqByte]
  simp only [bitOf_bitsOf]
  cases ack <;> rfl

namespace State

/-! ### The numbering (R156) -/

theorem setPair_accounts (s : State) (pair : Nat × Nat) : (s.setPair pair).accounts = (s.renumberedBy pair).accounts :=
  Table.ext_get fun a => by
    simp only [setPair, mapAccounts, renumberedBy, numberedBy, Table.get_each, Table.get_make]
    by_cases h : (s.accounts.get a).recordIndex = s.clock.index ∧ (s.accounts.get a).part = s.clock.part ∧
        (s.accounts.get a).flags.extended = false
    · rw [if_pos h]
      exact if_pos (by simp [h])
    · rw [if_neg h]
      exact if_neg (by simpa [and_assoc] using h)

theorem renumberedBy_linked (s : State) (pair : Nat × Nat) (x : Tie) (n : Notices) :
    (({ s with tie := x, notices := n } : State).renumberedBy pair).accounts = (s.renumberedBy pair).accounts :=
  Table.ext_get fun a => by
    simp only [renumberedBy, numberedBy, Table.get_make]

/-- The state numbered by the pair, the link and the notices besides as given (R156). -/
theorem setPair_spec (s : State) (pair : Nat × Nat) {x : Tie} (n : Notices) (hx : x.state = s.tie.state) {u : State}
    (hu : u = ({ s with tie := x, notices := n } : State).setPair pair) : (s.renumberedBy pair).ClosesAs u ∧
      u.tie = x ∧ u.notices = n ∧ u.clock = { s.clock with index := pair.1, part := pair.2 } ∧ s.sameButClose u := by
  have haccounts : u.accounts = (s.renumberedBy pair).accounts := by
    rw [hu, setPair_accounts, renumberedBy_linked]
  have heq : u = { s with
      accounts := u.accounts, tie := x, notices := n, clock := { s.clock with index := pair.1, part := pair.2 } } := by
    rw [hu]
    rfl
  generalize u.accounts = c at haccounts heq
  subst heq
  exact ⟨⟨haccounts, rfl, rfl, rfl, rfl, hx⟩, rfl, rfl, rfl, rfl⟩

theorem renumberedBy_enabled (s : State) (pair : Nat × Nat) : (s.renumberedBy pair).enabledAccounts = s.enabledAccounts := by
  simp only [enabledAccounts, isEnabled, renumberedBy]

theorem renumberedBy_formRecord (s : State) (pair : Nat × Nat) (a : Fin 16) (cause : CloseCause)
    (reason : Option CloseReason) : (s.renumberedBy pair).formRecord a cause reason =
      { s.formRecord a cause reason with index := (s.numberedBy pair a).1, part := (s.numberedBy pair a).2 } := by
  simp only [formRecord, renumberedBy, Table.get_make]
  rfl

theorem pairBelow_iff (p q : Nat × Nat) : pairBelow p q = true ↔ p.1 < q.1 ∨ p.1 = q.1 ∧ p.2 < q.2 := by
  simp [pairBelow]

/-- The pair that a CLOSE page's close is taken at, and PAIR_INDEX where it is not the page's own (R156). -/
theorem secondaryClose_pair {s : State} {b : CloseBody} {pair : Nat × Nat} (hpart : pair.2 < 255)
    (hlast : ∀ last, s.tie.lastPair = some last →
      (last.1 < b.index ∨ (last.1 = b.index ∧ last.2 < b.part) → pair = (b.index, b.part)) ∧
      (b.index < last.1 ∨ (b.index = last.1 ∧ b.part ≤ last.2) → pair = (last.1, last.2 + 1)))
    (hnone : s.tie.lastPair = none → pair = (b.index, b.part)) :
    ∃ n : Notices, s.secondaryClose b = (({ s with notices := n } : State).setPair pair).pageClose b.reason ∧
      ∀ last, s.tie.lastPair = some last → (b.index < last.1 ∨ (b.index = last.1 ∧ b.part ≤ last.2)) →
        n.latched.getLsbD 14 = true := by
  cases hl : s.tie.lastPair with
  | none =>
    refine ⟨s.notices, ?_, nofun⟩
    rw [hnone hl]
    simp only [secondaryClose, hl]
  | some last =>
    obtain ⟨habove, hbelow⟩ := hlast last hl
    by_cases h : last.1 < b.index ∨ last.1 = b.index ∧ last.2 < b.part
    · refine ⟨s.notices, ?_, fun l hs hle => ?_⟩
      · rw [habove h]
        simp only [secondaryClose, hl, (pairBelow_iff last (b.index, b.part)).2 h, if_true]
      · obtain rfl := Option.some.inj hs
        omega
    · have hraised := hbelow (by omega)
      have hfree : last.2 ≠ 255 := fun h255 => by
        rw [hraised] at hpart
        omega
      have hnot : pairBelow last (b.index, b.part) = false := Bool.eq_false_iff.2 fun hb => h ((pairBelow_iff _ _).1 hb)
      refine ⟨(s.latch .pairIndex).notices, ?_, fun _ _ _ => ?_⟩
      · rw [hraised, ← latch_eq]
        simp only [secondaryClose, hl, hnot, Bool.false_eq_true, if_false, hfree]
      · rw [latch_getLsbD]
        simp [Notice.bit]

/-! ### The close at the pair set (R105, R107, R110) -/

/-- The accounts of which the close of a CLOSE page forms records (R105, R107). -/
def pageForms (s : State) (reason : Option CloseReason) : List (Fin 16) :=
  if reason = none then (if s.normalForms then s.enabledAccounts else []) else s.partialFormed s.enabledAccounts

/-- The clock's pair after the close of a CLOSE page (R95, R107). -/
def pairAfter (s : State) (reason : Option CloseReason) : Nat × Nat :=
  if reason = none then s.clock.nextPair else (s.clock.index, s.partAfter (s.pageForms reason))

theorem pageClose_eq {s : State} (h : s.tie.state ≠ .pairedPrimary) (reason : Option CloseReason) : s.pageClose reason =
    { s.notePair.settleClose s.enabledAccounts (s.pageForms reason) .closePage reason (s.pairAfter reason).1
        (s.pairAfter reason).2 true reason.isNone with
      clock := s.clock.restart (s.pairAfter reason) true false } := by
  cases reason with
  | some r => rfl
  | none =>
    have hhanded : s.handed none = s.notePair := congrArg notePair (if_neg fun hp => h (beq_iff_eq.1 hp))
    have hclose : s.pageClose none = s.normalClose .closePage true false := rfl
    rw [hclose, normalClose_eq, hhanded]
    rfl

/-- The close of a CLOSE page from a state that closes as `s` does. -/
theorem pageClose_spec {s u : State} (h : s.ClosesAs u) (hp : u.tie.state ≠ .pairedPrimary) (reason : Option CloseReason) :
    s.closed (u.pageClose reason) (u.pageForms reason) .closePage reason (u.pairAfter reason).1 (u.pairAfter reason).2 true
      reason.isNone ∧
    (u.pageClose reason).clock = u.clock.restart (u.pairAfter reason) true false ∧
    (u.pageClose reason).tie = { u.tie with lastPair := some (u.clock.index, u.clock.part) } ∧
    u.sameButClose (u.pageClose reason) ∧
    ∀ i, u.notices.latched.getLsbD i = true → (u.pageClose reason).notices.latched.getLsbD i = true := by
  have henabled : u.enabledAccounts = s.enabledAccounts := by simp only [enabledAccounts, h.isEnabled]
  have hformed : ∀ a ∈ u.pageForms reason, s.isEnabled a = true := fun a ha => by
    rw [← s.mem_enabledAccounts, ← henabled]
    unfold pageForms at ha
    split at ha
    · split at ha
      · exact ha
      · cases ha
    · exact List.mem_of_mem_take ha
  have hnoted : s.ClosesAs u.notePair := ⟨h.accounts, h.queue, h.length, h.settings, h.selector, h.tie⟩
  have hclosed := hnoted.closed hformed .closePage reason (u.pairAfter reason).1 (u.pairAfter reason).2 true reason.isNone
  have hlatched := u.notePair.settleClose_latched s.enabledAccounts (u.pageForms reason) .closePage reason
    (u.pairAfter reason).1 (u.pairAfter reason).2 true reason.isNone
  have hrest := u.notePair.settleClose_eq s.enabledAccounts (u.pageForms reason) .closePage reason
    (u.pairAfter reason).1 (u.pairAfter reason).2 true reason.isNone
  rw [pageClose_eq hp, henabled]
  generalize u.notePair.settleClose s.enabledAccounts (u.pageForms reason) .closePage reason (u.pairAfter reason).1
    (u.pairAfter reason).2 true reason.isNone = t at *
  refine ⟨closed_congr hclosed, rfl, ?_, ?_, fun i hi => ?_⟩
  · rw [hrest]
    rfl
  · rw [hrest]
    rfl
  · have hn : u.notePair.notices = u.notices := rfl
    show t.notices.latched.getLsbD i = true
    rw [hlatched i, hn, hi]
    rfl

/-- Of which accounts the close of a CLOSE page forms records, and the pair behind it, below the greatest index and part
(R95, R105, R107). -/
theorem pageForms_spec {s : State} (hi : s.clock.index < Config.max32) (hp : s.clock.part < 255) :
    (s.queue.length + s.enabledAccounts.length ≤ 32 → s.pageForms none = s.enabledAccounts) ∧
    (32 < s.queue.length + s.enabledAccounts.length → s.enabledAccounts ≠ [] → s.pageForms none = []) ∧
    s.pairAfter none = (s.clock.index + 1, 0) ∧
    (∀ r, r ≠ none → s.pageForms r = s.enabledAccounts.take (48 - s.queue.length)) ∧
    ∀ r, r ≠ none → s.pairAfter r =
      (s.clock.index, if s.enabledAccounts.take (48 - s.queue.length) = [] then s.clock.part else s.clock.part + 1) := by
  have hpartial : ∀ r, r ≠ none → s.pageForms r = s.enabledAccounts.take (48 - s.queue.length) := fun r hr => by
    rw [pageForms, if_neg hr, partialFormed, partialPlaces, if_neg (Nat.ne_of_lt hp)]
    rfl
  refine ⟨fun hroom => ?_, fun hfull hne => ?_, ?_, hpartial, fun r hr => ?_⟩
  · by_cases hne : s.enabledAccounts = []
    · rw [pageForms, if_pos rfl, hne, ite_self]
    · rw [pageForms, if_pos rfl, if_pos ((normalForms_room_iff hi hne).2 hroom)]
  · rw [pageForms, if_pos rfl, if_neg fun h => Nat.not_le_of_lt hfull ((normalForms_room_iff hi hne).1 h)]
  · rw [pairAfter, if_pos rfl, Clock.nextPair, if_pos hi]
  · rw [pairAfter, if_neg hr, hpartial r hr, partAfter_eq]

/-- The close of a CLOSE page at pair `pair`, by its kind (R95, R105, R107). -/
theorem pageClose_at {s u : State} {pair : Nat × Nat} (h : s.ClosesAs u) (hp : u.tie.state ≠ .pairedPrimary)
    (hpair : (u.clock.index, u.clock.part) = pair) (hi : pair.1 < Config.max32) (hpart : pair.2 < 255)
    (reason : Option CloseReason) {t : State} (ht : t = u.pageClose reason) :
    (reason = none → t.clock.index = pair.1 + 1 ∧ t.clock.part = 0 ∧
      (s.queue.length + s.enabledAccounts.length ≤ 32 →
        s.closed t s.enabledAccounts .closePage none (pair.1 + 1) 0 true true) ∧
      (32 < s.queue.length + s.enabledAccounts.length → s.enabledAccounts ≠ [] →
        s.closed t [] .closePage none (pair.1 + 1) 0 true true)) ∧
    (reason ≠ none → t.clock.index = pair.1 ∧
      t.clock.part = (if s.enabledAccounts.take (48 - s.queue.length) = [] then pair.2 else pair.2 + 1) ∧
      s.closed t (s.enabledAccounts.take (48 - s.queue.length)) .closePage reason pair.1
        (if s.enabledAccounts.take (48 - s.queue.length) = [] then pair.2 else pair.2 + 1) true false) := by
  subst hpair
  obtain ⟨hclosed, hclock, -⟩ := pageClose_spec h hp reason
  obtain ⟨hroom, hfull, hnext, hpartial, hbehind⟩ := pageForms_spec hi hpart
  have henabled : u.enabledAccounts = s.enabledAccounts := by simp only [enabledAccounts, h.isEnabled]
  rw [h.queue, henabled] at hroom hfull hpartial hbehind
  rw [← ht] at hclosed hclock
  rw [hclock]
  refine ⟨fun hr => ?_, fun hr => ?_⟩
  · subst hr
    rw [hnext] at hclosed ⊢
    refine ⟨rfl, rfl, fun hle => ?_, fun hlt hne => ?_⟩
    · rw [hroom hle] at hclosed
      exact hclosed
    · rw [hfull hlt hne] at hclosed
      exact hclosed
  · have hsome : reason.isNone = false := Option.isNone_eq_false_iff.2 (Option.isSome_iff_ne_none.2 hr)
    rw [hpartial reason hr, hbehind reason hr, hsome] at hclosed
    rw [hbehind reason hr]
    exact ⟨rfl, rfl, hclosed⟩

/-! ### The page taken (R156) -/

/-- A CLOSE page of a listed kind accepted at a PAIRED_SECONDARY unit: the close is made from a state numbered by the pair. -/
theorem takePage_close {s : State} {p : Page} {b : CloseBody} {pair : Nat × Nat} (hb : p.body = .close b)
    (hs : s.tie.sawAck = false ∨ p.ack ≠ none) (hstate : s.tie.state = .pairedSecondary)
    (ht : s.tie.partnerToggle ≠ some p.toggle) (hpart : pair.2 < 255)
    (hlast : ∀ last, s.tie.lastPair = some last →
      (last.1 < b.index ∨ (last.1 = b.index ∧ last.2 < b.part) → pair = (b.index, b.part)) ∧
      (b.index < last.1 ∨ (b.index = last.1 ∧ b.part ≤ last.2) → pair = (last.1, last.2 + 1)))
    (hnone : s.tie.lastPair = none → pair = (b.index, b.part)) :
    ∃ u, s.takePage p = (u.pageClose b.reason).transmit ∧ (s.renumberedBy pair).ClosesAs u ∧
      u.tie.state ≠ .pairedPrimary ∧ u.clock = { s.clock with index := pair.1, part := pair.2 } ∧ s.sameButClose u ∧
      ∀ last, s.tie.lastPair = some last → (b.index < last.1 ∨ (b.index = last.1 ∧ b.part ≤ last.2)) →
        u.notices.latched.getLsbD 14 = true := by
  have hd : s.tie.state ≠ .down := by rw [hstate]; exact TieState.noConfusion
  obtain ⟨y, ⟨hys, -, -, hyp⟩, -, hnew⟩ := takePage_alone_ack (p := p) (by rw [hb]; exact PageBody.noConfusion) hd hs
    (.inl (by rw [hstate]; exact TieState.noConfusion))
  have htaken : ({ s with tie := { y with partnerToggle := some p.toggle } } : State).takeBody p.body =
      ({ s with tie := { y with partnerToggle := some p.toggle } } : State).secondaryClose b := by
    have hon : y.state = .pairedSecondary := hys.trans hstate
    rw [hb]
    simp only [takeBody, hon]
  obtain ⟨n, hclose, hlatched⟩ := secondaryClose_pair (s := { s with tie := { y with partnerToggle := some p.toggle } })
    (b := b) hpart (by rw [← hyp] at hlast; exact hlast) (by rw [← hyp] at hnone; exact hnone)
  obtain ⟨hcloses, htie, hnotices, hclock, hsame⟩ :=
    s.setPair_spec pair (x := { y with partnerToggle := some p.toggle }) n hys rfl
  have hu : ({ s with tie := { y with partnerToggle := some p.toggle }, notices := n } : State).setPair pair =
    ({ ({ s with tie := { y with partnerToggle := some p.toggle } } : State) with notices := n } : State).setPair pair := rfl
  rw [← hu] at hclose
  generalize ({ s with tie := { y with partnerToggle := some p.toggle }, notices := n } : State).setPair pair = u at *
  refine ⟨u, (hnew ht).trans (congrArg transmit (htaken.trans hclose)), hcloses, fun h => ?_, hclock, hsame, ?_⟩
  · rw [htie] at h
    exact TieState.noConfusion (h.symm.trans (hys.trans hstate))
  · rw [hnotices, ← hyp]
    exact hlatched

/-- A CLOSE page of a kind that 8.1 does not list makes no close (log 35). -/
theorem takePage_closeOther {s : State} {p : Page} (hb : p.body = .closeOther)
    (hs : s.tie.sawAck = false ∨ p.ack ≠ none) (hstate : s.tie.state = .pairedSecondary)
    (ht : s.tie.partnerToggle ≠ some p.toggle)
    (hf : s.tie.inFlight = none ∨ p.ack ≠ some s.tie.sendToggle ∧ 0 < s.tie.sendCount) :
    s.takePage p = { s with tie := takenOn s.tie p } := by
  have hd : s.tie.state ≠ .down := by rw [hstate]; exact TieState.noConfusion
  have htaken : ({ s with tie := takenOn s.tie p } : State).takeBody p.body = { s with tie := takenOn s.tie p } := by
    have hon : (takenOn s.tie p).state = .pairedSecondary := hstate
    rw [hb]
    simp only [takeBody, hon]
  rw [takePage_accepted hd hs (hf.imp_right And.left) (by rw [hb]; exact PageBody.noConfusion) ht, htaken]
  exact transmit_takenIn (hf.imp_right And.right)

end State

/-- Settles O57: a page of an unlisted kind, and the close at the pair of the page or behind the last close pair. -/
theorem secondaryFollowsClosePages : Obligations.SecondaryFollowsClosePages := by
  refine ⟨fun s index part kind reason toggle ack line ha hop hi hp hk1 hk2 hl hs hstate ht hf => ?_,
    fun s b kind reason toggle ack line ha hop hr hk hl hs hstate ht pair hpi hpp hlast hnone => ?_⟩
  · have hoff : s.tie.state ≠ .off := by rw [hstate]; exact TieState.noConfusion
    have hkind : readCloseKind kind.toNat reason.toNat = none := by
      have h1 : kind.toNat ≠ 1 := fun h => hk1 (BitVec.eq_of_toNat_eq h)
      have h2 : kind.toNat ≠ 2 := fun h => hk2 (BitVec.eq_of_toNat_eq h)
      rw [readCloseKind, if_neg h1, if_neg h2]
    have hread := readPage_closePage kind reason toggle ack (Nat.lt_succ_of_le hi) hp
    rw [hkind] at hread
    rw [closePage_line] at hl
    rw [State.exec_line ha hop hoff (by rw [closeBytes_length]; decide) hread hl]
    exact congrArg _ (State.takePage_closeOther rfl hs hstate ht hf)
  · have hoff : s.tie.state ≠ .off := by rw [hstate]; exact TieState.noConfusion
    have hkind : readCloseKind kind.toNat reason.toNat = some b.reason := by
      obtain ⟨rfl, hb⟩ | ⟨rfl, hb, hcode⟩ := hk
      · rw [hb]
        rfl
      · obtain ⟨r, hbr⟩ := Option.ne_none_iff_exists'.1 hb
        obtain ⟨-, -, hother⟩ := hr
        rw [← hcode, hbr]
        exact congrArg (fun r => some (some r)) (readReason_of fun x hx => hother x (by rw [hbr, hx]))
    have hread := readPage_closePage kind reason toggle ack hr.1 hr.2.1
    rw [hkind] at hread
    rw [closePage_line] at hl
    rw [State.exec_line ha hop hoff (by rw [closeBytes_length]; decide) hread hl]
    obtain ⟨u, htake, hcloses, hu, hclock, hsame, hpairIndex⟩ :=
      State.takePage_close (p := ⟨.close b, toggle, ack⟩) rfl hs hstate ht hpp hlast hnone
    obtain ⟨hclosed, hclock', htie, hkept, hmono⟩ := State.pageClose_spec hcloses hu b.reason
    have hat := State.pageClose_at hcloses hu (pair := pair) (by rw [hclock]) hpi hpp b.reason rfl
    have hqueue : (s.renumberedBy pair).queue = s.queue := rfl
    rw [State.renumberedBy_enabled, hqueue] at hat
    generalize u.pageClose b.reason = t at *
    obtain ⟨hnormal, hpartial⟩ := hat
    intro record places
    have hrecords (formed : List (Fin 16)) {n k : Nat} {x y : Bool}
        (h : (s.renumberedBy pair).closed t formed .closePage b.reason n k x y) : t.queue = s.queue ++ formed.map record := by
      rw [h.1]
      simp only [State.renumberedBy_formRecord]
      rfl
    rw [hclock] at hclock'
    refine ⟨t.transmit, congrArg _ htake, ?_, ?_, ?_, ?_, ?_, ?_, fun last hl _ hle => ?_, fun hr => ?_, fun hr => ?_, ?_⟩
    · rw [State.transmit_tie, (State.transmit_ackKeeps _).lastPair, htie, hclock]
    · exact congrArg Clock.position hclock'
    · exact congrArg Clock.aligned hclock'
    · exact congrArg Clock.lateOpen hclock'
    · exact congrArg Clock.pendingLength hclock'
    · exact congrArg Clock.length hclock'
    · exact hmono 14 (hpairIndex last hl hle)
    · obtain ⟨hi, hp, hroom, hfull⟩ := hnormal hr
      rw [hr] at hrecords
      refine ⟨hi, hp, fun hle => ⟨hrecords _ (hroom hle), State.closed_congr (hroom hle)⟩,
        fun hlt hne => ⟨?_, State.closed_congr (hfull hlt hne)⟩⟩
      exact (hrecords _ (hfull hlt hne)).trans (List.append_nil _)
    · obtain ⟨hi, hp, hformed⟩ := hpartial hr
      refine ⟨hi, hrecords _ hformed, fun hne => ?_, fun hnil => ?_, State.closed_congr hformed⟩
      · exact hp.trans (if_neg hne)
      · exact hp.trans (if_pos hnil)
    · exact (congrArg (fun v : State => ({ v with
        accounts := s.accounts, queue := s.queue, clock := s.clock, notices := s.notices, tie := s.tie } : State)) hkept).trans
          hsame

end Sys2Proof.Machine
end

section
/-! PROOFS. Net power and currents of a contribution (O16), and the square root rounded half up. -/

/- The whole text is compiled as one file: these proofs are elaborated one after another, to stay within its memory. -/
set_option Elab.async false

namespace Sys2Proof.Machine

/-! ### The square root -/

theorem isqrtBits_spec (k n r : Nat) (hlow : r * r ≤ n) (hhigh : n < (r + 2 ^ k) * (r + 2 ^ k)) :
    isqrtBits k n r * isqrtBits k n r ≤ n ∧ n < (isqrtBits k n r + 1) * (isqrtBits k n r + 1) := by
  induction k generalizing r with
  | zero => exact ⟨hlow, hhigh⟩
  | succ k ih =>
    rw [isqrtBits]
    split
    · next h => exact ih _ h (by rwa [Nat.add_assoc, ← Nat.two_mul, ← Nat.pow_succ'])
    · next h => exact ih _ hlow (Nat.lt_of_not_le h)

/-- The integer square root is the largest number whose square is not above. -/
theorem isqrt_spec (n : Nat) : isqrt n * isqrt n ≤ n ∧ n < (isqrt n + 1) * (isqrt n + 1) := by
  refine isqrtBits_spec _ n 0 (Nat.zero_le _) ?_
  calc n < 2 ^ (n.log2 + 1) := Nat.lt_log2_self
    _ ≤ 2 ^ ((n.log2 / 2 + 1) + (n.log2 / 2 + 1)) := Nat.pow_le_pow_right (by decide) (by omega)
    _ = (0 + 2 ^ (n.log2 / 2 + 1)) * (0 + 2 ^ (n.log2 / 2 + 1)) := by rw [Nat.zero_add, Nat.pow_add]

/-- The square root of a quotient rounded half up is the exact one rounded half up. -/
theorem sqrtHalfUp_eq (num : Nat) {den : Nat} (hden : 0 < den) :
    sqrtHalfUp num den = ⌊Real.sqrt ((num : ℝ) / den) + 1 / 2⌋₊ := by
  obtain ⟨hlow, hhigh⟩ := isqrt_spec (4 * num / den)
  have hpos : (0 : ℝ) < den := Nat.cast_pos.2 hden
  have hlow' := (Nat.le_div_iff_mul_le hden).1 hlow
  have hhigh' := (Nat.div_lt_iff_lt_mul hden).1 hhigh
  rw [sqrtHalfUp]
  generalize isqrt (4 * num / den) = k at *
  have hk : (k : ℝ) ≤ 2 * Real.sqrt (num / den) := by
    have h : ((k / 2 : ℝ)) ≤ Real.sqrt (num / den) := Real.le_sqrt_of_sq_le (by
      rw [le_div_iff₀ hpos]
      have h4 : ((k * k * den : Nat) : ℝ) ≤ (4 * num : Nat) := Nat.cast_le.2 hlow'
      push_cast at h4
      nlinarith)
    linarith
  have hk1 : 2 * Real.sqrt (num / den) < k + 1 := by
    have h : Real.sqrt (num / den) < (k + 1) / 2 := (Real.sqrt_lt' (by positivity)).2 (by
      rw [div_lt_iff₀ hpos]
      have h4 : ((4 * num : Nat) : ℝ) < ((k + 1) * (k + 1) * den : Nat) := Nat.cast_lt.2 hhigh'
      push_cast at h4
      nlinarith)
    linarith
  symm
  rw [Nat.floor_eq_iff (by positivity)]
  have hm : 2 * ((k + 1) / 2) ≤ k + 1 := Nat.mul_div_le _ _
  have hm1 : k + 1 < 2 * ((k + 1) / 2) + 2 := by omega
  generalize (k + 1) / 2 = m at *
  have hm' : 2 * (m : ℝ) ≤ k + 1 := by exact_mod_cast hm
  have hm1' : (k : ℝ) + 1 ≤ 2 * m + 1 := by exact_mod_cast Nat.lt_succ_iff.1 hm1
  constructor <;> linarith

theorem maxFin_three (f : Fin 3 → Nat) : maxFin f = max (f 0) (max (f 1) (f 2)) := by
  have h : maxFin f = max (max (max 0 (f 0)) (f 1)) (f 2) := rfl
  rw [h, Nat.zero_max, Nat.max_assoc]

theorem sumFin_three (f : Fin 3 → Int) : sumFin f = f 0 + f 1 + f 2 := by
  have h : sumFin f = 0 + f 0 + f 1 + f 2 := rfl
  rw [h, Int.zero_add]

/-! ### Sums over taps (R60, R61, R73) -/

theorem netOver_eq (taps : List ExportMember) (f : Fin 8 → Int) :
    netOver taps f = (taps.map fun m => signed m.plus (f m.tap)).sum :=
  congrArg List.sum (List.map_congr_left fun m _ => (signed_eq m.plus (f m.tap)).symm)

section
variable (ev : CompletedWindow) (taps : List ExportMember)

/-- The sum of a tap's phases. -/
theorem netOver_phases (f : Fin 8 → Fin 3 → Int) : netOver taps (fun k => sumFin (f k)) =
    (taps.map fun m => signed m.plus (f m.tap 0 + f m.tap 1 + f m.tap 2)).sum := by
  rw [netOver_eq]
  simp only [sumFin_three]

/-- The current of a net contribution at an order: the largest phase magnitude, rounded half up (R73). -/
theorem CompletedWindow.netCurrent_eq (i : Fin 40) {size : Fin 3 → Nat}
    (hsize : ∀ p, size p = min 4294967295 ⌊Real.sqrt
      (((netOver taps fun k => (ev.phasor (currentChannel k p) i).re) ^ 2 +
        (netOver taps fun k => (ev.phasor (currentChannel k p) i).im) ^ 2 : Int) : ℝ) + 1 / 2⌋₊) :
    ev.netCurrent taps i = max (size 0) (max (size 1) (size 2)) := by
  have hroot (a b : Int) : sqrtHalfUp (a * a + b * b).natAbs 1 = ⌊Real.sqrt ((a ^ 2 + b ^ 2 : Int) : ℝ) + 1 / 2⌋₊ := by
    have habs : (((a * a + b * b).natAbs : Nat) : ℝ) = ((a ^ 2 + b ^ 2 : Int) : ℝ) := by
      rw [Nat.cast_natAbs, abs_of_nonneg (by nlinarith [mul_self_nonneg a, mul_self_nonneg b]), pow_two, pow_two]
    rw [sqrtHalfUp_eq _ Nat.one_pos, habs, Nat.cast_one, div_one]
  rw [CompletedWindow.netCurrent, maxFin_three, hsize, hsize, hsize]
  simp only [hroot, Config.max32]

theorem CompletedWindow.tapAbsent_iff (k : Fin 8) :
    ev.tapAbsent k = true ↔ ∃ l ∈ tapLanes k, ev.table.lanesDown.get l = true := by
  rw [CompletedWindow.tapAbsent, List.any_eq_true]

/-- The channels that taps use (R58). -/
theorem CompletedWindow.mem_usedChannels (ch : Fin 30) : ch ∈ ev.usedChannels taps ↔
    ∃ m ∈ taps, ∃ p : Fin 3, ch = currentChannel m.tap p ∨ ch = voltageChannel (ev.binding.get m.tap) p := by
  simp [CompletedWindow.usedChannels]

theorem CompletedWindow.anyFlag_iff (f : ChannelEntry → Bool) : ev.anyFlag taps f = true ↔
    ∃ ch, (∃ m ∈ taps, ∃ p : Fin 3, ch = currentChannel m.tap p ∨ ch = voltageChannel (ev.binding.get m.tap) p) ∧
      f (ev.table.entries.get ch) = true ∧ (ev.table.entries.get ch).unused = false := by
  simp only [CompletedWindow.anyFlag, List.any_eq_true, ev.mem_usedChannels taps, Bool.and_eq_true, Bool.not_eq_true']

end

theorem overPower_iff (z : Int) : overPower z = true ↔ 1000000000000000 < z.natAbs := decide_eq_true_iff

/-- Settles O16: each part of a contribution from the sums over its present taps. -/
theorem netPowerOfWindow : Obligations.NetPowerOfWindow := by
  intro ev taps here v c P Q net energy
  have hP (i : Fin 40) : netOver here (ev.tapP i) = net (P i) := netOver_phases here (P i)
  have hQ : netOver here ev.tapQ = net Q := netOver_phases here Q
  refine ⟨?_, ?_, fun i => ?_, ?_, ?_, ?_, ⟨rfl, ?_, ?_⟩, rfl, rfl⟩
  · show energyProduct _ (netOver here (ev.tapP 0)) = _
    rw [hP]
    rfl
  · show energyProduct _ (netOver here ev.tapQ) = _
    rw [hQ]
    rfl
  · rw [← hP]
    simp only [CompletedWindow.contribution, Table.get_each, Table.get_make]
    rfl
  · rw [← hP, ← hQ]
    simp only [← hP, CompletedWindow.contribution, Bool.or_eq_true, List.any_eq_true, overPower_iff, Table.get_make,
      or_assoc, List.mem_finRange, true_and]
    rfl
  · simp only [CompletedWindow.contribution, List.any_eq_true, ev.tapAbsent_iff]
  · intro part size i
    have hpart (p : Fin 3) (f : Phasor → Int) : netOver here (fun k => f (ev.phasor (currentChannel k p) i)) = part p i f :=
      netOver_eq here _
    refine (Table.get_make ..).trans (ev.netCurrent_eq here i (size := fun p => size p i) fun p => ?_)
    rw [hpart p (·.re), hpart p (·.im)]
  · exact ev.anyFlag_iff here (·.held)
  · exact ev.anyFlag_iff here (·.clip)

end Sys2Proof.Machine
end

section
/-! PROOFS. The summary of a completed window (O55): its slots, and in flight, held or coalesced. -/

/- The whole text is compiled as one file: these proofs are elaborated one after another, to stay within its memory. -/
set_option Elab.async false

namespace Sys2Proof.Machine

/-! ### The slots of a summary (R151) -/

theorem over64_iff (z : Int) : over64 z = true ↔ 9223372036854775807 < z.natAbs := decide_eq_true_iff

theorem clampInt_64 (z : Int) : clampInt int64Max z = max (-9223372036854775807) (min 9223372036854775807 z) := rfl

/-- The members of a slot that a completed window holds present (R151). -/
def CompletedWindow.here (ev : CompletedWindow) (taps : List ExportMember) : List ExportMember :=
  taps.filter fun m => ev.ownsTap.get m.tap && !ev.tapAbsent m.tap

section
variable (ev : CompletedWindow) (taps : List ExportMember)

theorem CompletedWindow.here_eq : ev.here taps = taps.filter fun m =>
    ev.ownsTap.get m.tap && (tapLanes m.tap).all fun l => !ev.table.lanesDown.get l := by
  unfold CompletedWindow.here CompletedWindow.tapAbsent
  simp only [List.not_any_eq_all_not]

theorem CompletedWindow.slotSummary_absent : (ev.slotSummary taps).absent = true ↔
    ∃ m ∈ taps, ev.ownsTap.get m.tap = false ∨ ∃ l ∈ tapLanes m.tap, ev.table.lanesDown.get l = true := by
  simp only [CompletedWindow.slotSummary, List.any_eq_true, Bool.not_eq_true', Bool.and_eq_false_iff,
    Bool.not_eq_false', ev.tapAbsent_iff]

/-- The products of a slot: the signed sums of its present members, times n, held (R151). -/
theorem CompletedWindow.slotSummary_products {product : (Fin 8 → Fin 3 → Int) → Int} {P : Fin 40 → Fin 8 → Fin 3 → Int}
    {Q : Fin 8 → Fin 3 → Int} (hproduct : ∀ f, netOver (ev.here taps) (fun k => sumFin (f k)) * ev.table.n = product f)
    (hP : ∀ i, ev.tapP i = fun k => sumFin (P i k)) (hQ : ev.tapQ = fun k => sumFin (Q k)) :
    (ev.slotSummary taps).p1n = clampInt int64Max (product (P 0)) ∧
    (ev.slotSummary taps).q1n = clampInt int64Max (product Q) ∧
    (∀ i, (ev.slotSummary taps).phn.get i = clampInt int64Max (product (P (order40 i)))) ∧
    ((ev.slotSummary taps).saturated = true ↔ 9223372036854775807 < (product (P 0)).natAbs ∨
      9223372036854775807 < (product Q).natAbs ∨ ∃ i, 9223372036854775807 < (product (P (order40 i))).natAbs) := by
  have hone : netOver (ev.here taps) (ev.tapP order1) * ev.table.n = product (P 0) := by rw [hP, hproduct]; rfl
  have hre : netOver (ev.here taps) ev.tapQ * ev.table.n = product Q := by rw [hQ, hproduct]
  have hany (i : Fin 39) : netOver (ev.here taps) (ev.tapP (order40 i)) * ev.table.n = product (P (order40 i)) := by
    rw [hP, hproduct]
  refine ⟨congrArg (clampInt int64Max) hone, congrArg (clampInt int64Max) hre, fun i => ?_, ?_⟩
  · rw [← hany]
    simp only [CompletedWindow.slotSummary, Table.get_each, Table.get_make]
    rfl
  · simp only [← hany, ← hone, ← hre, CompletedWindow.slotSummary, Bool.or_eq_true, List.any_eq_true, over64_iff, Table.get_make,
      or_assoc, List.mem_finRange, true_and]
    rfl

/-- A channel flag in a summary: of a channel that a present member of a slot uses (R151). -/
theorem CompletedWindow.slotFlag_iff (slots : Table (List ExportMember) 4) (f : ChannelEntry → Bool) :
    ev.slotFlag slots f = true ↔ ∃ ch, (∃ j, ∃ m ∈ ev.here (slots.get j), ∃ q : Fin 3,
      ch = currentChannel m.tap q ∨ ch = voltageChannel (ev.binding.get m.tap) q) ∧ f (ev.table.entries.get ch) = true := by
  have hdef : ev.slotFlag slots f = (List.finRange 4).any fun j =>
    (ev.usedChannels (ev.here (slots.get j))).any fun c => f (ev.table.entries.get c) := rfl
  rw [hdef]
  simp only [List.any_eq_true, List.mem_finRange, true_and, ev.mem_usedChannels]
  exact ⟨fun ⟨j, ch, hch, hf⟩ => ⟨ch, ⟨j, hch⟩, hf⟩, fun ⟨ch, ⟨j, hch⟩, hf⟩ => ⟨j, ch, hch, hf⟩⟩

/-- Which slots a summary has, and what is in them (R151). -/
theorem CompletedWindow.summary_slots (slots : Table (List ExportMember) 4) (j : Fin 4) :
    ((ev.summary slots).slots.get j = none ↔ slots.get j = []) ∧
    ∀ sl, (ev.summary slots).slots.get j = some sl → sl = ev.slotSummary (slots.get j) := by
  have hget : (ev.summary slots).slots.get j = if (slots.get j).isEmpty then none else some (ev.slotSummary (slots.get j)) :=
    Table.get_each ..
  rw [hget]
  cases slots.get j with
  | nil => exact ⟨iff_of_true rfl rfl, nofun⟩
  | cons m ms => exact ⟨iff_of_false nofun nofun, fun sl h => (Option.some.inj h).symm⟩

end

/-! ### Coalescing (R152) -/

theorem SlotSummary.merge_spec (k l : SlotSummary) : (k.merge l).p1n = clampInt int64Max (k.p1n + l.p1n) ∧
    (k.merge l).q1n = clampInt int64Max (k.q1n + l.q1n) ∧
    (∀ i, (k.merge l).phn.get i = clampInt int64Max (k.phn.get i + l.phn.get i)) ∧
    ((k.merge l).saturated = true ↔ k.saturated = true ∨ l.saturated = true ∨
      9223372036854775807 < (k.p1n + l.p1n).natAbs ∨ 9223372036854775807 < (k.q1n + l.q1n).natAbs ∨
      ∃ i, 9223372036854775807 < (k.phn.get i + l.phn.get i).natAbs) ∧
    (∀ i, (k.merge l).currents.get i = max (k.currents.get i) (l.currents.get i)) ∧
    (k.merge l).absent = (k.absent || l.absent) := by
  refine ⟨rfl, rfl, fun i => Table.get_each .., ?_, fun i => Table.get_each .., rfl⟩
  simp only [SlotSummary.merge, Bool.or_eq_true, List.any_eq_true, over64_iff, or_assoc, List.mem_finRange, true_and]

section
variable (a x : Summary) (j : Fin 4)

theorem Summary.merge_slot : (a.merge x).slots.get j = mergeSlot (a.slots.get j) (x.slots.get j) := Table.get_each ..

theorem Summary.merge_none : (a.merge x).slots.get j = none ↔ a.slots.get j = none ∧ x.slots.get j = none := by
  rw [Summary.merge_slot]
  cases a.slots.get j <;> cases x.slots.get j <;> simp [mergeSlot]

theorem Summary.merge_both {k l : SlotSummary} (hk : a.slots.get j = some k) (hl : x.slots.get j = some l) :
    (a.merge x).slots.get j = some (k.merge l) := by
  rw [Summary.merge_slot, hk, hl]
  rfl

/-- A slot that one of two summaries has is marked absent (R152). -/
theorem Summary.merge_one {k : SlotSummary}
    (h : a.slots.get j = some k ∧ x.slots.get j = none ∨ a.slots.get j = none ∧ x.slots.get j = some k) :
    (a.merge x).slots.get j = some { k with absent := true } := by
  rw [Summary.merge_slot]
  obtain ⟨h1, h2⟩ | ⟨h1, h2⟩ := h <;> rw [h1, h2] <;> rfl

theorem Summary.merge_saturated : (a.merge x).countSaturated = true ↔
    a.countSaturated = true ∨ x.countSaturated = true ∨ 4294967295 < a.count + x.count ∨ 4294967295 < a.n + x.n := by
  simp only [Summary.merge, Bool.or_eq_true, decide_eq_true_eq, or_assoc]
  rfl

end

/-! ### The summary due (R152) -/

/-- The link after a completed window has made summary `x` (R150, R152). -/
def Tie.summarised (t : Tie) (x : Summary) (v : Fin 2) : Tie :=
  Tie.transmit { t.summaryDue x with exportBase := some v }

section
variable {t : Tie} (x : Summary) (v : Fin 2)

theorem Tie.summarised_idle (hf : t.inFlight = none) (hl : t.closeList = []) : t.summarised x v =
    { t with
      inFlight := some (.summary x), sendCount := 1, exportBase := some v
      lastSent := some (Page.bytes ⟨.summary x, t.sendToggle, t.partnerToggle⟩) } := by
  have hdue : t.summaryDue x = { t with inFlight := some (.summary x), sendCount := 0 } :=
    if_pos (by rw [hf, hl]; rfl)
  rw [Tie.summarised, hdue]
  rfl

theorem Tie.summaryDue_held (h : t.inFlight ≠ none ∨ t.closeList ≠ []) :
    t.summaryDue x = { t with holding := some (t.holding.elim x fun a => a.merge x) } := by
  have hbusy : ¬ (t.inFlight.isNone && t.closeList.isEmpty) = true := fun hc => by
    simp only [Bool.and_eq_true, Option.isNone_iff_eq_none, List.isEmpty_iff] at hc
    exact h.elim (· hc.1) (· hc.2)
  rw [Tie.summaryDue, if_neg hbusy]
  cases t.holding <;> rfl

theorem Tie.summarised_held (h : t.inFlight ≠ none ∨ t.closeList ≠ []) : (t.summarised x v).inFlight = t.inFlight ∧
    (t.summarised x v).holding = some (t.holding.elim x fun a => a.merge x) := by
  rw [Tie.summarised, Tie.summaryDue_held x h]
  obtain hs | ⟨b, -, -, hs⟩ := Tie.transmit_cases
    { t with holding := some (t.holding.elim x fun a => a.merge x), exportBase := some v } <;> rw [hs] <;> exact ⟨rfl, rfl⟩

theorem Tie.summarised_base : (t.summarised x v).exportBase = some v := by
  rw [Tie.summarised]
  obtain hs | ⟨b, -, -, hs⟩ := Tie.transmit_cases { t.summaryDue x with exportBase := some v } <;> rw [hs]

end

namespace State

/-! ### The link after a completed window (R150) -/

theorem exports_iff (s : State) (ev : CompletedWindow) : s.exports ev = true ↔
    (s.tie.state = .pairedPrimary ∨ s.tie.state = .pairedSecondary) ∧ ev.ownsSet.get s.settings.exportSet = true ∧
      ∃ j, s.settings.exportSlots.get j ≠ [] := by
  have hpaired : s.tie.state.paired = true ↔ s.tie.state = .pairedPrimary ∨ s.tie.state = .pairedSecondary := by
    cases s.tie.state <;> simp [TieState.paired]
  simp only [exports, Bool.and_eq_true, hpaired, List.any_eq_true, List.mem_finRange, true_and, Bool.not_eq_true',
    List.isEmpty_eq_false_iff, and_assoc]

/-- The summary that the completed window `w` makes (R151). -/
def summaryOf (s : State) (v : Fin 2) (w : Window) : Summary := (s.windowEvent v w).summary s.settings.exportSlots

theorem accountedFor_tie (s : State) (v : Fin 2) (w : Window) : (s.accountedFor v w).tie =
    if s.exports (s.windowEvent v w) then s.tie.summarised (s.summaryOf v w) v else s.tie := by
  have htie : ((s.finishWindow v w).accountWindow (s.windowEvent v w)).tie = s.tie := by
    rw [accountWindow_eq, finishWindow_eq]
  have hsettings : ((s.finishWindow v w).accountWindow (s.windowEvent v w)).settings = s.settings := by
    rw [accountWindow_eq, finishWindow_eq]
  have hdef : s.accountedFor v w = ((s.finishWindow v w).accountWindow (s.windowEvent v w)).exportWindow (s.windowEvent v w) :=
    rfl
  rw [hdef, exportWindow]
  generalize (s.finishWindow v w).accountWindow (s.windowEvent v w) = u at *
  have hexports : u.exports (s.windowEvent v w) = s.exports (s.windowEvent v w) := by rw [exports, exports, htie, hsettings]
  rw [hexports, hsettings]
  split
  · show Tie.transmit { u.tie.summaryDue _ with exportBase := _ } = _
    rw [htie]
    rfl
  · exact htie

end State

/-- Settles O55: the window without a summary, the summary's content, and the link in its three cases. -/
theorem summariesAreMade : Obligations.SummariesAreMade := by
  intro s v w ha hw hn hplan
  have htie := s.accountedFor_tie v w
  have htable := s.accountedFor_table v w
  have hcond := s.exports_iff (s.windowEvent v w)
  refine ⟨s.accountedFor v w, State.exec_windowComplete_plain ha hw hn hplan, fun hno => ?_, fun hs hset hdef => ?_⟩
  · refine htie.trans (if_neg fun he => ?_)
    obtain ⟨hs, hset, j, hj⟩ := hcond.1 he
    obtain ⟨h1, h2⟩ | h | h := hno
    · exact hs.elim h1 h2
    · exact Bool.false_ne_true (h.symm.trans hset)
    · exact hj (h j)
  · rw [if_pos (hcond.2 ⟨hs, hset, hdef⟩)] at htie
    have hslots := fun j => (s.windowEvent v w).summary_slots s.settings.exportSlots j
    refine ⟨s.summaryOf v w, rfl, rfl, rfl, rfl, rfl, fun j => (hslots j).1, fun j sl hsl => ?_, fun p hp => ?_, ?_,
      fun hf hl => ?_, fun hbusy hh => ?_, fun a hbusy hh => ?_⟩
    · rw [(hslots j).2 sl hsl]
      exact CompletedWindow.slotSummary_absent ..
    · obtain rfl := Option.some.inj (htable.symm.trans hp)
      intro here u c P Q product held64 part size used
      have hhere (j : Fin 4) : (s.windowEvent v w).here (s.settings.exportSlots.get j) = here j :=
        CompletedWindow.here_eq ..
      have hproduct (j : Fin 4) (f : Fin 8 → Fin 3 → Int) :
          netOver ((s.windowEvent v w).here (s.settings.exportSlots.get j)) (fun k => sumFin (f k)) * w.n = product j f := by
        rw [netOver_phases, hhere]
        rfl
      have hpart (j : Fin 4) (q : Fin 3) (i : Fin 40) (f : Phasor → Int) :
          netOver ((s.windowEvent v w).here (s.settings.exportSlots.get j))
            (fun k => f ((s.windowEvent v w).phasor (currentChannel k q) i)) = part j q i f := by
        rw [netOver_eq, hhere]
        rfl
      have hused (ch : Fin 30) : used ch ↔ ∃ j, ∃ m ∈ (s.windowEvent v w).here (s.settings.exportSlots.get j), ∃ q : Fin 3,
          ch = currentChannel m.tap q ∨ ch = voltageChannel (w.binding.get m.tap) q := by
        simp only [hhere]
        rfl
      refine ⟨fun j sl hsl => ?_, rfl, ?_, ?_⟩
      · rw [(hslots j).2 sl hsl]
        obtain ⟨hp1, hq1, hphn, hsat⟩ := (s.windowEvent v w).slotSummary_products (s.settings.exportSlots.get j)
          (hproduct j) (P := P) (Q := Q) (fun i => rfl) rfl
        refine ⟨hp1, hq1, hphn, hsat, fun i => (Table.get_make ..).trans ?_⟩
        refine (s.windowEvent v w).netCurrent_eq ((s.windowEvent v w).here (s.settings.exportSlots.get j)) i
          (size := fun q => size j q i) fun q => ?_
        rw [hpart j q i (·.re), hpart j q i (·.im)]
      · simp only [hused]
        exact (s.windowEvent v w).slotFlag_iff s.settings.exportSlots (·.held)
      · simp only [hused]
        exact (s.windowEvent v w).slotFlag_iff s.settings.exportSlots (·.clip)
    · rw [htie]
      exact Tie.summarised_base ..
    · rw [htie, Tie.summarised_idle _ _ hf hl]
      exact ⟨rfl, rfl, rfl, rfl⟩
    · obtain ⟨hflight, hheld⟩ := Tie.summarised_held (s.summaryOf v w) v hbusy
      rw [htie, hflight, hheld, hh]
      exact ⟨rfl, rfl⟩
    · obtain ⟨hflight, hheld⟩ := Tie.summarised_held (s.summaryOf v w) v hbusy
      rw [htie, hflight, hheld, hh]
      refine ⟨a.merge (s.summaryOf v w), rfl, rfl, rfl, rfl, rfl, rfl, ?_, a.merge_none _, fun j k l hk hl =>
        ⟨k.merge l, a.merge_both _ j hk hl, k.merge_spec l⟩, rfl, rfl, rfl, fun j k => a.merge_one _ j⟩
      exact (a.merge_saturated (s.summaryOf v w)).trans (or_congr_right (or_iff_right Bool.false_ne_true))

end Sys2Proof.Machine
end

section
/-! PROOFS. The events of the last raw sample that are taken before the next one (log 3): what they leave of lanes, channels,
clock and windows. Shared by the raw-sample claims (O9, O10). -/

/- The whole text is compiled as one file: these proofs are elaborated one after another, to stay within its memory. -/
set_option Elab.async false

namespace Sys2Proof.Machine
namespace State

/-! ### What an event between raw samples leaves -/

/-- An event between raw samples: a lane may enter UP or DOWN, a clip latch may clear, and settings, link state and all but
the listed parts stand. -/
structure SampleKeeps (s u : State) : Prop where
  lanes : ∀ l, ∃ b, u.lanes.get l = { s.lanes.get l with up := b }
  channels : ∀ c, ∃ b, u.channels.get c = { s.channels.get c with clip := b } ∧ (b = true → (s.channels.get c).clip = true)
  laneErrors : u.notices.laneErrors = s.notices.laneErrors
  tie : u.tie.state = s.tie.state
  rest : { u with
      lanes := s.lanes, channels := s.channels, trackers := s.trackers, timebases := s.timebases, selector := s.selector,
      accounts := s.accounts, clock := s.clock, queue := s.queue, tie := s.tie, notices := s.notices } = s

/-- One whose event leaves the interval clock as well. -/
structure EventKeeps (s u : State) : Prop extends SampleKeeps s u where
  clock : u.clock = s.clock

theorem SampleKeeps.refl (s : State) : s.SampleKeeps s where
  lanes _ := ⟨_, rfl⟩
  channels _ := ⟨_, rfl, id⟩
  laneErrors := rfl
  tie := rfl
  rest := rfl

theorem SampleKeeps.trans {s t u : State} (h : s.SampleKeeps t) (k : t.SampleKeeps u) : s.SampleKeeps u where
  lanes l := by
    obtain ⟨b, hb⟩ := h.lanes l
    obtain ⟨d, hd⟩ := k.lanes l
    exact ⟨d, by rw [hd, hb]⟩
  channels c := by
    obtain ⟨b, hb, hbs⟩ := h.channels c
    obtain ⟨d, hd, hdt⟩ := k.channels c
    refine ⟨d, by rw [hd, hb], fun hc => hbs ?_⟩
    have hclip := hdt hc
    rw [hb] at hclip
    exact hclip
  laneErrors := k.laneErrors.trans h.laneErrors
  tie := k.tie.trans h.tie
  rest := (congrArg (fun x : State => ({ x with
      lanes := s.lanes, channels := s.channels, trackers := s.trackers, timebases := s.timebases, selector := s.selector,
      accounts := s.accounts, clock := s.clock, queue := s.queue, tie := s.tie, notices := s.notices } : State)) k.rest).trans
    h.rest

theorem EventKeeps.refl (s : State) : s.EventKeeps s := ⟨.refl s, rfl⟩

theorem EventKeeps.trans {s t u : State} (h : s.EventKeeps t) (k : t.EventKeeps u) : s.EventKeeps u :=
  ⟨h.toSampleKeeps.trans k.toSampleKeeps, k.clock.trans h.clock⟩

/-- Events in a row. -/
theorem EventKeeps.foldl {α : Type} {f : State → α → State} (h : ∀ (u : State) x, u.EventKeeps (f u x)) (l : List α) (s : State) :
    s.EventKeeps (l.foldl f s) := by
  induction l generalizing s with
  | nil => exact .refl s
  | cons x l ih => exact (h s x).trans (ih _)

/-- An event of a tracker: trackers, marks of windows and notices alone. -/
theorem setTracker_eventKeeps (s : State) (v : Fin 2) (t : Tracker) : s.EventKeeps (s.setTracker v t) := by
  have h := s.setTracker_eq v t
  have hcounts : (s.setTracker v t).notices.laneErrors = s.notices.laneErrors :=
    congrArg Prod.fst (latchIf_counts { s with trackers := s.trackers.put v t } _ (.trackLost v))
  generalize s.setTracker v t = u at *
  generalize u.timebases = b at *
  generalize u.notices = n at *
  subst h
  exact ⟨⟨fun l => ⟨_, rfl⟩, fun c => ⟨_, rfl, id⟩, hcounts, rfl, rfl⟩, rfl⟩

theorem abandonCycle_eventKeeps (s : State) (v : Fin 2) : s.EventKeeps (s.abandonCycle v) := by
  unfold abandonCycle
  dsimp only
  split
  · exact s.setTracker_eventKeeps v _
  · exact .refl s

theorem endPresenceRun_eventKeeps (s : State) (v : Fin 2) : s.EventKeeps (s.endPresenceRun v) := by
  unfold endPresenceRun
  dsimp only
  split
  · exact s.setTracker_eventKeeps v _
  · exact .refl s

theorem enterFreeRun_eventKeeps (s : State) (v : Fin 2) : s.EventKeeps (s.enterFreeRun v) := by
  unfold enterFreeRun
  dsimp only
  split
  · exact s.setTracker_eventKeeps v _
  · exact .refl s

theorem lanesMoved_eventKeeps (s : State) (l : Fin 4) (b : Bool) (n : Notices) (hn : n.laneErrors = s.notices.laneErrors) :
    s.EventKeeps { s with lanes := s.lanes.change l fun x => { x with up := b }, notices := n } := by
  refine ⟨⟨fun g => ?_, fun c => ⟨_, rfl, id⟩, hn, rfl, rfl⟩, rfl⟩
  by_cases hg : l = g
  · subst hg
    exact ⟨b, Table.get_change_same ..⟩
  · exact ⟨_, Table.get_change_other _ _ _ _ hg⟩

theorem laneDown_eventKeeps (s : State) (l : Fin 4) : s.EventKeeps (s.laneDown l) := by
  unfold laneDown
  split
  · exact s.lanesMoved_eventKeeps l false _ (congrArg Prod.fst (latch_counts _ (.laneFault l)))
  · exact .refl s

theorem laneUp_eventKeeps (s : State) (l : Fin 4) : s.EventKeeps (s.laneUp l) := by
  unfold laneUp
  split
  · exact s.lanesMoved_eventKeeps l true s.notices rfl
  · exact .refl s

theorem accountedFor_eventKeeps (s : State) (v : Fin 2) (w : Window) : s.EventKeeps (s.accountedFor v w) := by
  have hframe := s.accountedFor_frame v w
  have hchannel := fun c => s.accountedFor_channel v w c
  have hcounts := congrArg Prod.fst (s.accountedFor_counts v w)
  have hstate := s.accountedFor_state v w
  generalize s.accountedFor v w = u at *
  refine ⟨⟨fun l => ?_, fun c => ⟨_, hchannel c, fun h => (Bool.and_eq_true_iff.1 h).1⟩, hcounts, hstate, ?_⟩, ?_⟩ <;>
    rw [hframe]
  exact ⟨_, rfl⟩

theorem switchArranged_laneErrors (s : State) (v : Fin 2) (n : Nat) (p : Fin 8) (c : PlanContent) :
    (s.switchArranged v n p c).notices.laneErrors = s.notices.laneErrors := by
  have hr : (s.switchRecorded v n p c).notices.laneErrors = s.notices.laneErrors := by rw [switchRecorded_eq]
  by_cases h : c.arrangement = s.arrangement
  · rw [switchArranged_same s v n p c h, hr]
  · rw [switchArranged_other s v n p c h, arrangeTrackers_eq, abandonOther_eq]
    exact hr

theorem applyPlan_eventKeeps (s : State) (v : Fin 2) (n : Nat) (p : Fin 8) (c : PlanContent) :
    s.EventKeeps (s.applyPlan v n p c) := by
  have harranged := s.switchArranged_eq v n p c
  have hnoted := s.switchNoted_eq v n p c
  have happlied := s.applyPlan_eq v n p c
  have hchannel := fun ch => s.switchArranged_channel v n p c ch
  have hcounts : (s.applyPlan v n p c).notices.laneErrors = s.notices.laneErrors :=
    (congrArg Prod.fst (s.applyPlan_counts v n p c)).trans (s.switchArranged_laneErrors v n p c)
  generalize s.applyPlan v n p c = u at *
  generalize s.switchNoted v n p c = x at *
  generalize s.switchArranged v n p c = y at *
  have heq : u = { s with
      selector := u.selector, queue := u.queue, timebases := u.timebases, channels := y.channels, trackers := u.trackers
      accounts := u.accounts, notices := u.notices } := by
    rw [happlied, hnoted, harranged]
  refine ⟨⟨fun l => ⟨_, by rw [heq]⟩, fun ch => ?_, hcounts, by rw [heq], by rw [heq]⟩, by rw [heq]⟩
  have hch : u.channels = y.channels := by rw [heq]
  obtain ⟨h1, h2⟩ := hchannel ch
  rw [hch]
  by_cases hc : c.arrangement ≠ s.arrangement ∧
      (∃ w, (s.timebases.get (other v)).window = some w ∧ ownsChannel w.ownsSet w.ownsTap ch = true)
  · exact ⟨false, h1 hc, fun h => Bool.noConfusion h⟩
  · exact ⟨_, h2 hc, id⟩

theorem windowComplete_eventKeeps (s : State) (v : Fin 2) : s.EventKeeps (s.windowComplete v) := by
  by_cases h : ∀ w, (s.timebases.get v).window = some w → w.rows.length < w.n
  · rw [windowComplete_none h]
    exact .refl s
  · simp only [not_forall, Nat.not_lt] at h
    obtain ⟨w, hw, hn⟩ := h
    rw [windowComplete_due hw hn]
    refine (s.accountedFor_eventKeeps v w).trans ?_
    obtain h | ⟨p, c, h⟩ := (s.accountedFor v w).governSwitch_cases v w.number
    · rw [h]
      exact .refl _
    · rw [h]
      exact applyPlan_eventKeeps ..

/-! ### The clock's events (R95, R98) -/

theorem settleClose_counts (s : State) (concerned formed : List (Fin 16)) (cause : CloseCause) (reason : Option CloseReason)
    (index part : Nat) (aligned advances : Bool) :
    (s.settleClose concerned formed cause reason index part aligned advances).notices.counts = s.notices.counts :=
  (latchIf_counts _ _ _).trans (latchIf_counts _ _ _)

theorem normalClose_sampleKeeps (s : State) (cause : CloseCause) (aligned lateOpen : Bool) :
    s.SampleKeeps (s.normalClose cause aligned lateOpen) := by
  have hsame := s.normalClose_same cause aligned lateOpen
  have htie : (s.normalClose cause aligned lateOpen).tie.state = s.tie.state := by
    rw [normalClose_tie, handed_state]
  have hcounts : (s.normalClose cause aligned lateOpen).notices.laneErrors = s.notices.laneErrors := by
    have hn : (s.handed none).notices = s.notices := by rw [handed_eq]
    rw [← hn]
    exact congrArg Prod.fst (settleClose_counts ..)
  generalize s.normalClose cause aligned lateOpen = u at *
  unfold sameButClose at hsame
  have hlanes := congrArg State.lanes hsame
  have hchannels := congrArg State.channels hsame
  have hrest := congrArg (fun x : State => ({ x with
      lanes := s.lanes, channels := s.channels, trackers := s.trackers, timebases := s.timebases, selector := s.selector,
      accounts := s.accounts, clock := s.clock, queue := s.queue, tie := s.tie, notices := s.notices } : State)) hsame
  exact ⟨fun l => ⟨_, congrArg (Table.get · l) hlanes⟩, fun c => ⟨_, congrArg (Table.get · c) hchannels, id⟩, hcounts, htie, hrest⟩

theorem clockMade_sampleKeeps (s : State) : s.SampleKeeps s.clockMade := by
  unfold clockMade
  split
  · exact s.normalClose_sampleKeeps ..
  · exact .refl s

theorem lateExpire_sampleKeeps (s : State) : s.SampleKeeps s.lateExpire := by
  unfold lateExpire
  split
  · exact ⟨fun _ => ⟨_, rfl⟩, fun _ => ⟨_, rfl, id⟩, rfl, rfl, rfl⟩
  · exact .refl s

/-! ### The events of the last raw sample (log 3) -/

/-- The events of lanes, trackers and windows still due, taken. -/
def eventsTaken (s : State) : State :=
  let s1 := (List.finRange 4).foldl (fun u l => (u.laneDown l).laneUp l) s
  let s2 := (List.finRange 2).foldl (fun u v => (u.abandonCycle v).endPresenceRun v) s1
  let s3 := (List.finRange 2).foldl (fun u t => u.windowComplete t) s2
  (List.finRange 2).foldl (fun u v => u.enterFreeRun v) s3

theorem settleSample_eq (s : State) : s.settleSample = s.eventsTaken.clockMade.lateExpire := rfl

theorem eventsTaken_eventKeeps (s : State) : s.EventKeeps s.eventsTaken :=
  (((EventKeeps.foldl (fun u l => (u.laneDown_eventKeeps l).trans ((u.laneDown l).laneUp_eventKeeps l)) _ s).trans
    (EventKeeps.foldl (fun u v => (u.abandonCycle_eventKeeps v).trans ((u.abandonCycle v).endPresenceRun_eventKeeps v)) _ _)).trans
      (EventKeeps.foldl (fun u v => u.windowComplete_eventKeeps v) _ _)).trans
        (EventKeeps.foldl (fun u v => u.enterFreeRun_eventKeeps v) _ _)

theorem settleSample_sampleKeeps (s : State) : s.SampleKeeps s.settleSample :=
  (s.eventsTaken_eventKeeps.toSampleKeeps.trans s.eventsTaken.clockMade_sampleKeeps).trans
    s.eventsTaken.clockMade.lateExpire_sampleKeeps

theorem SampleKeeps.fixed {s u : State} (h : s.SampleKeeps u) :
    u.settings = s.settings ∧ u.op = s.op ∧ u.sampleIndex = s.sampleIndex := by
  have hrest := h.rest
  have hsettings := congrArg State.settings hrest
  have hop := congrArg State.op hrest
  have hindex := congrArg State.sampleIndex hrest
  exact ⟨hsettings, hop, hindex⟩

end State
end Sys2Proof.Machine
end

section
/-! PROOFS. A raw-sample instant at the lanes (O9): frames checked, codes delivered, errors counted, clipping. -/

/- The whole text is compiled as one file: these proofs are elaborated one after another, to stay within its memory. -/
set_option Elab.async false

namespace Sys2Proof.Machine

/-! ### A lane's frame (R2, R3, R5) -/

namespace Lane

section
variable {x : Lane} {f : List Byte}

theorem frameGood_iff : frameGood f = true ↔ f.length = 29 ∧ byteAt f 0 = 0xC3#8 ∧ crcOk f = true := by
  simp [frameGood, and_assoc]

theorem verdict_of_good (h : x.holdsGood f) : x.verdict = .good (byteAt f 1) := by
  obtain ⟨⟨hplace, hsound⟩, hexpected⟩ := h
  have hgood : (!frameGood f) = false := by rw [frameGood_iff.2 hsound]; rfl
  have hnext : (x.expected == none || x.expected == some (byteAt f 1)) = true := by
    obtain h | h := hexpected <;> simp [h]
  simp only [verdict, hplace, hgood, hnext, Bool.false_eq_true, if_false, if_true]

theorem verdict_of_slipped (h : x.holdsSound f) (hn : ¬ x.holdsGood f) : x.verdict = .slipped (byteAt f 1) := by
  obtain ⟨hplace, hsound⟩ := h
  have hgood : (!frameGood f) = false := by rw [frameGood_iff.2 hsound]; rfl
  have hnext : (x.expected == none || x.expected == some (byteAt f 1)) = false := Bool.eq_false_iff.2 fun he =>
    hn ⟨⟨hplace, hsound⟩, by simpa using he⟩
  simp only [verdict, hplace, hgood, hnext, Bool.false_eq_true, if_false]

theorem verdict_of_unsound (h : ∀ f, ¬ x.holdsSound f) : x.verdict = .missing ∨ x.verdict = .broken := by
  cases hp : x.place with
  | none =>
    left
    simp only [verdict, hp]
  | some f =>
    right
    have hbad : (!frameGood f) = true := by
      rw [Bool.not_eq_true', Bool.eq_false_iff]
      exact fun hf => h f ⟨hp, frameGood_iff.1 hf⟩
    simp only [verdict, hp, hbad, if_true]

end

theorem isGood_iff (x : Lane) : x.isGood = true ↔ ∃ f, x.holdsGood f := by
  refine ⟨fun h => ?_, fun ⟨f, hf⟩ => by rw [isGood, verdict_of_good hf]⟩
  by_cases hs : ∃ f, x.holdsSound f
  · obtain ⟨f, hf⟩ := hs
    refine ⟨f, not_not.1 fun hn => ?_⟩
    rw [isGood, verdict_of_slipped hf hn] at h
    exact Bool.noConfusion h
  · obtain hv | hv := verdict_of_unsound fun f hf => hs ⟨f, hf⟩ <;> rw [isGood, hv] at h <;> exact Bool.noConfusion h

/-- The fresh code of a slot is that of a good frame that does not mark it held (R3). -/
theorem fresh_iff (x : Lane) (j : Fin 8) (code : Int) : x.fresh j = some code ↔
    ∃ f, x.holdsGood f ∧ (byteAt f 26).getLsbD j.val = false ∧ ofLeInt (slice f (2 + 3 * j.val) 3) = code := by
  unfold fresh
  cases hp : x.place with
  | none => exact iff_of_false nofun fun ⟨f, hf, _⟩ => Option.some_ne_none f (hf.1.1.symm.trans hp)
  | some f =>
    have hgood : x.isGood = true ↔ x.holdsGood f := by
      rw [isGood_iff]
      refine ⟨fun ⟨g, hg⟩ => ?_, fun h => ⟨f, h⟩⟩
      obtain rfl : f = g := Option.some.inj (hp.symm.trans hg.1.1)
      exact hg
    have hone (g : List Byte) (hg : x.holdsGood g) : g = f := (Option.some.inj (hp.symm.trans hg.1.1)).symm
    by_cases hc : x.holdsGood f ∧ (byteAt f 26).getLsbD j.val = false
    · have hcond : (x.isGood && !(byteAt f 26).getLsbD j.val) = true := by
        rw [hgood.2 hc.1, hc.2]
        rfl
      simp only [hcond, if_true]
      refine ⟨fun h => ⟨f, hc.1, hc.2, Option.some.inj h⟩, fun ⟨g, hg, _, hcode⟩ => ?_⟩
      rw [← hcode, hone g hg]
    · have hcond : (x.isGood && !(byteAt f 26).getLsbD j.val) = false := Bool.eq_false_iff.2 fun h => by
        rw [Bool.and_eq_true, hgood, Bool.not_eq_true'] at h
        exact hc h
      simp only [hcond, Bool.false_eq_true, if_false]
      refine iff_of_false nofun fun ⟨g, hg, hm, _⟩ => hc ?_
      obtain rfl := hone g hg
      exact ⟨hg, hm⟩

theorem fresh_none (x : Lane) (j : Fin 8) (h : ∀ f, x.holdsGood f → (byteAt f 26).getLsbD j.val = true) :
    x.fresh j = none :=
  Option.eq_none_iff_forall_ne_some.2 fun code hc => by
    obtain ⟨f, hf, hm, -⟩ := (x.fresh_iff j code).1 hc
    exact Bool.false_ne_true (hm.symm.trans (h f hf))

/-- A lane after a raw-sample instant (R2, R5). -/
theorem sample_spec (x : Lane) : x.sample.place = none ∧
    (∀ f, x.holdsGood f → x.sample.expected = some (byteAt f 1 + 1) ∧ x.sample.bad = 0 ∧
      x.sample.good = min 64 (x.good + 1)) ∧
    (∀ f, x.holdsSound f → ¬ x.holdsGood f → x.sample.expected = some (byteAt f 1 + 1) ∧ x.sample.good = 0 ∧
      x.sample.bad = min 16 (x.bad + 1)) ∧
    ((∀ f, ¬ x.holdsSound f) → x.sample.expected = x.expected ∧ x.sample.good = 0 ∧ x.sample.bad = min 16 (x.bad + 1)) := by
  refine ⟨?_, fun f hf => ?_, fun f hf hn => ?_, fun h => ?_⟩
  · unfold sample
    cases x.verdict <;> rfl
  · rw [sample, verdict_of_good hf]
    exact ⟨rfl, rfl, rfl⟩
  · rw [sample, verdict_of_slipped hf hn]
    exact ⟨rfl, rfl, rfl⟩
  · obtain hv | hv := verdict_of_unsound h <;> rw [sample, hv] <;> exact ⟨rfl, rfl, rfl⟩

end Lane

namespace State

/-! ### The notices of the intake (R4, R175) -/

theorem countErrors_get (good : Fin 4 → Bool) {l : List (Fin 4)} (hl : l.Nodup) (s : State) (g : Fin 4) :
    (l.foldl (fun t l => if good l then t else t.countLaneError l) s).notices.laneErrors.get g =
      if g ∈ l ∧ good g = false then min 65535 (s.notices.laneErrors.get g + 1) else s.notices.laneErrors.get g := by
  induction l generalizing s with
  | nil => simp
  | cons a l ih =>
    obtain ⟨ha, hl⟩ := List.nodup_cons.1 hl
    have hstep : (if good a then s else s.countLaneError a).notices.laneErrors.get g =
        if g = a ∧ good a = false then min 65535 (s.notices.laneErrors.get g + 1) else s.notices.laneErrors.get g := by
      cases hg : good a
      · rw [countLaneError_eq]
        by_cases hga : g = a
        · subst hga
          simp
        · simp [hga, Table.get_put_other _ _ _ _ (Ne.symm hga)]
      · simp
    rw [List.foldl_cons, ih hl, hstep]
    by_cases hga : g = a
    · subst hga
      cases good g <;> simp [ha]
    · simp [hga]

theorem countErrors_latches (good : Fin 4 → Bool) (l : List (Fin 4)) (s : State) :
    (l.foldl (fun t l => if good l then t else t.countLaneError l) s).notices.latched = s.notices.latched ∧
    (l.foldl (fun t l => if good l then t else t.countLaneError l) s).notices.clipMask = s.notices.clipMask := by
  induction l generalizing s with
  | nil => exact ⟨rfl, rfl⟩
  | cons a l ih =>
    rw [List.foldl_cons]
    obtain ⟨h1, h2⟩ := ih (if good a then s else s.countLaneError a)
    rw [h1, h2]
    cases good a <;> exact ⟨rfl, rfl⟩

theorem clipMask_latch (s : State) (c : Fin 30) : (s.latch (.clip c)).notices.clipMask = s.notices.clipMask ||| oneBit 30 c.val :=
  rfl

/-- CLIP latched for each channel at which it is due (R4). -/
theorem latchClips_spec (due : Fin 30 → Bool) (l : List (Fin 30)) (s : State) :
    (l.foldl (fun t c => t.latchIf (due c) (.clip c)) s).notices.laneErrors = s.notices.laneErrors ∧
    ((l.foldl (fun t c => t.latchIf (due c) (.clip c)) s).notices.latched.getLsbD 2 = true ↔
      s.notices.latched.getLsbD 2 = true ∨ ∃ c ∈ l, due c = true) ∧
    ∀ g : Fin 30, (l.foldl (fun t c => t.latchIf (due c) (.clip c)) s).notices.clipMask.getLsbD g.val = true ↔
      s.notices.clipMask.getLsbD g.val = true ∨ (g ∈ l ∧ due g = true) := by
  induction l generalizing s with
  | nil => simp
  | cons a l ih =>
    obtain ⟨hcounts, hlatched, hmask⟩ := ih (s.latchIf (due a) (.clip a))
    rw [List.foldl_cons]
    refine ⟨hcounts.trans (congrArg Prod.fst (latchIf_counts s (due a) (.clip a))), hlatched.trans ?_, fun g => (hmask g).trans ?_⟩
    · rw [latchIf_getLsbD]
      cases hd : due a <;> simp [Notice.bit, hd]
    · cases hd : due a
      · rw [latchIf_false]
        refine or_congr_right ⟨fun ⟨h1, h2⟩ => ⟨List.mem_cons_of_mem _ h1, h2⟩, fun ⟨h1, h2⟩ => ⟨?_, h2⟩⟩
        obtain rfl | h1 := List.mem_cons.1 h1
        · exact absurd (hd.symm.trans h2) Bool.false_ne_true
        · exact h1
      · rw [latchIf_true, clipMask_latch, BitVec.getLsbD_or, oneBit_getLsbD, Bool.or_eq_true]
        have hg : (decide (g.val < 30) && decide (a.val = g.val)) = true ↔ g = a := by
          simp [g.isLt, Fin.ext_iff, eq_comm]
        rw [hg, or_assoc]
        refine or_congr_right ⟨fun h => ?_, fun ⟨h1, h2⟩ => (List.mem_cons.1 h1).imp_right fun h1 => ⟨h1, h2⟩⟩
        obtain rfl | ⟨h1, h2⟩ := h
        · exact ⟨List.mem_cons_self, hd⟩
        · exact ⟨List.mem_cons_of_mem _ h1, h2⟩

/-! ### The intake as the raw sample leaves it -/

/-- A tracker replaced latches TRACK_LOST alone. -/
theorem setTracker_notices (s : State) (v : Fin 2) (x : Tracker) :
    (s.setTracker v x).notices.laneErrors = s.notices.laneErrors ∧
    (s.setTracker v x).notices.latched.getLsbD 2 = s.notices.latched.getLsbD 2 ∧
    (s.setTracker v x).notices.clipMask = s.notices.clipMask := by
  have hl : (s.setTracker v x).notices.latched = (({ s with trackers := s.trackers.put v x } : State).latchIf
      ((s.trackers.get v).state == .locked && x.state == .holdover) (.trackLost v)).notices.latched := rfl
  refine ⟨(s.setTracker_eventKeeps v x).laneErrors, ?_, ?_⟩
  · rw [hl, latchIf_getLsbD]
    simp [Notice.bit]
  · unfold setTracker
    cases ((s.trackers.get v).state == .locked && x.state == .holdover) <;> rfl

theorem trackSample_notices (s old : State) : (s.trackSample old).notices.laneErrors = s.notices.laneErrors ∧
    (s.trackSample old).notices.latched.getLsbD 2 = s.notices.latched.getLsbD 2 ∧
    (s.trackSample old).notices.clipMask = s.notices.clipMask := by
  obtain ⟨h1, h2, h3⟩ := s.setTracker_notices 0 ((s.trackers.get 0).sample s.settings 0 (s.setSample old 0))
  obtain ⟨k1, k2, k3⟩ := (s.trackedFirst old).setTracker_notices 1 ((s.trackers.get 1).sample s.settings 1 (s.setSample old 1))
  rw [trackSample_eq]
  exact ⟨k1.trans h1, k2.trans h2, k3.trans h3⟩

/-- CLIP is due at channel `c` (R4). -/
def clipDue (s : State) (c : Fin 30) : Bool := (s.sampledChannels.get c).clip && !(s.channels.get c).clip

theorem intake_notices (s : State) :
    (∀ l, s.intake.notices.laneErrors.get l = if (s.lanes.get l).isGood = true then s.notices.laneErrors.get l
      else min 65535 (s.notices.laneErrors.get l + 1)) ∧
    (s.intake.notices.latched.getLsbD 2 = true ↔ s.notices.latched.getLsbD 2 = true ∨ ∃ c, s.clipDue c = true) ∧
    ∀ c : Fin 30, s.intake.notices.clipMask.getLsbD c.val = true ↔
      s.notices.clipMask.getLsbD c.val = true ∨ s.clipDue c = true := by
  have herrors := countErrors_get (fun l => (s.lanes.get l).isGood) (List.nodup_finRange 4)
    { s with lanes := s.lanes.each (fun _ l => l.sample), channels := s.sampledChannels }
  have hlatches := countErrors_latches (fun l => (s.lanes.get l).isGood) (List.finRange 4)
    { s with lanes := s.lanes.each (fun _ l => l.sample), channels := s.sampledChannels }
  have hdef : s.intake = (List.finRange 30).foldl (fun t c => t.latchIf (s.clipDue c) (.clip c))
      ((List.finRange 4).foldl (fun t l => if (s.lanes.get l).isGood then t else t.countLaneError l)
        { s with lanes := s.lanes.each (fun _ l => l.sample), channels := s.sampledChannels }) := rfl
  generalize (List.finRange 4).foldl (fun t l => if (s.lanes.get l).isGood then t else t.countLaneError l)
    { s with lanes := s.lanes.each (fun _ l => l.sample), channels := s.sampledChannels } = u at *
  obtain ⟨hcounts, hlatched, hmask⟩ := latchClips_spec s.clipDue (List.finRange 30) u
  rw [hdef]
  refine ⟨fun l => ?_, ?_, fun c => ?_⟩
  · rw [hcounts, herrors l]
    cases (s.lanes.get l).isGood <;> simp
  · rw [hlatched, hlatches.1]
    simp
  · rw [hmask c, hlatches.2]
    simp

/-- What a raw sample delivers, read off the state before it (R2 to R5). -/
theorem takeSample_intake (s : State) : (∀ l, s.takeSample.lanes.get l = (s.lanes.get l).sample) ∧
    (∀ c, s.takeSample.channels.get c = (s.channels.get c).sample (s.settings.scale.get c) (s.freshCode c)) ∧
    (∀ l, s.takeSample.notices.laneErrors.get l = if (s.lanes.get l).isGood = true then s.notices.laneErrors.get l
      else min 65535 (s.notices.laneErrors.get l + 1)) ∧
    (s.takeSample.notices.latched.getLsbD 2 = true ↔ s.notices.latched.getLsbD 2 = true ∨ ∃ c, s.clipDue c = true) ∧
    ∀ c : Fin 30, s.takeSample.notices.clipMask.getLsbD c.val = true ↔
      s.notices.clipMask.getLsbD c.val = true ∨ s.clipDue c = true := by
  obtain ⟨-, hnotices, hchannels, hlanes⟩ := s.takeSample_parts
  obtain ⟨herrors, hlatched, hmask⟩ := s.startWindows.intake_notices
  obtain ⟨k1, k2, k3⟩ := s.startWindows.intake.trackSample_notices s.startWindows
  have heq := s.startWindows.intake_eq
  have hstart := s.startWindows_eq
  have hl : s.startWindows.lanes = s.lanes := by rw [hstart]
  have hn : s.startWindows.notices = s.notices := by rw [hstart]
  have hsampled : s.startWindows.sampledChannels = s.sampledChannels := by rw [hstart]; rfl
  have hdue : s.startWindows.clipDue = s.clipDue := by
    funext c
    rw [clipDue, hsampled, hstart]
    rfl
  rw [hl, hn] at herrors
  rw [hn, hdue] at hlatched hmask
  rw [hnotices, hchannels, hlanes, k1, k2, k3]
  refine ⟨fun l => ?_, fun c => ?_, herrors, hlatched, hmask⟩
  · rw [heq, ← hl]
    exact Table.get_each ..
  · rw [heq, ← show s.sampledChannels.get c = _ from Table.get_each .., ← hsampled]

/-! ### Codes and clipping (R3, R4) -/

theorem sample_fresh (ch : Channel) (scale : Nat) (code : Int) : (ch.sample scale (some code)).last = code ∧
    (ch.sample scale (some code)).held = false ∧ ((ch.sample scale (some code)).clip = true ↔
      ch.clip = true ∨ ((code = -8388608 ∨ code = 8388607) ∧ scale ≠ 0)) := by
  refine ⟨rfl, rfl, ?_⟩
  simp [Channel.sample, extreme]

/-- Channel `c` delivers a fresh extreme code and is used (R4). -/
def clipsAt (s : State) (c : Fin 30) : Prop :=
  s.settings.scale.get c ≠ 0 ∧ ∃ code, s.freshCode c = some code ∧ (code = -8388608 ∨ code = 8388607)

theorem sample_clip_iff (s : State) (c : Fin 30) :
    ((s.channels.get c).sample (s.settings.scale.get c) (s.freshCode c)).clip = true ↔
      (s.channels.get c).clip = true ∨ s.clipsAt c := by
  unfold clipsAt
  cases hf : s.freshCode c with
  | none => exact ⟨.inl, fun h => h.resolve_right fun ⟨_, code, hc, _⟩ => Option.some_ne_none code hc.symm⟩
  | some code =>
    rw [(sample_fresh _ _ code).2.2]
    refine or_congr_right ⟨fun ⟨he, hs⟩ => ⟨hs, code, rfl, he⟩, fun ⟨hs, x, hx, he⟩ => ⟨?_, hs⟩⟩
    rw [Option.some.inj hx]
    exact he

theorem clipDue_iff (s : State) (c : Fin 30) : s.clipDue c = true ↔ (s.channels.get c).clip = false ∧ s.clipsAt c := by
  have hget : s.sampledChannels.get c = (s.channels.get c).sample (s.settings.scale.get c) (s.freshCode c) :=
    Table.get_each ..
  rw [clipDue, hget, Bool.and_eq_true, Bool.not_eq_true', s.sample_clip_iff c]
  refine ⟨fun ⟨h, hc⟩ => ⟨hc, h.resolve_left fun ht => Bool.false_ne_true (hc.symm.trans ht)⟩, fun ⟨hc, h⟩ => ⟨.inr h, hc⟩⟩

end State

/-- Settles O9: the lanes, codes and notices of the raw sample, from the state that the events still due leave. -/
theorem rawSampleLanes : Obligations.RawSampleLanes := by
  intro s ha ho
  have hkeeps := s.settleSample_sampleKeeps
  obtain ⟨hlanes, hchannels, herrors, hlatched, hmask⟩ := s.settleSample.takeSample_intake
  obtain ⟨hsettings, -, -⟩ := hkeeps.fixed
  rw [hkeeps.laneErrors] at herrors
  have hgood (l : Fin 4) : (s.settleSample.lanes.get l).isGood = true ↔ ∃ f, (s.lanes.get l).holdsGood f := by
    obtain ⟨b, hb⟩ := hkeeps.lanes l
    rw [hb, Lane.isGood_iff]
    rfl
  have hfresh (c : Fin 30) (code : Int) : s.settleSample.freshCode c = some code ↔ ∃ f,
      (s.lanes.get (channelPlace c).1).holdsGood f ∧ (byteAt f 26).getLsbD (channelPlace c).2.val = false ∧
      ofLeInt (slice f (2 + 3 * (channelPlace c).2.val) 3) = code := by
    obtain ⟨b, hb⟩ := hkeeps.lanes (channelPlace c).1
    rw [State.freshCode, hb, Lane.fresh_iff]
    rfl
  have hlane (l : Fin 4) := hkeeps.lanes l
  have hchannel (c : Fin 30) := hkeeps.channels c
  have hset (h : s.settleSample = s) (c : Fin 30) : s.settleSample.channels.get c = s.channels.get c := by rw [h]
  rw [State.rawSample_settled ha ho]
  refine ⟨_, rfl, fun l => ?_, fun l f hf => ?_, fun l f hf hn => ?_, fun l h => ?_, fun c l j f hp hf hm => ?_,
    fun c l j hp h => ?_, fun l f hf => ?_, fun l h => ?_, ?_⟩
  · rw [hlanes]
    exact (Lane.sample_spec _).1
  · obtain ⟨b, hb⟩ := hlane l
    rw [hlanes, hb]
    exact (Lane.sample_spec { s.lanes.get l with up := b }).2.1 f hf
  · obtain ⟨b, hb⟩ := hlane l
    rw [hlanes, hb]
    exact (Lane.sample_spec { s.lanes.get l with up := b }).2.2.1 f hf hn
  · obtain ⟨b, hb⟩ := hlane l
    rw [hlanes, hb]
    exact (Lane.sample_spec { s.lanes.get l with up := b }).2.2.2 h
  · obtain ⟨rfl, rfl⟩ := Prod.mk.inj hp
    have hcode := (hfresh c _).2 ⟨f, hf, hm, rfl⟩
    obtain ⟨hlast, hheld, hclip⟩ := State.sample_fresh (s.settleSample.channels.get c) (s.settleSample.settings.scale.get c)
      (ofLeInt (slice f (2 + 3 * (channelPlace c).2.val) 3))
    rw [hchannels, hcode]
    refine ⟨hlast, hheld, fun he hs => hclip.2 (.inr ⟨?_, ?_⟩)⟩
    · rw [hlast] at he
      exact he
    · rw [hsettings]
      exact hs
  · obtain ⟨rfl, rfl⟩ := Prod.mk.inj hp
    have hnone : s.settleSample.freshCode c = none := Option.eq_none_iff_forall_ne_some.2 fun code hc => by
      obtain ⟨f, hf, hm, -⟩ := (hfresh c code).1 hc
      exact Bool.false_ne_true (hm.symm.trans (h f hf))
    obtain ⟨b, hb, -⟩ := hchannel c
    rw [hchannels, hnone, hb]
    exact ⟨rfl, rfl⟩
  · rw [herrors, if_pos ((hgood l).2 ⟨f, hf⟩)]
  · rw [herrors, if_neg fun hg => ?_]
    obtain ⟨f, hf⟩ := (hgood l).1 hg
    exact h f hf
  · intro clips
    have hclips (c : Fin 30) : s.settleSample.clipsAt c ↔ clips c := by
      unfold State.clipsAt
      rw [hsettings]
      refine and_congr_right fun _ => ⟨fun ⟨code, hc, he⟩ => ?_, fun ⟨l, j, f, hp, hf, hm, he⟩ => ?_⟩
      · obtain ⟨f, hf, hm, rfl⟩ := (hfresh c code).1 hc
        exact ⟨_, _, f, rfl, hf, hm, he⟩
      · obtain ⟨rfl, rfl⟩ := Prod.mk.inj hp
        exact ⟨_, (hfresh c _).2 ⟨f, hf, hm, rfl⟩, he⟩
    have hdue (c : Fin 30) : s.settleSample.clipDue c = true ↔ (s.settleSample.channels.get c).clip = false ∧ clips c := by
      rw [State.clipDue_iff, hclips]
    refine ⟨fun c hc hs => ?_, fun hsettled => ⟨fun c => ?_, fun c => ?_, ?_⟩⟩
    · obtain ⟨b, hb, hbs⟩ := hchannel c
      have hclear : (s.settleSample.channels.get c).clip = false := by
        rw [hb]
        exact Bool.eq_false_iff.2 fun h => Bool.false_ne_true (hs.symm.trans (hbs h))
      exact ⟨hlatched.2 (.inr ⟨c, (hdue c).2 ⟨hclear, hc⟩⟩), (hmask c).2 (.inr ((hdue c).2 ⟨hclear, hc⟩))⟩
    · rw [hchannels, State.sample_clip_iff, hclips, hset hsettled]
    · rw [hmask, hdue, hset hsettled, congrArg (fun x : State => x.notices.clipMask) hsettled]
    · rw [hlatched, congrArg (fun x : State => x.notices.latched) hsettled]
      refine or_congr_right (exists_congr fun c => ?_)
      rw [hdue, hset hsettled]

end Sys2Proof.Machine
end

section
/-! PROOFS. The tracking mark of a window in progress through a raw-sample instant (R26), for O10. -/

/- The whole text is compiled as one file: these proofs are elaborated one after another, to stay within its memory. -/
set_option Elab.async false

namespace Sys2Proof.Machine

/-- A tracker that has lost its lock and gathered nothing since: no one cycle locks it (R11, R12). -/
def Tracker.cold (x : Tracker) : Prop := x.state ≠ .locked ∧ x.run = []

/-- One sample does not lock a cold tracker (R11). -/
theorem Tracker.cold_sample {x : Tracker} (h : x.cold) (st : Settings) (v : Fin 2) (y : SetSample) :
    (x.sample st v y).state ≠ .locked := by
  obtain ⟨hstate, hrun⟩ := h
  cases hc : x.crosses y with
  | none =>
    rw [Tracker.sample_between st v hc]
    exact hstate
  | some frac =>
    cases ho : x.opened with
    | none =>
      rw [Tracker.sample_opens st v hc ho]
      exact hstate
    | some o =>
      have hjudged (period : Nat) : (x.judged st v period).state ≠ .locked := by
        by_cases hf : x.failsAt st v (cycleFreq period)
        · obtain ⟨-, -, -, hother⟩ := x.judged_failed st v period hf
          rw [(hother hstate).1]
          exact hstate
        · obtain ⟨-, -, hfollowing, hunlocked⟩ := x.judged_passed st v period hf
          have hshort : ¬ Tracker.closeRun (appendRun x.run (cycleFreq period)) := fun hc => by
            have hlen := hc.1
            rw [hrun] at hlen
            simp [appendRun] at hlen
          cases hs : x.state with
          | locked => exact absurd hs hstate
          | following =>
            rw [(hfollowing hs).1]
            exact TrackerState.noConfusion
          | acquiring =>
            rw [((hunlocked (.inl hs)).2 hshort).1, hs]
            exact TrackerState.noConfusion
          | holdover =>
            rw [((hunlocked (.inr (.inl hs))).2 hshort).1, hs]
            exact TrackerState.noConfusion
          | freeRun =>
            rw [((hunlocked (.inr (.inr hs))).2 hshort).1, hs]
            exact TrackerState.noConfusion
      rw [Tracker.sample_closes st v hc ho, Tracker.closeCycle_eq]
      exact hjudged _

namespace State

/-! ### Marks of windows in progress -/

/-- The windows in progress stand but for their tracking marks, which fall where the pacing tracker is not LOCKED (R26). -/
structure WindowsMarked (s u : State) : Prop where
  timebase : ∀ v, u.timebases.get v = { s.timebases.get v with window := (u.timebases.get v).window }
  none : ∀ v, (s.timebases.get v).window = none → (u.timebases.get v).window = none
  some : ∀ v w, (s.timebases.get v).window = some w → ∃ b, (u.timebases.get v).window = some { w with locked := b } ∧
    (b = true → w.locked = true) ∧ (w.locked = true → (s.trackers.get (w.joined.getD v)).state = .locked →
      (u.trackers.get (w.joined.getD v)).state = .locked → b = true)

theorem WindowsMarked.of_same {s u : State} (h : u.timebases = s.timebases) : s.WindowsMarked u := by
  refine ⟨fun v => by rw [h], fun v hv => by rw [h, hv], fun v w hw => ⟨w.locked, by rw [h, hw], id, fun hl _ _ => hl⟩⟩

theorem WindowsMarked.trans {s m u : State} (h : s.WindowsMarked m) (k : m.WindowsMarked u)
    (hmid : ∀ j, (s.trackers.get j).state = .locked → (u.trackers.get j).state = .locked →
      (m.trackers.get j).state = .locked) : s.WindowsMarked u where
  timebase v := by rw [k.timebase v, h.timebase v]
  none v hv := k.none v (h.none v hv)
  some v w hw := by
    obtain ⟨b, hb, hbw, hbl⟩ := h.some v w hw
    obtain ⟨d, hd, hdb, hdl⟩ := k.some v _ hb
    exact ⟨d, hd, fun hc => hbw (hdb hc), fun hl hs hu => hdl (hbl hl hs (hmid _ hs hu)) (hmid _ hs hu) hu⟩

/-- A tracker replaced: each window in progress keeps its mark while its pacing tracker is LOCKED (R26). -/
theorem setTracker_timebase (s : State) (v : Fin 2) (x : Tracker) (u : Fin 2) : (s.setTracker v x).timebases.get u =
    { s.timebases.get u with window := (s.timebases.get u).window.map fun w =>
      { w with locked := w.locked && ((s.setTracker v x).trackers.get (w.joined.getD u)).state == .locked } } := by
  rw [setTracker_trackers]
  unfold setTracker
  cases ((s.trackers.get v).state == .locked && x.state == .holdover) <;> exact Table.get_each ..

theorem setTracker_marked (s : State) (v : Fin 2) (x : Tracker) : s.WindowsMarked (s.setTracker v x) := by
  refine ⟨fun u => ?_, fun u hu => ?_, fun u w hw => ?_⟩
  · rw [setTracker_timebase]
  · rw [setTracker_timebase, hu]
    rfl
  · rw [setTracker_timebase, hw]
    refine ⟨_, rfl, fun hb => (Bool.and_eq_true_iff.1 hb).1, fun hl _ hu => ?_⟩
    rw [hl, hu]
    rfl

theorem trackSample_marked (s old : State) : s.WindowsMarked (s.trackSample old) := by
  rw [trackSample_eq]
  refine (s.setTracker_marked 0 _).trans ((s.trackedFirst old).setTracker_marked 1 _) fun j hs hu => ?_
  match j with
  | 0 =>
    rw [setTracker_get, if_neg (by decide)] at hu
    exact hu
  | 1 =>
    rw [setTracker_get, if_neg (by decide)]
    exact hs

/-! ### Marks through the events of the last raw sample -/

/-- An event between raw samples that completes no window: marks, plan, and no tracker locked anew. -/
structure MarksKept (s u : State) : Prop extends WindowsMarked s u where
  selector : u.selector = s.selector
  cold : ∀ j, (s.trackers.get j).cold → (u.trackers.get j).cold
  locked : ∀ j, (s.trackers.get j).state = .locked → (u.trackers.get j).state = .locked ∨ (u.trackers.get j).cold

theorem MarksKept.of_same {s u : State} (ht : u.timebases = s.timebases) (hk : u.trackers = s.trackers)
    (hs : u.selector = s.selector) : s.MarksKept u :=
  ⟨.of_same ht, hs, fun j h => by rwa [hk], fun j h => .inl (by rwa [hk])⟩

theorem MarksKept.refl (s : State) : s.MarksKept s := .of_same rfl rfl rfl

theorem MarksKept.trans {s m u : State} (h : s.MarksKept m) (k : m.MarksKept u) : s.MarksKept u where
  toWindowsMarked := h.toWindowsMarked.trans k.toWindowsMarked fun j hs hu =>
    (h.locked j hs).resolve_right fun hc => (k.cold j hc).1 hu
  selector := k.selector.trans h.selector
  cold j hc := k.cold j (h.cold j hc)
  locked j hs := (h.locked j hs).elim (k.locked j) fun hc => .inr (k.cold j hc)

theorem MarksKept.foldl {α : Type} {f : State → α → State} (h : ∀ (u : State) x, u.MarksKept (f u x)) (l : List α) (s : State) :
    s.MarksKept (l.foldl f s) := by
  induction l generalizing s with
  | nil => exact .refl s
  | cons x l ih => exact (h s x).trans (ih _)

theorem setTracker_marksKept {s : State} {v : Fin 2} {x : Tracker} (hc : (s.trackers.get v).cold → x.cold)
    (hl : (s.trackers.get v).state = .locked → x.state = .locked ∨ x.cold) : s.MarksKept (s.setTracker v x) := by
  have hsel : (s.setTracker v x).selector = s.selector := by rw [setTracker_eq]
  refine ⟨s.setTracker_marked v x, hsel, fun j h => ?_, fun j h => ?_⟩ <;> rw [setTracker_get]
  · by_cases hj : v = j
    · subst hj
      rw [if_pos rfl]
      exact hc h
    · rwa [if_neg hj]
  · by_cases hj : v = j
    · subst hj
      rw [if_pos rfl]
      exact hl h
    · rw [if_neg hj]
      exact .inl h

theorem abandonCycle_marksKept (s : State) (v : Fin 2) : s.MarksKept (s.abandonCycle v) := by
  have hcold : ((((s.trackers.get v).judgePresence s.settings v).failCycle.dropRef).clearSpan).cold := by
    rw [Tracker.failCycle_eq]
    refine ⟨?_, rfl⟩
    show (if (s.trackers.get v).state = .locked then TrackerState.holdover else (s.trackers.get v).state) ≠ .locked
    split
    · exact TrackerState.noConfusion
    · assumption
  unfold abandonCycle
  dsimp only
  split
  · exact setTracker_marksKept (fun _ => hcold) fun _ => .inr hcold
  · exact .refl s

theorem endPresenceRun_marksKept (s : State) (v : Fin 2) : s.MarksKept (s.endPresenceRun v) := by
  unfold endPresenceRun
  dsimp only
  split
  · exact setTracker_marksKept id .inl
  · exact .refl s

theorem enterFreeRun_marksKept (s : State) (v : Fin 2) : s.MarksKept (s.enterFreeRun v) := by
  unfold enterFreeRun
  dsimp only
  split
  · next h =>
    refine setTracker_marksKept (fun hc => ⟨TrackerState.noConfusion, hc.2⟩) fun hl => ?_
    rw [Tracker.freeRunDue, hl] at h
    exact Bool.noConfusion h
  · exact .refl s

theorem laneDown_marksKept (s : State) (l : Fin 4) : s.MarksKept (s.laneDown l) := by
  unfold laneDown
  split
  · exact .of_same rfl rfl rfl
  · exact .refl s

theorem laneUp_marksKept (s : State) (l : Fin 4) : s.MarksKept (s.laneUp l) := by
  unfold laneUp
  split
  · exact .of_same rfl rfl rfl
  · exact .refl s

theorem clockMade_marksKept (s : State) : s.MarksKept s.clockMade := by
  have hsame := s.normalClose_same .clockMade s.clock.aligned s.clock.aligned
  unfold clockMade
  unfold sameButClose at hsame
  split
  · generalize s.normalClose .clockMade s.clock.aligned s.clock.aligned = u at *
    have ht := congrArg State.timebases hsame
    have hk := congrArg State.trackers hsame
    have hs := congrArg State.selector hsame
    exact .of_same ht hk hs
  · exact .refl s

theorem lateExpire_marksKept (s : State) : s.MarksKept s.lateExpire := by
  unfold lateExpire
  split
  · exact .of_same rfl rfl rfl
  · exact .refl s

/-- No window in progress has its last sample (R19). -/
def noneComplete (s : State) : Prop := ∀ v w, (s.timebases.get v).window = some w → w.rows.length < w.n

theorem MarksKept.noneComplete {s u : State} (h : s.MarksKept u) (hn : s.noneComplete) : u.noneComplete := fun v x hx => by
  cases hw : (s.timebases.get v).window with
  | none => exact absurd (hx.symm.trans (h.none v hw)) (Option.some_ne_none x)
  | some w =>
    obtain ⟨b, hb, -⟩ := h.some v w hw
    obtain rfl := Option.some.inj (hx.symm.trans hb)
    exact hn v w hw

/-- With no window complete the events of the last raw sample keep the windows in progress but for their marks (log 3). -/
theorem settleSample_marksKept {s : State} (hn : s.noneComplete) : s.MarksKept s.settleSample := by
  have hlanes : s.MarksKept ((List.finRange 4).foldl (fun u l => (u.laneDown l).laneUp l) s) :=
    MarksKept.foldl (fun u l => (u.laneDown_marksKept l).trans ((u.laneDown l).laneUp_marksKept l)) _ s
  have htrackers (u : State) : u.MarksKept ((List.finRange 2).foldl (fun u v => (u.abandonCycle v).endPresenceRun v) u) :=
    MarksKept.foldl (fun u v => (u.abandonCycle_marksKept v).trans ((u.abandonCycle v).endPresenceRun_marksKept v)) _ u
  have hfree (u : State) : u.MarksKept ((List.finRange 2).foldl (fun u v => u.enterFreeRun v) u) :=
    MarksKept.foldl (fun u v => u.enterFreeRun_marksKept v) _ u
  have hevents : s.MarksKept s.eventsTaken := by
    unfold eventsTaken
    dsimp only
    generalize (List.finRange 4).foldl (fun u l => (u.laneDown l).laneUp l) s = a at *
    have hb := hlanes.trans (htrackers a)
    generalize (List.finRange 2).foldl (fun u v => (u.abandonCycle v).endPresenceRun v) a = b at *
    have hnone := hb.noneComplete hn
    have hcomplete : (List.finRange 2).foldl (fun u t => u.windowComplete t) b = b :=
      foldl_fixed _ b _ fun v => windowComplete_none (hnone v)
    rw [hcomplete]
    exact hb.trans (hfree b)
  rw [settleSample_eq]
  exact (hevents.trans s.eventsTaken.clockMade_marksKept).trans s.eventsTaken.clockMade.lateExpire_marksKept

end State
end Sys2Proof.Machine
end

section
/-! PROOFS. A raw-sample instant at the interval clock and the windows (O10). -/

/- The whole text is compiled as one file: these proofs are elaborated one after another, to stay within its memory. -/
set_option Elab.async false

namespace Sys2Proof.Machine

theorem Lane.downNow_iff (x : Lane) : x.downNow = true ↔ x.downAt := by
  unfold Lane.downNow Lane.downAt Lane.downDue Lane.upDue
  cases x.up <;> simp

namespace State

/-! ### The clock (R95, R98, R110) -/

/-- Events still due are taken; then a close of the clock still due, then the end of the late allowance. -/
theorem settleSample_clock (s : State) :
    (s.closeDue = false → s.settleSample.clock = { s.clock with
      lateOpen := s.clock.lateOpen && decide (s.clock.position < s.settings.syncWindow * 32000) }) ∧
    (s.closeDue = true → ∃ late, s.settleSample.clock = { s.clock.restart s.clock.nextPair s.clock.aligned s.clock.aligned with
      lateOpen := late }) := by
  have hlate (u : State) : u.lateExpire.clock = { u.clock with
      lateOpen := u.clock.lateOpen && decide (u.clock.position < u.settings.syncWindow * 32000) } := by
    have hdef : u.syncSamples = u.settings.syncWindow * 32000 := rfl
    unfold lateExpire
    rw [hdef]
    cases ho : u.clock.lateOpen
    · have h : u.clock = { u.clock with lateOpen := false } := by rw [← ho]
      exact h
    · by_cases hp : u.clock.position < u.settings.syncWindow * 32000
      · have h : u.clock = { u.clock with lateOpen := true } := by rw [← ho]
        simp only [hp, Nat.not_le_of_lt hp, decide_false, Bool.and_false, Bool.false_eq_true, if_false, decide_true, Bool.and_self]
        exact h
      · simp only [hp, Nat.le_of_not_lt hp, decide_true, Bool.and_self, if_true, decide_false, Bool.and_false]
  have hevents := s.eventsTaken_eventKeeps
  obtain ⟨hsettings, hop, -⟩ := hevents.toSampleKeeps.fixed
  have hdue : s.eventsTaken.closeDue = s.closeDue := by
    simp only [closeDue, hevents.clock, hop, hevents.tie]
  rw [settleSample_eq, hlate]
  refine ⟨fun h => ?_, fun h => ?_⟩
  · rw [clockMade, hdue, if_neg (by simp [h]), hevents.clock, hsettings]
  · rw [clockMade, hdue, if_pos h, normalClose_eq, hevents.clock]
    exact ⟨_, rfl⟩

/-! ### The raw sample (log 10) -/

/-- What a raw sample changes of the state before it. -/
theorem takeSample_eq (s : State) : s.takeSample = { s with
    lanes := s.takeSample.lanes, channels := s.takeSample.channels, trackers := s.takeSample.trackers
    timebases := s.takeSample.timebases, notices := s.takeSample.notices
    sampleIndex := (s.sampleIndex + 1) % 2 ^ 64
    clock := { s.clock with
      position := min s.clock.samples (s.clock.position + 1)
      closeReady := s.clock.samples ≤ s.clock.position + 1 && s.tie.state != .pairedSecondary } } := by
  have hd : s.takeSample = (s.startWindows.intake.trackSample s.startWindows).sampleWindows.tickClock := rfl
  have htrack := s.startWindows.intake.trackSample_frame s.startWindows
  have hintake := s.startWindows.intake_eq
  have hstart := s.startWindows_eq
  generalize s.takeSample = x at *
  generalize s.startWindows.intake.trackSample s.startWindows = y at *
  generalize s.startWindows.intake = z at *
  generalize s.startWindows = w at *
  have heq : y = { s with
      lanes := y.lanes, channels := y.channels, trackers := y.trackers, timebases := y.timebases, notices := y.notices } := by
    rw [htrack, hintake, hstart]
  rw [hd]
  generalize y.lanes = a at *
  generalize y.channels = b at *
  generalize y.trackers = c at *
  generalize y.timebases = d at *
  generalize y.notices = e at *
  rw [heq]
  rfl

/-! ### Windows that start (R16, R18, R19, R30) -/

/-- The window of timebase `v` that starts now, where one is due. -/
def startAt (s : State) (v : Fin 2) : State :=
  if s.startDue v then { s with timebases := s.timebases.change v fun tb => { tb with window := some (s.newWindow v) } } else s

theorem startWindows_def (s : State) : s.startWindows = (s.startAt 0).startAt 1 := foldl_finRange_two _ _

theorem startDue_iff (s : State) (v : Fin 2) :
    s.startDue v = true ↔ s.arrangement.cuts v = true ∧ (s.timebases.get v).window = none := by
  simp [startDue]

theorem startAt_eq (s : State) (v : Fin 2) : s.startAt v = { s with timebases := (s.startAt v).timebases } := by
  unfold startAt
  split <;> rfl

theorem startAt_other (s : State) {v u : Fin 2} (h : v ≠ u) : (s.startAt v).timebases.get u = s.timebases.get u := by
  unfold startAt
  split
  · exact Table.get_change_other _ _ _ _ h
  · rfl

theorem startAt_due {s : State} {v : Fin 2} (h : s.startDue v = true) :
    (s.startAt v).timebases.get v = { s.timebases.get v with window := some (s.newWindow v) } := by
  rw [startAt, if_pos h]
  exact Table.get_change_same ..

theorem startAt_kept {s : State} {v : Fin 2} (h : ¬ s.startDue v = true) : s.startAt v = s := if_neg h

/-- A window in progress stands where others start (R19). -/
theorem startWindows_kept {s : State} {v : Fin 2} {w : Window} (h : (s.timebases.get v).window = some w) :
    s.startWindows.timebases.get v = s.timebases.get v := by
  have hno (u : State) (hu : u.timebases.get v = s.timebases.get v) : ¬ u.startDue v = true := fun hd => by
    rw [startDue_iff, hu, h] at hd
    exact Option.some_ne_none w hd.2
  rw [startWindows_def]
  match v with
  | 0 => rw [startAt_other _ (by decide), startAt_kept (hno s rfl)]
  | 1 =>
    have hfirst := s.startAt_other (v := 0) (u := 1) (by decide)
    rw [startAt_kept (hno _ hfirst), hfirst]

theorem newWindow_timebases (s : State) (tb : Table Timebase 2) (v : Fin 2) :
    ({ s with timebases := tb } : State).newWindow v = { s.newWindow v with
      number := (tb.get v).number
      ownsTap := Table.make fun k => ({ s with timebases := tb } : State).startOwnsTap v k } := rfl

theorem startOwnsTap_common {s : State} {l : Fin 2} (h : s.arrangement = .common l) (v : Fin 2) (k : Fin 8) :
    s.startOwnsTap v k = true := by
  simp only [startOwnsTap, h]

theorem startOwnsTap_separate {s : State} (h : s.arrangement = .separate) (v : Fin 2) (k : Fin 8) :
    s.startOwnsTap v k = true ↔ s.settings.binding.get k = v ∧
      ∀ w, (s.timebases.get (other v)).window = some w → w.ownsTap.get k = false := by
  simp only [startOwnsTap, h, Bool.and_eq_true, beq_iff_eq, Bool.not_eq_true', tapHeldBy]
  refine and_congr_right fun _ => ?_
  cases (s.timebases.get (other v)).window <;> simp

/-- What timebase 0 starts takes no tap bound to the other set (R18, log 52). -/
theorem startAt_first_taps (s : State) (h : s.arrangement = .separate) (k : Fin 8) (hk : s.settings.binding.get k = 1) :
    (∀ w, ((s.startAt 0).timebases.get (other 1)).window = some w → w.ownsTap.get k = false) ↔
      ∀ w, (s.timebases.get (other 1)).window = some w → w.ownsTap.get k = false := by
  have hother : other 1 = 0 := rfl
  rw [hother]
  by_cases hd : s.startDue 0 = true
  · have hnone := ((s.startDue_iff 0).1 hd).2
    rw [startAt_due hd, hnone]
    refine iff_of_true (fun w hw => ?_) nofun
    obtain rfl := Option.some.inj hw
    have hno : ¬ s.startOwnsTap 0 k = true := fun ho => by
      have hzero := ((startOwnsTap_separate h 0 k).1 ho).1
      rw [hk] at hzero
      exact absurd hzero (by decide)
    exact (Table.get_make ..).trans (Bool.eq_false_iff.2 hno)
  · rw [startAt_kept hd]

/-- A window that starts, but for the order in which two that start at one raw sample take their taps (log 52). -/
theorem startWindows_new {s : State} {v : Fin 2} (hw : (s.timebases.get v).window = none)
    (hc : s.arrangement.cuts v = true) : ∃ own, (s.startWindows.timebases.get v).window =
      some { s.newWindow v with ownsTap := own } ∧
      (s.arrangement = .separate → ∀ k, own.get k = true ↔ s.settings.binding.get k = v ∧
        ∀ w, (s.timebases.get (other v)).window = some w → w.ownsTap.get k = false) ∧
      ∀ l, s.arrangement = .common l → ∀ k, own.get k = true := by
  rw [startWindows_def]
  match v with
  | 0 =>
    rw [startAt_other _ (by decide), startAt_due ((s.startDue_iff 0).2 ⟨hc, hw⟩)]
    refine ⟨(s.newWindow 0).ownsTap, rfl, fun h k => ?_, fun l h k => ?_⟩
    · rw [← startOwnsTap_separate h]
      exact iff_of_eq (congrArg (· = true) (Table.get_make ..))
    · exact (Table.get_make ..).trans (startOwnsTap_common h 0 k)
  | 1 =>
    have hfirst := s.startAt_other (v := 0) (u := 1) (by decide)
    have heq := s.startAt_eq 0
    have hdue : (s.startAt 0).startDue 1 = true := by
      rw [startDue_iff, hfirst, heq]
      exact ⟨hc, hw⟩
    rw [startAt_due hdue]
    have hnumber := congrArg Timebase.number hfirst
    have hother := s.startAt_first_taps
    generalize s.startAt 0 = u at *
    generalize u.timebases = tb at *
    subst heq
    rw [newWindow_timebases, show (tb.get 1).number = (s.timebases.get 1).number from hnumber]
    refine ⟨_, rfl, fun h k => ?_, fun l h k => ?_⟩
    · rw [Table.get_make, startOwnsTap_separate (s := { s with timebases := tb }) h]
      exact and_congr_right fun hk => hother h k hk
    · exact (Table.get_make ..).trans (startOwnsTap_common (s := { s with timebases := tb }) h 1 k)

/-! ### A window in progress takes the sample (R25, R26) -/

theorem sampleWindows_timebase (s : State) (v : Fin 2) : (s.sampleWindows.tickClock.timebases.get v).window =
    (s.timebases.get v).window.map fun w => w.sample s v := by
  unfold tickClock sampleWindows
  exact congrArg Timebase.window (Table.get_each ..)

theorem Window_sample_spec (w : Window) (s : State) (v : Fin 2) :
    (w.sample s v).rows = (Table.make fun c => (s.channels.get c).last) :: w.rows ∧
    (∀ c, (w.sample s v).held.get c = (w.held.get c || (s.channels.get c).held)) ∧
    (∀ l, (w.sample s v).lanesDown.get l = (w.lanesDown.get l || (s.lanes.get l).downNow)) ∧
    (w.sample s v).locked = (w.locked && (s.trackers.get (w.joined.getD v)).state == .locked) ∧
    { w.sample s v with rows := w.rows, held := w.held, lanesDown := w.lanesDown, locked := w.locked } = w := by
  refine ⟨rfl, fun c => ?_, fun l => ?_, rfl, rfl⟩ <;> simp only [Window.sample, Table.get_each]

theorem takeSample_window {s : State} {v : Fin 2} {w : Window} (hw : (s.startWindows.timebases.get v).window = some w) :
    ∃ x, (s.takeSample.timebases.get v).window = some x ∧
      x.rows = (Table.make fun c => (s.takeSample.channels.get c).last) :: w.rows ∧
      (∀ c, x.held.get c = (w.held.get c || (s.takeSample.channels.get c).held)) ∧
      (∀ l, x.lanesDown.get l = (w.lanesDown.get l || (s.takeSample.lanes.get l).downNow)) ∧
      (x.locked = true → w.locked = true ∧ (s.takeSample.trackers.get (w.joined.getD v)).state = .locked) ∧
      (w.locked = true → (s.trackers.get (w.joined.getD v)).state = .locked →
        (s.takeSample.trackers.get (w.joined.getD v)).state = .locked → x.locked = true) ∧
      { x with rows := w.rows, held := w.held, lanesDown := w.lanesDown, locked := w.locked } = w := by
  have hmarked := s.startWindows.intake.trackSample_marked s.startWindows
  have hd : s.takeSample = (s.startWindows.intake.trackSample s.startWindows).sampleWindows.tickClock := rfl
  have htimebases : s.startWindows.intake.timebases = s.startWindows.timebases := by rw [intake_eq]
  have htrackers : s.startWindows.intake.trackers = s.trackers := by rw [intake_eq, startWindows_eq]
  rw [← htimebases] at hw
  obtain ⟨b, hb, hbw, hbl⟩ := hmarked.some v w hw
  rw [htrackers] at hbl
  have hparts := s.takeSample_parts
  obtain ⟨hk, -, hchannels, hlanes⟩ := hparts
  have hframe := s.startWindows.intake.trackSample_frame s.startWindows
  rw [hk, hd, sampleWindows_timebase]
  have hkc : (s.startWindows.intake.trackSample s.startWindows).channels = s.takeSample.channels := by rw [hchannels, hframe]
  have hkl : (s.startWindows.intake.trackSample s.startWindows).lanes = s.takeSample.lanes := by rw [hlanes, hframe]
  rw [← hd, ← hkc, ← hkl]
  generalize s.startWindows.intake.trackSample s.startWindows = k at *
  obtain ⟨hrows, hheld, hdown, hlocked, hrest⟩ := Window_sample_spec { w with locked := b } k v
  rw [hb, Option.map_some]
  generalize Window.sample { w with locked := b } k v = x at *
  refine ⟨x, rfl, hrows, hheld, hdown, fun h => ?_, fun hl hs ht => ?_, ?_⟩
  · obtain ⟨h1, h2⟩ := Bool.and_eq_true_iff.1 (hlocked.symm.trans h)
    exact ⟨hbw h1, beq_iff_eq.1 h2⟩
  · exact hlocked.trans (Bool.and_eq_true_iff.2 ⟨hbl hl hs ht, beq_iff_eq.2 ht⟩)
  · exact congrArg (fun y : Window => ({ y with locked := w.locked } : Window)) hrest

/-- What a window that starts fixes (R16, R18, R22). -/
theorem newWindow_spec (s : State) (v : Fin 2) :
    (s.newWindow v).number = (s.timebases.get v).number ∧ (s.newWindow v).start = s.sampleIndex ∧
    (s.newWindow v).n = (2 * 256000000 + (s.newWindow v).freq) / (2 * (s.newWindow v).freq) ∧
    (s.newWindow v).freq = s.trackedFreq (s.arrangement.pacer v) ∧
    (s.newWindow v).joined.getD v = s.arrangement.pacer v ∧
    ((s.newWindow v).lockedAtStart = true ↔ (s.trackers.get (s.arrangement.pacer v)).state = .locked) ∧
    (s.newWindow v).locked = (s.newWindow v).lockedAtStart ∧ (s.newWindow v).rows = [] ∧
    (∀ l, (s.newWindow v).lanesDown.get l = false) ∧
    ∀ c, (s.newWindow v).prior.get c = (s.channels.get c).last ∧ ((s.newWindow v).held.get c = true ↔
      s.settings.delay.get c < 0 ∧ (s.channels.get c).held = true) := by
  have hjoined : (s.newWindow v).joined.getD v = s.arrangement.pacer v := by
    unfold newWindow
    cases s.arrangement <;> rfl
  refine ⟨rfl, rfl, rfl, rfl, hjoined, beq_iff_eq, rfl, rfl, fun l => Table.get_all .., fun c => ⟨Table.get_make .., ?_⟩⟩
  simp [newWindow]

/-- Which sets and taps a window that starts owns by the arrangement, and whose it is (R18). -/
theorem newWindow_owns (s : State) (v : Fin 2) : (s.newWindow v).binding = s.settings.binding ∧
    (s.newWindow v).scale = s.settings.scale ∧ (s.newWindow v).delay = s.settings.delay ∧
    (s.arrangement = .separate → (s.newWindow v).joined = none ∧ ∀ u, (s.newWindow v).ownsSet.get u = true ↔ u = v) ∧
    ∀ l, s.arrangement = .common l → (s.newWindow v).joined = some l ∧ ∀ u, (s.newWindow v).ownsSet.get u = true := by
  refine ⟨rfl, rfl, rfl, fun h => ?_, fun l h => ?_⟩ <;> simp [newWindow, h]

/-- A window that starts takes the raw sample (R19, R25, R26). -/
theorem takeSample_started {s : State} {v : Fin 2} (hw : (s.timebases.get v).window = none)
    (hc : s.arrangement.cuts v = true) : ∃ (x : Window) (own : Table Bool 8), (s.takeSample.timebases.get v).window = some x ∧
      x.rows = [Table.make fun c => (s.takeSample.channels.get c).last] ∧
      (∀ c, x.held.get c = ((s.newWindow v).held.get c || (s.takeSample.channels.get c).held)) ∧
      (∀ l, x.lanesDown.get l = (s.takeSample.lanes.get l).downNow) ∧
      (x.locked = true ↔ x.lockedAtStart = true ∧
        (s.takeSample.trackers.get (s.arrangement.pacer v)).state = .locked) ∧
      x = { s.newWindow v with
        rows := x.rows, held := x.held, lanesDown := x.lanesDown, locked := x.locked, ownsTap := own } ∧
      (s.arrangement = .separate → ∀ k, own.get k = true ↔ s.settings.binding.get k = v ∧
        ∀ w, (s.timebases.get (other v)).window = some w → w.ownsTap.get k = false) ∧
      ∀ l, s.arrangement = .common l → ∀ k, own.get k = true := by
  obtain ⟨own, hstart, hseparate, hcommon⟩ := startWindows_new hw hc
  obtain ⟨-, -, -, -, hjoined, hlock, hlocked, hrows0, hdown0, -⟩ := s.newWindow_spec v
  obtain ⟨x, hx, hrows, hheld, hdown, hl1, hl2, hrest⟩ := takeSample_window hstart
  generalize s.takeSample = t at *
  generalize s.newWindow v = w at *
  have hat := congrArg Window.lockedAtStart hrest
  change x.lockedAtStart = w.lockedAtStart at hat
  rw [hjoined] at hl1 hl2
  refine ⟨x, own, hx, ?_, hheld, fun l => ?_, ⟨fun h => ?_, fun ⟨h1, h2⟩ => ?_⟩, ?_, hseparate, hcommon⟩
  · rw [hrows, hrows0]
  · rw [hdown, hdown0, Bool.false_or]
  · obtain ⟨h1, h2⟩ := hl1 h
    exact ⟨hat.trans (hlocked.symm.trans h1), h2⟩
  · have hw := hat.symm.trans h1
    exact hl2 (hlocked.trans hw) (hlock.1 hw) h2
  · exact congrArg (fun y : Window => ({ y with
      rows := x.rows, held := x.held, lanesDown := x.lanesDown, locked := x.locked } : Window)) hrest

/-! ### The raw sample whole -/

theorem takeSample_clock (s : State) : s.takeSample.clock = { s.clock with
    position := min s.clock.samples (s.clock.position + 1)
    closeReady := s.clock.samples ≤ s.clock.position + 1 && s.tie.state != .pairedSecondary } := by
  rw [takeSample_eq]

theorem takeSample_tie (s : State) : s.takeSample.tie = s.tie := by
  rw [takeSample_eq]

theorem takeSample_index (s : State) : s.takeSample.sampleIndex = (s.sampleIndex + 1) % 2 ^ 64 := by
  rw [takeSample_eq]

/-- The clock after a raw sample at which no close is due (R95, R98, R110). -/
theorem rawSample_clock_running {s : State} (h : s.closeDue = false) : s.settleSample.takeSample.clock = { s.clock with
    position := min s.clock.samples (s.clock.position + 1)
    lateOpen := s.clock.lateOpen && decide (s.clock.position < s.settings.syncWindow * 32000)
    closeReady := s.clock.samples ≤ s.clock.position + 1 && s.tie.state != .pairedSecondary } := by
  rw [takeSample_clock, s.settleSample_sampleKeeps.tie, s.settleSample_clock.1 h]
  rfl

/-- The clock after a raw sample that takes a close still due (log 3). -/
theorem rawSample_clock_closed {s : State} (h : s.closeDue = true) (hi : s.clock.index < Config.max32)
    (hl : 0 < s.clock.pendingLength.getD s.clock.length) : s.settleSample.takeSample.clock.position = 1 ∧
      s.settleSample.takeSample.clock.index = s.clock.index + 1 := by
  obtain ⟨late, hclock⟩ := s.settleSample_clock.2 h
  rw [takeSample_clock, hclock]
  have hlen : 1 ≤ s.clock.pendingLength.getD s.clock.length * Config.samplesPerMinute :=
    Nat.mul_pos hl (by decide)
  refine ⟨Nat.min_eq_right hlen, ?_⟩
  show s.clock.nextPair.1 = _
  rw [Clock.nextPair, if_pos hi]

theorem rawSample_rest (s : State) : { s.settleSample.takeSample with
    lanes := s.lanes, channels := s.channels, trackers := s.trackers, timebases := s.timebases,
    sampleIndex := s.sampleIndex, selector := s.selector, accounts := s.accounts, clock := s.clock,
    queue := s.queue, tie := s.tie, notices := s.notices } = s := by
  have hrest := congrArg (fun x : State => ({ x with sampleIndex := s.sampleIndex } : State)) s.settleSample_sampleKeeps.rest
  have heq := s.settleSample.takeSample_eq
  generalize s.settleSample.takeSample = t at *
  generalize s.settleSample = u at *
  rw [heq]
  exact hrest

/-- A tracker LOCKED before the raw sample and after it was LOCKED in between (R11, R12). -/
theorem settled_locked {s : State} (h : s.noneComplete) (j : Fin 2) (hs : (s.trackers.get j).state = .locked)
    (ht : (s.settleSample.takeSample.trackers.get j).state = .locked) : (s.settleSample.trackers.get j).state = .locked := by
  refine ((settleSample_marksKept h).locked j hs).resolve_right fun hc => ?_
  obtain ⟨htrackers, -⟩ := s.settleSample.takeSample_parts
  have hold : s.settleSample.startWindows.intake.trackers = s.settleSample.trackers := by rw [intake_eq, startWindows_eq]
  rw [htrackers, trackSample_get, hold] at ht
  exact Tracker.cold_sample hc _ _ _ ht

/-- A window in progress takes the raw sample (R25, R26). -/
theorem rawSample_window {s : State} (h : s.noneComplete) {v : Fin 2} {w : Window}
    (hw : (s.timebases.get v).window = some w) : ∃ x, (s.settleSample.takeSample.timebases.get v).window = some x ∧
      x.rows = (Table.make fun c => (s.settleSample.takeSample.channels.get c).last) :: w.rows ∧
      (∀ c, x.held.get c = (w.held.get c || (s.settleSample.takeSample.channels.get c).held)) ∧
      (∀ l, x.lanesDown.get l = (w.lanesDown.get l || (s.settleSample.takeSample.lanes.get l).downNow)) ∧
      (x.locked = true → w.locked = true ∧ (s.settleSample.takeSample.trackers.get (w.joined.getD v)).state = .locked) ∧
      (w.locked = true → (s.trackers.get (w.joined.getD v)).state = .locked →
        (s.settleSample.takeSample.trackers.get (w.joined.getD v)).state = .locked → x.locked = true) ∧
      { x with rows := w.rows, held := w.held, lanesDown := w.lanesDown, locked := w.locked } = w := by
  obtain ⟨b, hb, hbw, hbl⟩ := (settleSample_marksKept h).some v w hw
  have hsettled := settled_locked h (w.joined.getD v)
  obtain ⟨x, hx, hrows, hheld, hdown, hl1, hl2, hrest⟩ := takeSample_window (s := s.settleSample)
    ((congrArg Timebase.window (startWindows_kept hb)).trans hb)
  generalize s.settleSample.takeSample = t at *
  refine ⟨x, hx, hrows, hheld, hdown, fun hl => ?_, fun hl hs ht => ?_, ?_⟩
  · obtain ⟨h1, h2⟩ := hl1 hl
    exact ⟨hbw h1, h2⟩
  · have hu := hsettled hs ht
    exact hl2 (hbl hl hs hu) hu ht
  · exact congrArg (fun y : Window => ({ y with locked := w.locked } : Window)) hrest

/-- The clock-made close of a clock that stands at L (R95). -/
theorem clockMade_reached {s : State} (ha : s.stopped = false) (ho : s.op ≠ .starting)
    (hp : s.clock.samples ≤ s.clock.position) (hr : s.clock.closeReady = true) (ht : s.tie.state ≠ .pairedSecondary)
    (hi : s.clock.index < Config.max32) : ∃ u, exec .clockMadeClose s = .next u ∧ u.clock.position = 0 ∧
      u.clock.index = s.clock.index + 1 ∧ u.clock.part = 0 := by
  have hexec : exec .clockMadeClose s = .next (s.whenAlive clockMade) := rfl
  have hpair : s.clock.nextPair = (s.clock.index + 1, 0) := by rw [Clock.nextPair, if_pos hi]
  rw [hexec, whenAlive_running _ _ ha, clockMade_due ((s.closeDue_iff).2 ⟨ho, hr, hp, ht⟩), normalClose_eq, hpair]
  exact ⟨_, rfl, rfl, rfl, rfl⟩

theorem MarksKept.arrangement {s u : State} (h : s.MarksKept u) : u.arrangement = s.arrangement := by
  rw [State.arrangement, State.arrangement, h.selector]

/-- The clock reaches L, and its close is due at this raw sample (R95, R110). -/
theorem rawSample_reaches {s : State} (ha : s.stopped = false) (ho : s.op ≠ .starting)
    (hp : s.clock.samples ≤ s.clock.position) (ht : s.tie.state ≠ .pairedSecondary) (hno : s.closeDue = false)
    (hi : s.clock.index < Config.max32) : s.settleSample.takeSample.clock.position = s.clock.samples ∧
      s.settleSample.takeSample.clock.index = s.clock.index ∧ s.settleSample.takeSample.clock.part = s.clock.part ∧
      ∃ u, exec .clockMadeClose s.settleSample.takeSample = .next u ∧ u.clock.position = 0 ∧
        u.clock.index = s.clock.index + 1 ∧ u.clock.part = 0 := by
  have hclock := rawSample_clock_running hno
  have hrest := s.rawSample_rest
  have htie : s.settleSample.takeSample.tie.state = s.tie.state :=
    (congrArg Tie.state s.settleSample.takeSample_tie).trans s.settleSample_sampleKeeps.tie
  generalize s.settleSample.takeSample = t at *
  have hstop := congrArg State.stopped hrest
  have hop := congrArg State.op hrest
  have halive : t.stopped = false := hstop.trans ha
  have hposition : t.clock.position = s.clock.samples := by
    rw [hclock]
    exact Nat.min_eq_left (by omega)
  have hindex : t.clock.index = s.clock.index := by rw [hclock]
  have hlength : t.clock.length = s.clock.length := by rw [hclock]
  have hsamples : t.clock.samples ≤ t.clock.position := by
    rw [hposition, Clock.samples, Clock.samples, hlength]
  have hready : t.clock.closeReady = true := by
    rw [hclock]
    exact Bool.and_eq_true_iff.2 ⟨decide_eq_true (by omega), bne_iff_ne.2 ht⟩
  obtain ⟨u, hu, hup, hui, hupart⟩ := clockMade_reached halive (fun h => ho (hop.symm.trans h)) hsamples hready
    (by rwa [htie]) (by rwa [hindex])
  exact ⟨hposition, hindex, by rw [hclock], u, hu, hup, by rw [hui, hindex], hupart⟩

end State

/-- Settles O10: the clock by whether its close is due, then the windows in progress and those that start. -/
theorem rawSampleClock : Obligations.RawSampleClock := by
  intro s ha
  refine ⟨fun ho => ?_, fun ho => ?_⟩
  · have hexec : exec .rawSampleInstant s = .next (s.whenAlive State.rawSample) := rfl
    rw [hexec, State.whenAlive_running _ _ ha, State.rawSample, if_pos (beq_iff_eq.2 ho)]
  · have hkeeps := s.settleSample_sampleKeeps
    obtain ⟨hsettings, hop, hindex⟩ := hkeeps.fixed
    have hrest := s.rawSample_rest
    rw [State.rawSample_settled ha ho]
    refine ⟨_, rfl, ?_, fun hp => ?_, fun hp ht => ?_, fun hp ht hr hi => ?_, fun hp ht hr hi hl => ?_, fun hn =>
      ⟨fun v w hw => ?_, fun v hw hc => ?_⟩, hrest⟩
    · rw [State.takeSample_index, hindex]
    · have hno : s.closeDue = false := Bool.eq_false_iff.2 fun h => by
        have := ((s.closeDue_iff).1 h).2.2.1
        omega
      have hnext : min s.clock.samples (s.clock.position + 1) = s.clock.position + 1 := Nat.min_eq_right hp
      have hready : decide (s.clock.samples ≤ s.clock.position + 1) = decide (s.clock.samples = s.clock.position + 1) :=
        decide_eq_decide.2 (by omega)
      rw [State.rawSample_clock_running hno, hnext, hready]
    · have hno : s.closeDue = false := Bool.eq_false_iff.2 fun h => ((s.closeDue_iff).1 h).2.2.2 ht
      rw [State.rawSample_clock_running hno, ht]
      exact ⟨Bool.and_false _, Nat.min_eq_left (by omega), rfl, rfl⟩
    · have hno : s.closeDue = false := Bool.eq_false_iff.2 fun h =>
        Bool.false_ne_true (hr.symm.trans ((s.closeDue_iff).1 h).2.1)
      exact State.rawSample_reaches ha ho hp ht hno hi
    · exact State.rawSample_clock_closed ((s.closeDue_iff).2 ⟨ho, hr, hp, ht⟩) hi hl
    · obtain ⟨x, hx, hrows, hheld, hdown, hl1, hl2, hrest⟩ := State.rawSample_window hn hw
      exact ⟨x, _, hx, hrows, fun c => Table.get_make .., fun c => by rw [hheld, Bool.or_eq_true],
        fun l => by rw [hdown, Bool.or_eq_true, Lane.downNow_iff], hl1, hl2, hrest⟩
    · have hmarks := State.settleSample_marksKept hn
      have harr : s.settleSample.arrangement = s.arrangement := hmarks.arrangement
      have hcuts : s.settleSample.arrangement.cuts v = true := (congrArg (Arrangement.cuts · v) harr).trans hc
      obtain ⟨x, own, hx, hrows, hheld, hdown, hlocked, hrest, hseparate, hcommon⟩ :=
        State.takeSample_started (s := s.settleSample) (hmarks.none v hw) hcuts
      obtain ⟨hnum, hfrom, hn, hfreq, -, hlock, -, -, -, hchannel⟩ := s.settleSample.newWindow_spec v
      obtain ⟨hbinding, hscale, hdelay, hsep, hcom⟩ := s.settleSample.newWindow_owns v
      have hnumber := congrArg Timebase.number (hmarks.timebase v)
      rw [harr] at hlocked
      generalize s.settleSample.takeSample = t at *
      generalize s.settleSample.newWindow v = w at *
      generalize x.rows = a at *
      generalize x.held = b at *
      generalize x.lanesDown = d at *
      generalize x.locked = e at *
      subst hrest
      refine ⟨_, hx, ?_, hnum.trans hnumber, hfrom.trans hindex, hn, fun c => ?_, fun l => ?_, hlocked, fun hs => ?_⟩
      · rw [hrows]
        rfl
      · rw [hrows]
        exact Table.get_make ..
      · rw [hdown, Lane.downNow_iff]
      · rw [hs] at hfreq hlock hchannel hbinding hscale hdelay hsep hcom hseparate hcommon
        refine ⟨hfreq, hlock, fun c => ⟨(hchannel c).1, ?_⟩, hbinding, hscale, hdelay, fun h => ?_, fun l h => ?_⟩
        · rw [hheld, Bool.or_eq_true, (hchannel c).2]
          exact or_comm
        · exact ⟨(hsep h).1, (hsep h).2, hseparate h⟩
        · exact ⟨(hcom l h).1, (hcom l h).2, hcommon l h⟩

end Sys2Proof.Machine
end

section
/-! PROOFS. The cosines of the transform (O14): how far the model's integers lie from the exact values. -/

/- The whole text is compiled as one file: these proofs are elaborated one after another, to stay within its memory. -/
set_option Elab.async false

namespace Sys2Proof.Machine

/-! ### Half angles -/

/-- The unit of the model's cosines. -/
noncomputable def cosUnit : ℝ := 2 ^ cosBits

theorem cosUnit_pos : 0 < cosUnit := by
  unfold cosUnit
  positivity

/-- The integer `c` is the cosine `r` within `d` units. -/
def nearCos (d : ℝ) (c : Int) (r : ℝ) : Prop := |(c : ℝ) - cosUnit * r| ≤ d

theorem sqrt_close {a b d : ℝ} (ha : 0 ≤ a) (hb : 1 / 4 ≤ b) (h : |a - b| ≤ d) : |Real.sqrt a - Real.sqrt b| ≤ 2 * d := by
  have hroot : 1 / 2 ≤ Real.sqrt b := Real.le_sqrt_of_sq_le (by linarith)
  have hprod : (Real.sqrt a - Real.sqrt b) * (Real.sqrt a + Real.sqrt b) = a - b := by
    have h1 := Real.mul_self_sqrt ha
    have h2 := Real.mul_self_sqrt (show 0 ≤ b by linarith)
    linear_combination h1 - h2
  have habs : |Real.sqrt a - Real.sqrt b| * (Real.sqrt a + Real.sqrt b) = |a - b| := by
    rw [← hprod, abs_mul, abs_of_nonneg (show 0 ≤ Real.sqrt a + Real.sqrt b by positivity)]
  have hsum : 1 / 2 ≤ Real.sqrt a + Real.sqrt b := by linarith [Real.sqrt_nonneg a]
  nlinarith [abs_nonneg (Real.sqrt a - Real.sqrt b)]

theorem cosUnit_cast : ((2 ^ cosBits : Nat) : ℝ) = cosUnit := by
  rw [cosUnit, Nat.cast_pow, Nat.cast_ofNat]

/-- The half angle's integer is the exact root, cut off. -/
theorem halfAngle_root (c : Nat) :
    |(halfAngle c : ℝ) - cosUnit * Real.sqrt ((1 + c / cosUnit) / 2)| ≤ 1 := by
  have hB := cosUnit_pos
  have hroot : cosUnit * Real.sqrt ((1 + c / cosUnit) / 2) = Real.sqrt ((cosUnit + c) * cosUnit / 2) := by
    rw [← Real.sqrt_sq hB.le, ← Real.sqrt_mul (sq_nonneg _), Real.sqrt_sq hB.le]
    congr 1
    field_simp
  have hdiv : 2 * ((2 ^ cosBits + c) * 2 ^ cosBits / 2) ≤ (2 ^ cosBits + c) * 2 ^ cosBits := Nat.mul_div_le _ _
  have hlt : (2 ^ cosBits + c) * 2 ^ cosBits < 2 * ((2 ^ cosBits + c) * 2 ^ cosBits / 2 + 1) := by omega
  obtain ⟨hlow, hhigh⟩ := isqrt_spec ((2 ^ cosBits + c) * 2 ^ cosBits / 2)
  rw [hroot, halfAngle]
  have hcast : (((2 ^ cosBits + c) * 2 ^ cosBits : Nat) : ℝ) = (cosUnit + c) * cosUnit := by
    rw [Nat.cast_mul, Nat.cast_add, cosUnit_cast]
  generalize (2 ^ cosBits + c) * 2 ^ cosBits = p at *
  generalize isqrt (p / 2) = h at *
  rw [← hcast]
  have h1 : ((2 * (h * h) : Nat) : ℝ) ≤ p := Nat.cast_le.2 ((Nat.mul_le_mul_left 2 hlow).trans hdiv)
  have h2 : (p : ℝ) ≤ (2 * ((h + 1) * (h + 1)) : Nat) := Nat.cast_le.2 (by omega)
  push_cast at h1 h2
  rw [abs_le]
  constructor
  · have := Real.sqrt_le_sqrt (show (p : ℝ) / 2 ≤ (h + 1) * (h + 1) by linarith)
    rw [Real.sqrt_mul_self (by positivity)] at this
    linarith
  · have : (h : ℝ) ≤ Real.sqrt (p / 2) := Real.le_sqrt_of_sq_le (by nlinarith)
    linarith

/-- A half angle is as near as the angle, and one unit. -/
theorem halfAngle_near {c : Nat} {d θ : ℝ} (h : nearCos d c (Real.cos θ)) (h0 : 0 ≤ θ) (h1 : θ ≤ Real.pi / 2) :
    nearCos (d + 1) (halfAngle c) (Real.cos (θ / 2)) := by
  have hB := cosUnit_pos
  have hcos : 0 ≤ Real.cos θ := Real.cos_nonneg_of_mem_Icc ⟨by linarith [Real.pi_pos], h1⟩
  have hc : |(1 + c / cosUnit) / 2 - (1 + Real.cos θ) / 2| ≤ d / cosUnit / 2 := by
    have : (1 + c / cosUnit) / 2 - (1 + Real.cos θ) / 2 = ((c : ℝ) - cosUnit * Real.cos θ) / cosUnit / 2 := by
      field_simp
      ring
    rw [this, abs_div, abs_div, abs_of_pos hB, abs_of_pos (zero_lt_two' ℝ)]
    exact div_le_div_of_nonneg_right (div_le_div_of_nonneg_right h hB.le) zero_le_two
  have hroots := sqrt_close (by positivity) (by linarith) hc
  rw [← Real.cos_half (by linarith [Real.pi_pos]) (by linarith [Real.pi_pos])] at hroots
  have hcut := halfAngle_root c
  unfold nearCos
  rw [Int.cast_natCast]
  calc |(halfAngle c : ℝ) - cosUnit * Real.cos (θ / 2)|
      ≤ |(halfAngle c : ℝ) - cosUnit * Real.sqrt ((1 + c / cosUnit) / 2)| +
        |cosUnit * Real.sqrt ((1 + c / cosUnit) / 2) - cosUnit * Real.cos (θ / 2)| := abs_sub_le _ _ _
    _ ≤ 1 + cosUnit * (2 * (d / cosUnit / 2)) := by
      refine add_le_add hcut ?_
      rw [← mul_sub, abs_mul, abs_of_pos hB]
      exact mul_le_mul_of_nonneg_left hroots hB.le
    _ = d + 1 := by
      field_simp
      ring

/-- The angle of the transform's table: a 128th of a turn. -/
noncomputable def turn128 : ℝ := 2 * Real.pi / 128

theorem cosStep_near : nearCos 5 cosStep (Real.cos turn128) := by
  have hpi := Real.pi_pos
  have h0 : nearCos 0 (0 : Nat) (Real.cos (Real.pi / 2)) := by
    rw [nearCos, Real.cos_pi_div_two]
    norm_num
  have h1 := halfAngle_near h0 (by linarith) (by linarith)
  have h2 := halfAngle_near h1 (by linarith) (by linarith)
  have h3 := halfAngle_near h2 (by linarith) (by linarith)
  have h4 := halfAngle_near h3 (by linarith) (by linarith)
  have h5 := halfAngle_near h4 (by linarith) (by linarith)
  rw [cosStep, turn128, show 2 * Real.pi / 128 = Real.pi / 2 / 2 / 2 / 2 / 2 / 2 by ring]
  rw [show (0 : ℝ) + 1 + 1 + 1 + 1 + 1 = 5 by norm_num] at h5
  exact h5

/-! ### Multiples of the angle -/

theorem cos_turn_succ (k : Nat) :
    Real.cos (turn128 * (k + 2 : Nat)) = 2 * Real.cos turn128 * Real.cos (turn128 * (k + 1 : Nat)) - Real.cos (turn128 * k) := by
  have h := Real.cos_add_cos (turn128 * (k + 2 : Nat)) (turn128 * k)
  have h1 : (turn128 * (k + 2 : Nat) + turn128 * k) / 2 = turn128 * (k + 1 : Nat) := by
    push_cast
    ring
  have h2 : (turn128 * (k + 2 : Nat) - turn128 * k) / 2 = turn128 := by
    push_cast
    ring
  rw [h1, h2] at h
  linear_combination h

theorem floorDiv_near (t : Int) : |((t / 2 ^ cosBits : Int) : ℝ) - t / cosUnit| ≤ 1 := by
  have hB := cosUnit_pos
  have hcast : (((2 : Int) ^ cosBits : Int) : ℝ) = cosUnit := by
    rw [cosUnit, Int.cast_pow, Int.cast_ofNat]
  have hpos : (0 : Int) < 2 ^ cosBits := pow_pos (by decide) _
  have h1 := Int.mul_ediv_self_le (x := t) hpos.ne'
  have h2 := Int.lt_mul_ediv_self_add (x := t) hpos
  generalize (2 : Int) ^ cosBits = u at *
  have h1' : ((u * (t / u) : Int) : ℝ) ≤ t := Int.cast_le.2 h1
  have h2' : (t : ℝ) < ((u * (t / u) + u : Int) : ℝ) := Int.cast_lt.2 h2
  push_cast [hcast] at h1' h2'
  rw [abs_le]
  constructor
  · rw [neg_le_sub_iff_le_add, div_le_iff₀ hB]
    linarith
  · rw [sub_le_iff_le_add]
    have : (t / u : Int) ≤ (t : ℝ) / cosUnit := (le_div_iff₀ hB).2 (by linarith)
    linarith

/-- The product of two near cosines, over the unit. -/
theorem product_near {a b : Int} {d e x y : ℝ} (ha : nearCos d a x) (hb : nearCos e b y) (hx : |x| ≤ 1) (hy : |y| ≤ 1)
    (he : e ≤ cosUnit) : |(a : ℝ) * b / cosUnit - cosUnit * (x * y)| ≤ e + 2 * d := by
  have hB := cosUnit_pos
  have hd : 0 ≤ d := (abs_nonneg _).trans ha
  have hsplit : (a : ℝ) * b / cosUnit - cosUnit * (x * y) =
      x * (b - cosUnit * y) + (a - cosUnit * x) * y + (a - cosUnit * x) * ((b - cosUnit * y) / cosUnit) := by
    field_simp
    ring
  have hratio : |((b : ℝ) - cosUnit * y) / cosUnit| ≤ 1 := by
    rw [abs_div, abs_of_pos hB, div_le_one hB]
    exact hb.trans he
  rw [hsplit]
  calc |x * ((b : ℝ) - cosUnit * y) + (a - cosUnit * x) * y + (a - cosUnit * x) * ((b - cosUnit * y) / cosUnit)|
      ≤ |x * ((b : ℝ) - cosUnit * y)| + |((a : ℝ) - cosUnit * x) * y| +
        |((a : ℝ) - cosUnit * x) * ((b - cosUnit * y) / cosUnit)| := abs_add_three _ _ _
    _ ≤ 1 * e + d * 1 + d * 1 := by
      simp only [abs_mul]
      gcongr
      · exact hb
      · exact ha
      · exact ha
    _ = e + 2 * d := by ring

/-- One step of the chain: the errors of two neighbours give that of the next. -/
theorem chain_step_near {a b : Int} {d e : ℝ} {k : Nat} (ha : nearCos d a (Real.cos (turn128 * k)))
    (hb : nearCos e b (Real.cos (turn128 * (k + 1 : Nat)))) (he : e ≤ cosUnit) :
    nearCos (2 * e + d + 21) (2 * cosStep * b / 2 ^ cosBits - a) (Real.cos (turn128 * (k + 2 : Nat))) := by
  have hprod := product_near cosStep_near hb (Real.abs_cos_le_one _) (Real.abs_cos_le_one _) he
  have hcut := floorDiv_near (2 * cosStep * b)
  unfold nearCos at ha ⊢
  rw [cos_turn_succ]
  generalize 2 * (cosStep : Int) * b / 2 ^ cosBits = q at *
  push_cast at hcut hprod ⊢
  generalize (cosStep : ℝ) = S at *
  rw [show 2 * S * (b : ℝ) / cosUnit = 2 * (S * b / cosUnit) by ring] at hcut
  rw [abs_le] at *
  obtain ⟨ha1, ha2⟩ := ha
  obtain ⟨hp1, hp2⟩ := hprod
  obtain ⟨hc1, hc2⟩ := hcut
  constructor <;> nlinarith

/-- The chain's error after `k` steps. -/
noncomputable def chainError (k : Nat) : ℝ := 16 * 4 ^ k

theorem nearCos_mono {c : Int} {d e r : ℝ} (h : nearCos d c r) (hle : d ≤ e) : nearCos e c r := le_trans h hle

theorem chainError_step (k : Nat) : 2 * chainError (k + 1) + chainError k + 21 ≤ chainError (k + 2) := by
  have h : (1 : ℝ) ≤ 4 ^ k := one_le_pow₀ (by norm_num)
  unfold chainError
  rw [pow_succ, pow_add]
  linarith

theorem cosChain_near (n : Nat) : ∀ (k i : Nat) (a b : Int), nearCos (chainError k) a (Real.cos (turn128 * k)) →
    nearCos (chainError (k + 1)) b (Real.cos (turn128 * (k + 1 : Nat))) → k + n ≤ 1000 → i < n →
    nearCos (chainError (k + i)) ((cosChain n a b).getD i 0) (Real.cos (turn128 * (k + i : Nat))) := by
  induction n with
  | zero => intro k i a b _ _ _ hi; exact absurd hi (Nat.not_lt_zero _)
  | succ n ih =>
    intro k i a b ha hb hk hi
    rw [cosChain]
    cases i with
    | zero => exact ha
    | succ i =>
      rw [List.getD_cons_succ, show k + (i + 1) = k + 1 + i by omega]
      refine ih (k + 1) i _ _ hb (nearCos_mono (chain_step_near ha hb ?_) (chainError_step k)) (by omega) (by omega)
      have h16 : chainError (k + 1) = 2 ^ (2 * (k + 1) + 4) := by
        rw [chainError, pow_add 2 (2 * (k + 1)), pow_mul 2 2 (k + 1)]
        norm_num [mul_comm]
      rw [h16, cosUnit]
      exact pow_le_pow_right₀ (by norm_num) (by rw [cosBits]; omega)

/-- The error of every cosine of the table. -/
noncomputable def cosError : ℝ := 2 ^ 68

theorem cosQuarter_near {j : Nat} (hj : j < 32) : nearCos cosError (cosQuarter.getD j 0) (Real.cos (turn128 * j)) := by
  have hone : nearCos (chainError 0) (2 ^ cosBits) (Real.cos (turn128 * (0 : Nat))) := by
    rw [nearCos, Nat.cast_zero, mul_zero, Real.cos_zero, mul_one, cosUnit, Int.cast_pow, Int.cast_ofNat, sub_self, abs_zero]
    unfold chainError
    positivity
  have hstep : nearCos (chainError 1) cosStep (Real.cos (turn128 * (0 + 1 : Nat))) := by
    rw [Nat.zero_add, Nat.cast_one, mul_one]
    exact nearCos_mono cosStep_near (by unfold chainError; norm_num)
  have h := cosChain_near 32 0 j _ _ hone hstep (by decide) hj
  rw [Nat.zero_add] at h
  rw [cosQuarter]
  refine nearCos_mono h ?_
  rw [chainError, cosError]
  calc (16 : ℝ) * 4 ^ j ≤ 16 * 4 ^ 31 :=
        mul_le_mul_of_nonneg_left (pow_le_pow_right₀ (by norm_num) (Nat.le_of_lt_succ hj)) (by norm_num)
    _ ≤ 2 ^ 68 := by norm_num

/-! ### The table of the cosines -/

/-- The cosine of the table by its symmetries, for an angle of at most half a turn. -/
theorem cosHalf_near {j : Nat} (hj : j ≤ 64) :
    nearCos cosError (if j = 32 then 0 else if 32 < j then -(cosQuarter.getD (64 - j) 0) else cosQuarter.getD j 0)
      (Real.cos (turn128 * j)) := by
  split
  · next h =>
    have hcos : Real.cos (turn128 * (32 : Nat)) = 0 := by
      rw [turn128, show 2 * Real.pi / 128 * ((32 : Nat) : ℝ) = Real.pi / 2 by push_cast; ring, Real.cos_pi_div_two]
    rw [h, nearCos, hcos, Int.cast_zero, mul_zero, sub_zero, abs_zero, cosError]
    positivity
  · next h =>
    split
    · next hlt =>
      have hangle : turn128 * (64 - j : Nat) = Real.pi - turn128 * j := by
        rw [Nat.cast_sub hj, turn128]
        push_cast
        ring
      have hnear := cosQuarter_near (show 64 - j < 32 by omega)
      rw [hangle, Real.cos_pi_sub] at hnear
      unfold nearCos at hnear ⊢
      rw [← abs_neg]
      refine le_of_eq_of_le (congrArg _ ?_) hnear
      push_cast
      ring
    · exact cosQuarter_near (by omega)

theorem cos_turn_mod (j : Nat) : Real.cos (turn128 * (j % 128 : Nat)) = Real.cos (turn128 * j) := by
  rw [← Real.cos_add_nat_mul_two_pi _ (j / 128)]
  congr 1
  have h : ((128 * (j / 128) + j % 128 : Nat) : ℝ) = j := by rw [Nat.div_add_mod]
  push_cast at h
  rw [← h, turn128]
  ring

theorem cos128_near (j : Nat) : nearCos cosError (cos128 j) (Real.cos (turn128 * j)) := by
  rw [← cos_turn_mod, cos128]
  have hlt : j % 128 < 128 := Nat.mod_lt _ (by decide)
  generalize j % 128 = m at *
  by_cases h : 64 < m
  · have hangle : turn128 * m = 2 * Real.pi - turn128 * (128 - m : Nat) := by
      rw [Nat.cast_sub hlt.le, turn128]
      push_cast
      ring
    rw [hangle, Real.cos_two_pi_sub, if_pos h]
    exact cosHalf_near (by omega)
  · rw [if_neg h]
    exact cosHalf_near (by omega)

theorem sin128_near (j : Nat) : nearCos cosError (sin128 j) (Real.sin (turn128 * j)) := by
  have hangle : turn128 * (j + 96 : Nat) = turn128 * j - Real.pi / 2 + 2 * Real.pi := by
    rw [turn128]
    push_cast
    ring
  have h := cos128_near (j + 96)
  rwa [hangle, Real.cos_add_two_pi, Real.cos_sub_pi_div_two] at h

theorem cos128_mod (j : Nat) : cos128 (j % 128) = cos128 j := by
  rw [cos128, cos128, Nat.mod_mod]

theorem sin128_mod (j : Nat) : sin128 (j % 128) = sin128 j := by
  rw [sin128, sin128, ← cos128_mod (j % 128 + 96), ← cos128_mod (j + 96), Nat.mod_add_mod]

end Sys2Proof.Machine
end

section
/-! PROOFS. The RMS and phasor values of a completed window (O14). -/

/- The whole text is compiled as one file: these proofs are elaborated one after another, to stay within its memory. -/
set_option Elab.async false

namespace Sys2Proof.Machine

/-! ### Resampling -/

namespace Window

/-- The delivered code at position `j` of channel `c`'s window. -/
noncomputable def codeAt (w : Window) (c : Fin 30) (j : Int) : ℝ :=
  (((w.prior.get c :: w.rows.reverse.map (·.get c)).getD (j + 1).toNat 0 : Int) : ℝ)

/-- The place of the resampled point `m` among the delivered codes (R21). -/
noncomputable def place (w : Window) (c : Fin 30) (m : Nat) : ℝ := m * w.n / 1024 + w.delay.get c / 256

/-- The resampled point `m` (R21). -/
noncomputable def point (w : Window) (c : Fin 30) (m : Nat) : ℝ :=
  w.codeAt c ⌊w.place c m⌋ + Int.fract (w.place c m) * (w.codeAt c (⌊w.place c m⌋ + 1) - w.codeAt c ⌊w.place c m⌋)

theorem codes_getD (w : Window) (c : Fin 30) (j : Int) : (((w.codes c).getD (j + 1).toNat 0 : Int) : ℝ) = w.codeAt c j := by
  rw [codes, Array.getD_eq_getD_getElem?, List.getElem?_toArray, ← List.getD_eq_getElem?_getD, codeAt]

variable (w : Window) (c : Fin 30) (m : Nat)

/-- The place, times 1024. -/
def place1024 : Int := (m * w.n : Nat) + 4 * w.delay.get c

theorem place_eq : w.place c m = (w.place1024 c m / 1024 : Int) + ((w.place1024 c m % 1024 : Int) : ℝ) / 1024 := by
  have h : ((1024 * (w.place1024 c m / 1024) + w.place1024 c m % 1024 : Int) : ℝ) = w.place1024 c m :=
    congrArg _ (Int.mul_ediv_add_emod _ _)
  have hplace : (w.place1024 c m : ℝ) = m * w.n + 4 * w.delay.get c := by
    rw [place1024]
    push_cast
    ring
  push_cast at h
  rw [place]
  linarith

theorem place_floor : ⌊w.place c m⌋ = w.place1024 c m / 1024 := by
  have h0 : (0 : ℝ) ≤ (w.place1024 c m % 1024 : Int) := Int.cast_nonneg (Int.emod_nonneg _ (by decide))
  have h1 : ((w.place1024 c m % 1024 : Int) : ℝ) < 1024 := by
    exact_mod_cast Int.emod_lt_of_pos (w.place1024 c m) (by decide)
  rw [place_eq, Int.floor_intCast_add, Int.floor_eq_zero_iff.2 ⟨by positivity, by linarith⟩, add_zero]

theorem place_fract : Int.fract (w.place c m) = ((w.place1024 c m % 1024 : Int) : ℝ) / 1024 := by
  rw [Int.fract, place_floor, place_eq]
  ring

/-- The model's integers are the resampled points times 1024. -/
theorem resample_eq : ((resample (w.codes c) w.n (w.delay.get c) m : Int) : ℝ) = 1024 * w.point c m := by
  have h : resample (w.codes c) w.n (w.delay.get c) m =
      1024 * (w.codes c).getD (w.place1024 c m / 1024 + 1).toNat 0 + w.place1024 c m % 1024 *
        ((w.codes c).getD (w.place1024 c m / 1024 + 1 + 1).toNat 0 -
          (w.codes c).getD (w.place1024 c m / 1024 + 1).toNat 0) := by
    rw [Int.add_assoc]
    rfl
  rw [h, point, place_floor, place_fract]
  push_cast
  rw [codes_getD, codes_getD]
  ring

theorem point_bound (h : ∀ j, |w.codeAt c j| ≤ 8388608) : |w.point c m| ≤ 8388608 := by
  have h0 := Int.fract_nonneg (w.place c m)
  have h1 := (Int.fract_lt_one (w.place c m)).le
  rw [point]
  have ha := abs_le.1 (h ⌊w.place c m⌋)
  have hb := abs_le.1 (h (⌊w.place c m⌋ + 1))
  generalize Int.fract (w.place c m) = u at *
  generalize w.codeAt c ⌊w.place c m⌋ = a at *
  generalize w.codeAt c (⌊w.place c m⌋ + 1) = b at *
  obtain ⟨ha1, ha2⟩ := ha
  obtain ⟨hb1, hb2⟩ := hb
  rw [abs_le]
  constructor <;> nlinarith

end Window

/-! ### Sums over the points -/

theorem sum_map_range {α : Type} [AddCommMonoid α] (n : Nat) (f : Nat → α) :
    ((List.range n).map f).sum = ∑ i ∈ Finset.range n, f i := by
  induction n with
  | zero => rfl
  | succ n ih => rw [List.range_succ, List.map_append, List.sum_append, ih, Finset.sum_range_succ]; simp

/-- A sum over 128·k places, by the place modulo 128. -/
theorem sum_range_fold (k : Nat) (f : Nat → Int) :
    ∑ m ∈ Finset.range (128 * k), f m = ∑ r ∈ Finset.range 128, ∑ q ∈ Finset.range k, f (128 * q + r) := by
  rw [Finset.sum_comm]
  induction k with
  | zero => rfl
  | succ k ih => rw [Nat.mul_succ, Finset.sum_range_add, ih, Finset.sum_range_succ (fun q => ∑ r ∈ Finset.range 128, f (128 * q + r)) k]

/-- The folded and weighted sum is that over all points, for weights of period 128. -/
theorem weighted_eq (points : Array Int) (f : Nat → Int) (hf : ∀ j, f (j % 128) = f j) (h : Nat) :
    weighted (fold128 points) f h = ∑ m ∈ Finset.range 1024, points.getD m 0 * f (h * m) := by
  have hlist (n : Nat) (g : Nat → Int) : (((List.range n).map g).zipIdx.map fun x => x.1 * f (h * x.2)) =
      (List.range n).map fun r => g r * f (h * r) := by
    apply List.ext_getElem
    · simp
    · intro i h1 h2
      simp
  rw [weighted, fold128, hlist, sum_map_range, show 1024 = 128 * 8 from rfl, sum_range_fold]
  refine Finset.sum_congr rfl fun r _ => ?_
  rw [sum_map_range, Finset.sum_mul]
  refine Finset.sum_congr rfl fun q _ => ?_
  rw [← hf (h * (128 * q + r)), ← hf (h * r)]
  congr 2
  rw [Nat.mul_add, Nat.mul_left_comm, Nat.mul_add_mod]

/-- The weighted sum of bounded points is as near as the weights. -/
theorem weighted_near {points : Array Int} {f : Nat → Int} {g : Nat → ℝ} {x : Nat → ℝ} (hf : ∀ j, f (j % 128) = f j)
    (hnear : ∀ j, nearCos cosError (f j) (g j)) (hx : ∀ m, m < 1024 → (points.getD m 0 : ℝ) = 1024 * x m)
    (hbound : ∀ m, |x m| ≤ 8388608) (h : Nat) :
    |(weighted (fold128 points) f h : ℝ) - 1024 * cosUnit * ∑ m ∈ Finset.range 1024, x m * g (h * m)| ≤ 2 ^ 111 := by
  have hsplit : (weighted (fold128 points) f h : ℝ) - 1024 * cosUnit * ∑ m ∈ Finset.range 1024, x m * g (h * m) =
      ∑ m ∈ Finset.range 1024, 1024 * x m * (f (h * m) - cosUnit * g (h * m)) := by
    rw [weighted_eq points f hf, Int.cast_sum, Finset.mul_sum, ← Finset.sum_sub_distrib]
    refine Finset.sum_congr rfl fun m hm => ?_
    rw [Int.cast_mul, hx m (Finset.mem_range.1 hm)]
    ring
  have hterm : ∀ m ∈ Finset.range 1024, |1024 * x m * (f (h * m) - cosUnit * g (h * m))| ≤ 1024 * 8388608 * cosError := by
    intro m _
    rw [abs_mul, abs_mul, abs_of_pos (show (0 : ℝ) < 1024 by norm_num)]
    exact mul_le_mul (mul_le_mul_of_nonneg_left (hbound m) (by norm_num)) (hnear _) (abs_nonneg _) (by norm_num)
  rw [hsplit]
  refine (Finset.abs_sum_le_sum_abs _ _).trans ((Finset.sum_le_sum hterm).trans ?_)
  rw [Finset.sum_const, Finset.card_range, nsmul_eq_mul, cosError]
  norm_num

/-! ### Rounding -/

/-- A quotient rounded half away from zero is within half of it. -/
theorem roundHalfAway_near (num : Int) {den : Nat} (hden : 0 < den) :
    |(roundHalfAway num den : ℝ) - num / den| ≤ 1 / 2 := by
  have hpos : (0 : ℝ) < den := Nat.cast_pos.2 hden
  have hup (k : Nat) : |(roundHalfUp k den : ℝ) - k / den| ≤ 1 / 2 := by
    obtain ⟨h1, h2⟩ := roundHalfUp_spec k den hden
    generalize roundHalfUp k den = q at *
    have h1' : ((2 * den * q : Nat) : ℝ) ≤ (2 * k + den : Nat) := Nat.cast_le.2 h1
    have h2' : ((2 * k : Nat) : ℝ) < (2 * den * q + den : Nat) := Nat.cast_lt.2 h2
    push_cast at h1' h2'
    have hq : (q : ℝ) - k / den = (q * den - k) / den := by field_simp
    rw [hq, abs_div, abs_of_pos hpos, div_le_iff₀ hpos, abs_le]
    constructor <;> linarith
  have h := hup num.natAbs
  rw [roundHalfAway]
  split
  · next hneg =>
    have habs : ((num.natAbs : Nat) : ℝ) = -num := by
      rw [Nat.cast_natAbs, abs_of_neg hneg, Int.cast_neg]
    rw [habs] at h
    rw [← abs_neg]
    refine le_of_eq_of_le (congrArg _ ?_) h
    push_cast
    ring
  · next hpos' =>
    have habs : ((num.natAbs : Nat) : ℝ) = num := by
      rw [Nat.cast_natAbs, abs_of_nonneg (not_lt.1 hpos')]
    rwa [habs] at h

/-- A part is the exact value rounded, and held at its bounds. -/
def roundedPart (part : Int) (exact : ℝ) : Prop :=
  (|exact| ≤ 2147483647 → |(part : ℝ) - exact| ≤ 1 / 2 + 1 / 2 ^ 1000) ∧
  (2147483648 ≤ exact → part = 2147483647) ∧ (exact ≤ -2147483648 → part = -2147483647)

theorem clampInt_of_near {z : Int} {exact : ℝ} (h : |(z : ℝ) - exact| ≤ 1 / 2 + 1 / 2 ^ 1000) :
    roundedPart (clampInt 2147483647 z) exact := by
  have hsmall : (1 : ℝ) / 2 ^ 1000 ≤ 1 / 4 := by
    rw [show (4 : ℝ) = 2 ^ 2 by norm_num]
    exact one_div_le_one_div_of_le (by norm_num) (pow_le_pow_right₀ (by norm_num) (by norm_num))
  unfold roundedPart clampInt
  generalize (1 : ℝ) / 2 ^ 1000 = e at *
  obtain ⟨h1, h2⟩ := abs_le.1 h
  refine ⟨fun hexact => ?_, fun hexact => ?_, fun hexact => ?_⟩
  · obtain ⟨he1, he2⟩ := abs_le.1 hexact
    push_cast
    rw [abs_le]
    rcases max_cases (-2147483647 : ℝ) (min 2147483647 z) with ⟨hm, hc⟩ | ⟨hm, hc⟩ <;>
      rcases min_cases (2147483647 : ℝ) z with ⟨hm', hc'⟩ | ⟨hm', hc'⟩ <;> rw [hm] <;> constructor <;> linarith
  · have hz : (2147483647 : ℝ) < z := by linarith
    have hz' : (2147483647 : Int) < z := by exact_mod_cast hz
    omega
  · have hz : (z : ℝ) < -2147483647 := by linarith
    have hz' : z < (-2147483647 : Int) := by exact_mod_cast hz
    omega

/-! ### The values -/

/-- A sum in codes, near the exact one, gives the exact part rounded. -/
theorem phasorPart_rounded {scale : Nat} {sum : Int} {exact : ℝ} (hscale : scale ≤ 2000000000)
    (hsum : |(sum : ℝ) - 1024 * cosUnit * exact| ≤ 2 ^ 111) :
    roundedPart (phasorPart scale sum) (scale * Real.sqrt 2 / 8388607 * (Real.sqrt 2 / 1024 * exact)) := by
  have hB := cosUnit_pos
  have hden : 0 < 2 ^ (19 + cosBits) * Config.fullScale := Nat.mul_pos (Nat.pow_pos (by decide)) (by decide)
  have hcast : ((2 ^ (19 + cosBits) * Config.fullScale : Nat) : ℝ) = 524288 * cosUnit * 8388607 := by
    rw [Nat.cast_mul, Nat.cast_pow, pow_add, Nat.cast_ofNat, ← cosUnit, show Config.fullScale = 8388607 from rfl]
    norm_num
  have hround := roundHalfAway_near (scale * sum) hden
  rw [hcast] at hround
  rw [phasorPart]
  refine clampInt_of_near ?_
  generalize roundHalfAway (scale * sum) _ = part at *
  push_cast at hround
  have hexact : (scale : ℝ) * Real.sqrt 2 / 8388607 * (Real.sqrt 2 / 1024 * exact) =
      scale * (1024 * cosUnit * exact) / (524288 * cosUnit * 8388607) := by
    have h2 : Real.sqrt 2 * Real.sqrt 2 = 2 := Real.mul_self_sqrt zero_le_two
    field_simp
    linear_combination (524288 * scale * exact : ℝ) * h2
  have hnear : |(scale : ℝ) * sum / (524288 * cosUnit * 8388607) -
      scale * (1024 * cosUnit * exact) / (524288 * cosUnit * 8388607)| ≤ 1 / 2 ^ 1000 := by
    have hwide : (2 : ℝ) ^ 111 * 2 ^ 1000 ≤ cosUnit := by
      rw [← pow_add, cosUnit]
      exact pow_le_pow_right₀ one_le_two (by rw [cosBits]; omega)
    have hs : (scale : ℝ) ≤ 2000000000 := by exact_mod_cast hscale
    have hk : (0 : ℝ) < 2 ^ 1000 := pow_pos zero_lt_two _
    have hd : (0 : ℝ) < 2 ^ 111 := pow_pos zero_lt_two _
    generalize (2 : ℝ) ^ 1000 = k at *
    generalize (2 : ℝ) ^ 111 = d at *
    rw [← sub_div, ← mul_sub, abs_div, abs_mul, Nat.abs_cast, abs_of_pos (show 0 < 524288 * cosUnit * 8388607 by positivity),
      div_le_div_iff₀ (by positivity) (by positivity), one_mul]
    calc (scale : ℝ) * |(sum : ℝ) - 1024 * cosUnit * exact| * k
        ≤ 2000000000 * d * k := by gcongr
      _ = 2000000000 * (d * k) := mul_assoc _ _ _
      _ ≤ 2000000000 * cosUnit := by gcongr
      _ ≤ 524288 * cosUnit * 8388607 := by linarith
  rw [hexact]
  calc |(part : ℝ) - scale * (1024 * cosUnit * exact) / (524288 * cosUnit * 8388607)|
      ≤ |(part : ℝ) - scale * sum / (524288 * cosUnit * 8388607)| + |(scale : ℝ) * sum / (524288 * cosUnit * 8388607) -
          scale * (1024 * cosUnit * exact) / (524288 * cosUnit * 8388607)| := abs_sub_le _ _ _
    _ ≤ 1 / 2 + 1 / 2 ^ 1000 := add_le_add hround hnear

/-- The total RMS is the exact one rounded half up. -/
theorem totalRms_eq (scale : Nat) {points : List Int} {x : Nat → ℝ} {P : Nat → Int}
    (hpoints : points = (List.range 1024).map P) (hx : ∀ m, (P m : ℝ) = 1024 * x m) :
    totalRms scale points = ⌊scale * Real.sqrt 2 / 8388607 *
      Real.sqrt ((∑ m ∈ Finset.range 1024, x m ^ 2) / 1024) + 1 / 2⌋₊ := by
  have hsum : (((points.map fun p => (p * p).natAbs).sum : Nat) : ℝ) = 1048576 * ∑ m ∈ Finset.range 1024, x m ^ 2 := by
    rw [hpoints, List.map_map, sum_map_range, Nat.cast_sum, Finset.mul_sum]
    refine Finset.sum_congr rfl fun m _ => ?_
    rw [Function.comp_apply, Nat.cast_natAbs, abs_of_nonneg (mul_self_nonneg _), Int.cast_mul, hx]
    ring
  have hnum : ((2 * (points.map fun p => (p * p).natAbs).sum * scale ^ 2 : Nat) : ℝ) / (2 ^ 30 * Config.fullScale ^ 2 : Nat) =
      (scale * Real.sqrt 2 / 8388607) ^ 2 * ((∑ m ∈ Finset.range 1024, x m ^ 2) / 1024) := by
    rw [Nat.cast_mul, Nat.cast_mul, hsum, div_pow, mul_pow, Real.sq_sqrt zero_le_two,
      show Config.fullScale = 8388607 from rfl]
    push_cast
    ring
  rw [totalRms, sqrtHalfUp_eq _ (by decide), hnum, Real.sqrt_mul (sq_nonneg _), Real.sqrt_sq (by positivity)]

namespace Window

variable (w : Window) (c : Fin 30)

theorem points_eq : w.points c = (List.range 1024).map (resample (w.codes c) w.n (w.delay.get c)) := by
  rw [points]

theorem points_getD {m : Nat} (hm : m < 1024) :
    (((w.points c).toArray.getD m 0 : Int) : ℝ) = 1024 * w.point c m := by
  rw [← w.resample_eq c m, points_eq, Array.getD_eq_getD_getElem?, List.getElem?_toArray, List.getElem?_map,
    List.getElem?_range hm,
    Option.map_some, Option.getD_some]

/-- The total RMS of an owned channel in use. -/
theorem entry_rms (clip : Bool) (ho : ownsChannel w.ownsSet w.ownsTap c = true) (hs : w.scale.get c ≠ 0) :
    (w.entry c clip).rms = totalRms (w.scale.get c) (w.points c) := by
  rw [entry, if_pos ho]
  simp only [if_neg hs]

/-- The phasors of an owned channel in use. -/
theorem entry_phasor (clip : Bool) (ho : ownsChannel w.ownsSet w.ownsTap c = true) (hs : w.scale.get c ≠ 0) (i : Fin 40) :
    (w.entry c clip).phasors.get i = phasorOf (w.scale.get c) (fold128 (w.points c).toArray) (i.val + 1) := by
  rw [entry, if_pos ho]
  simp only [if_neg hs, Table.get_make]

theorem entry_rms_exact (clip : Bool) (ho : ownsChannel w.ownsSet w.ownsTap c = true) (hs : w.scale.get c ≠ 0) :
    (w.entry c clip).rms = ⌊(w.scale.get c : ℝ) * Real.sqrt 2 / 8388607 *
      Real.sqrt ((∑ m ∈ Finset.range 1024, w.point c m ^ 2) / 1024) + 1 / 2⌋₊ := by
  rw [w.entry_rms c clip ho hs]
  exact totalRms_eq _ (w.points_eq c) fun m => w.resample_eq c m

/-- The angle of order `i` at point `m` is a multiple of the table's. -/
theorem angle_turns (i m : Nat) : 2 * Real.pi * (8 * ((i : ℝ) + 1)) * m / 1024 = turn128 * ((i + 1) * m : Nat) := by
  rw [turn128]
  push_cast
  ring

section
variable (hcode : ∀ j, |w.codeAt c j| ≤ 8388608) (hscale : w.scale.get c ≤ 2000000000)
include hcode hscale

theorem phasor_re_rounded (i : Fin 40) :
    roundedPart (phasorOf (w.scale.get c) (fold128 (w.points c).toArray) (i.val + 1)).re
      (w.scale.get c * Real.sqrt 2 / 8388607 * (Real.sqrt 2 / 1024 * ∑ m ∈ Finset.range 1024,
        w.point c m * Real.cos (2 * Real.pi * (8 * ((i.val : ℝ) + 1)) * m / 1024))) := by
  simp only [angle_turns]
  exact phasorPart_rounded hscale (weighted_near cos128_mod (g := fun j => Real.cos (turn128 * j)) cos128_near
    (fun m hm => w.points_getD c hm) (fun m => w.point_bound c m hcode) (i.val + 1))

theorem phasor_im_rounded (i : Fin 40) :
    roundedPart (phasorOf (w.scale.get c) (fold128 (w.points c).toArray) (i.val + 1)).im
      (w.scale.get c * Real.sqrt 2 / 8388607 * -(Real.sqrt 2 / 1024 * ∑ m ∈ Finset.range 1024,
        w.point c m * Real.sin (2 * Real.pi * (8 * ((i.val : ℝ) + 1)) * m / 1024))) := by
  simp only [angle_turns]
  have h := weighted_near sin128_mod (g := fun j => Real.sin (turn128 * j)) sin128_near
    (fun m hm => w.points_getD c hm) (fun m => w.point_bound c m hcode) (i.val + 1)
  rw [← mul_neg]
  refine phasorPart_rounded hscale ?_
  rw [← abs_neg]
  refine le_of_eq_of_le (congrArg _ ?_) h
  push_cast
  ring

end

end Window

/-- Settles O14: the table's entry by its exact values. -/
theorem phasorsAreFormed : Obligations.PhasorsAreFormed := by
  intro s v w ha hw hn
  have hown := s.accountedFor_own v w
  obtain ⟨htb, -⟩ := State.governSwitch_kept (s := s.accountedFor v w) (v := v) w.number (by rw [hown])
  have hexec : exec (.windowComplete v) s = .next ((s.accountedFor v w).governSwitch v w.number) := by
    rw [State.exec_windowComplete ha, State.windowComplete_due hw hn]
  refine ⟨_, w.toTable s.channels, hexec, by rw [htb, hown], fun c ho hs => ?_⟩
  rw [State.toTable_entry]
  refine ⟨w.entry_rms_exact c _ ho hs, fun hcode hscale i => ?_⟩
  rw [w.entry_phasor c _ ho hs i]
  exact ⟨w.phasor_re_rounded c hcode hscale i, w.phasor_im_rounded c hcode hscale i⟩

end Sys2Proof.Machine
end
